-- ==== Sys2Proof/Word.lean ====
section
/-! DEFINITION. The word types of the model and their plainest arithmetic.

A dictionary value, a register, a field of a cell or a frame is a natural number below two to the power of its width; the
width stands in the object table (Machine/Objects.lean) or beside the field. Octet strings are lists of octets. -/

namespace Sys2Proof

/-- One octet, below 256. -/
abbrev Octet := Nat

/-- An octet string, first octet first. -/
abbrev Octets := List Octet

/-- A 64-bit word, below 2 to the 64. -/
abbrev Word64 := Nat

/-- Finite maps from numbers, keys strictly rising. -/
abbrev Map (α : Type) := List (Nat × α)

/-- The dictionary's own maps: a sub-index's number to its value. -/
abbrev Dict := Map Nat

end Sys2Proof
end

