-- ==== Sys2Proof/Syntax.lean ====
section
/-! DEFINITION. The commands of the block: one constructor of `Instr` for each row of the table of operations and events.

A command carries what its sender or the world outside the device decides: who writes, which unit, what value; and the
physical facts the manual does not compute (what a memory check found, what a target on a bus answered, what a reference was
measured at). -/

namespace Sys2Proof

namespace Machine

/-- An accessor of the dictionary: its principal and the route its request came by (R55 to R57):
0 PF0, 1 PF1, 2 SMBus, 3 fabric, 4 the device's own firmware. -/
structure Accessor where
  principal : Nat
  route : Nat
deriving DecidableEq, Repr

/-- The kinds of stoppable function (R9). -/
inductive Fn where
  | port | link | group | chiplet | tenant | table | carve
deriving DecidableEq, Repr

/-- What the reference monitor measured of one input in the ending epoch (R446): parts per billion against Invar time and
against each input, and whether edges are present. -/
structure RefReading where
  ppb : Int
  versus : List Int
  edges : Bool
deriving DecidableEq, Repr

/-- What frames an SMBus transaction: the 7-bit address it names, and whether its PEC byte, if any, is right (R73, R74). -/
structure SmbFrame where
  addr : Nat
  pecOk : Bool
deriving DecidableEq, Repr

/-- One delivery of a receive ring, and what the store found in the cells that it reads: 0 nothing, 1 correctable, 2 uncorrectable, 3 an
uncorrectable error in the queue's link or descriptor memory (R266, R537). -/
structure RxPart where
  ring : Nat
  found : Nat
deriving DecidableEq, Repr

/-- A launch that is due: the egress queue, and what the store found in the cells, as PORT_SELECT has it (R266, R461). -/
structure LaunchPart where
  queue : Nat
  found : Nat
deriving DecidableEq, Repr

/-- A run of the boot steps: the last step it completes (7 boots to DONE), where other events may come before the next run, and a bit mask of
the stacks that train (R594). -/
structure BootPart where
  upTo : Nat
  trained : Nat
deriving DecidableEq, Repr

/-- How an I2C command ended on its bus: the completion code, and the octets it had put there (R373, R376). -/
structure I2cStop where
  code : Nat
  put : Nat
deriving DecidableEq, Repr

/-- How far an I2C command had come when a target held SCL low too long: the pulses of its recovery, the octets it had put on the bus, and
the data bytes transferred (R374, R375). -/
structure SclStop where
  pulses : Nat
  put : Nat
  bytes : Nat
deriving DecidableEq, Repr

/-- How the PCI Express link trains: its rate, as LINK_SPEED numbers it, and its width (R520). -/
structure LinkConfig where
  speed : Nat
  width : Nat
deriving DecidableEq, Repr

/-- One entry of a function's MSI-X table (R530). -/
structure MsixEntry where
  addr : Nat
  data : Nat
  masked : Bool
deriving DecidableEq, Repr

/-- The configuration space of a function, and its MSI-X table, as far as the device acts on them (R521, R530, R538, R543 to R546): the
power state D3hot and Bus Master Enable; MSI-X Enable and Function Mask and the table entries that were written (any other entry is masked);
Interrupt Disable; Enable Relaxed Ordering; the 10-bit and the 14-bit tag requester enables; Max_Read_Request_Size in octets; the completion
timeout in microseconds and its disable bit; the addresses of BAR0, BAR2 and BAR4. -/
structure FnConf where
  d3hot : Bool
  busMaster : Bool
  msix : Bool
  maskAll : Bool
  vectors : List (Nat × MsixEntry)
  intDisable : Bool
  relax : Bool
  tag10 : Bool
  tag14 : Bool
  readSize : Nat
  cplTimeout : Nat
  cplTimeoutOff : Bool
  bars : List Nat
deriving DecidableEq, Repr

/-- A function's configuration space after a reset (R523, R547), with the base specification's values. -/
def FnConf.reset : FnConf := ⟨false, false, false, false, [], false, true, false, false, 512, 50000, false, [0, 0, 0]⟩

/-- The link returns, trained; or, with the link up, the host writes the configuration space of PF0 and PF1 (R547, R548). -/
inductive LinkEvent where
  | trained (c : LinkConfig)
  | configured (c0 c1 : FnConf)
deriving DecidableEq, Repr

/-- A function leaves bus mastering: it enters D3hot, or Bus Master Enable is cleared (R546). -/
structure FreezePart where
  fn : Nat
  d3hot : Bool
deriving DecidableEq, Repr

/-- The fields of a hello train (R391). FLAGS: bit 7 MGMT_LOST, 6 FIXED_ID, 5 SEEN, 4 FENCED. -/
structure Hello where
  serial : Nat
  incarnation : Nat
  id : Nat
  verMax : Nat
  verMin : Nat
  link : Nat
  cls : Nat
  level : Nat
  flags : Nat
  peer : Nat
  reason : Nat
deriving DecidableEq, Repr

/-- The fields of an assignment train (R398). -/
structure AssignTrain where
  serial : Nat
  newId : Nat
  manager : Nat
  sender : Nat
  incarnation : Nat
deriving DecidableEq, Repr

end Machine

open Machine

/-- The commands. -/
inductive Instr where
  /-- SLOT_BOUNDARY. R19: the next slot boundary. -/
  | slotBoundary
  /-- EPOCH_BOUNDARY. R21: the epoch actions; refs the frequencies measured in the ending epoch (R446), rxPpm RX_PPM of ports (R362), rates RATE_PPB of links (R389), adapts the settings that lanes adapted to and hits the slots in which they held at a bound (R335). -/
  | epochBoundary (refs : List RefReading) (rxPpm : List (Nat × Int)) (rates : List (Nat × Int)) (adapts hits : List (Nat × Nat))
  /-- AGEING_SCAN. R229: the scanner's step on table t. -/
  | ageingScan (t : Nat)
  /-- DUMP_DUE. R508: the dump that fell due for set d at this boundary begins. -/
  | dumpDue (d : Nat)
  /-- DUMP_DONE. R509: dump set d ends. -/
  | dumpDone (d : Nat)
  /-- REACTION_EXPIRE. R564: the countdown of source src has reached zero. -/
  | reactionExpire (src : Nat)
  /-- REF_SWITCH. R327: chiplet chip switches to its standby. -/
  | refSwitch (chip : Nat)
  /-- TIME_REF_SWITCH. R448. -/
  | timeRefSwitch
  /-- REGISTER_WRITE. R32: one write; a DOMAIN's value carries a leading 1 octet. -/
  | registerWrite (who : Accessor) (index inst sub len val : Nat)
  /-- READ. R62: a mailbox READ, its doorbell's tag and the words of MB_REQUEST. -/
  | read (pf tag : Nat) (words : List Nat)
  /-- WRITE. R34. -/
  | write (pf tag : Nat) (words : List Nat)
  /-- DESCRIBE. R31. -/
  | describe (pf tag : Nat) (words : List Nat)
  /-- REMOTE_READ. R68: the READ at the head of the responder's queue. -/
  | remoteRead
  /-- REMOTE_WRITE. R70. -/
  | remoteWrite
  /-- REMOTE_DESCRIBE. R68. -/
  | remoteDescribe
  /-- REMOTE_RESPONSE. R64: the oldest response that has arrived. -/
  | remoteResponse
  /-- REMOTE_TIMEOUT. R71. -/
  | remoteTimeout (target txn : Nat)
  /-- TIME_UPPER_READ. R66: BAR0 read at offset. -/
  | timeUpperRead (pf offset : Nat)
  /-- FAST_OBJECT_WRITE. R67. -/
  | fastObjectWrite (pf offset val : Nat)
  /-- STATUS_SUMMARY. R73. -/
  | statusSummary (frame : SmbFrame)
  /-- SELECT. R73. -/
  | select (index inst sub : Nat) (frame : SmbFrame)
  /-- READ_VALUE. R74. -/
  | readValue (frame : SmbFrame)
  /-- WRITE_VALUE. R74: the value's octets, least significant first. -/
  | writeValue (bytes : List Nat) (frame : SmbFrame)
  /-- COMMIT_NOW. R42. -/
  | commitNow (who : Accessor)
  /-- COMMIT_AT. R43. -/
  | commitAt (who : Accessor)
  /-- ABORT. R45. -/
  | abort (who : Accessor)
  /-- DISCARD. R45. -/
  | discard (who : Accessor)
  /-- COMMIT_TAKE_EFFECT. R42. -/
  | commitTakeEffect
  /-- STOP. R50. -/
  | stop (who : Accessor) (fn : Fn) (n : Nat)
  /-- START. R52. -/
  | start (who : Accessor) (fn : Fn) (n : Nat)
  /-- POWER_OFF. R50. -/
  | powerOff (who : Accessor) (fn : Fn) (n : Nat)
  /-- START_COMPLETE. R50: ok is false where the function cannot reach RUNNING (R51). -/
  | startComplete (fn : Fn) (n : Nat) (ok : Bool)
  /-- STOP_COMPLETE. R54. -/
  | stopComplete (fn : Fn) (n : Nat)
  /-- STOP_LIMIT. R54. -/
  | stopLimit (fn : Fn) (n : Nat)
  /-- POWER_OFF_COMPLETE. R234. -/
  | powerOffComplete (fn : Fn) (n : Nat)
  /-- ARM. R439. -/
  | arm (who : Accessor)
  /-- CANCEL. R440. -/
  | cancel (who : Accessor)
  /-- TIME_CHANGE_APPLY. R439. -/
  | timeChangeApply
  /-- TIME_SWITCH_NOW. R448. -/
  | timeSwitchNow (who : Accessor)
  /-- REF_LOSS. R447: reference input (0 REFA to 3 REFD) shows no edge for 1 µs. -/
  | refLoss (input : Nat)
  /-- TSYNC_REQ_SEND. R450. -/
  | tsyncReqSend (link : Nat)
  /-- TSYNC_RECEIVED. R380, R450: the halves of the payload's first octet, and the six octets of the stamp. -/
  | tsyncReceived (link kind seq : Nat) (stamp : List Nat)
  /-- TSYNC_TIMEOUT. R450. -/
  | tsyncTimeout (link seq : Nat)
  /-- SERVO_TIMEOUT. R443. -/
  | servoTimeout
  /-- SYNC_LOSS. R443. -/
  | syncLoss
  /-- ALIGN_HOLD_EXPIRE. R452. -/
  | alignHoldExpire
  /-- PPS_IN. R458. -/
  | ppsIn
  /-- PPS_OUT_RISE. R459. -/
  | ppsOutRise
  /-- PPS_OUT_FALL. R459. -/
  | ppsOutFall
  /-- TIME_PLL_RELOCKED. R443. -/
  | timePllRelocked
  /-- RING_DB. R533: a 64-bit write of RING_DB in the BAR0 of function pf. -/
  | ringDb (pf ring val : Nat)
  /-- EVENT_DB. R542. -/
  | eventDb (pf principal val : Nat)
  /-- ENABLE. R532: of a DMA ring, or of an event ring when event is true. -/
  | enable (who : Accessor) (event : Bool) (n : Nat)
  /-- DISABLE. R532. -/
  | disable (who : Accessor) (event : Bool) (n : Nat)
  /-- RESUME. R532. -/
  | resume (who : Accessor) (event : Bool) (n : Nat)
  /-- TX_FETCH_COMPLETE. R535: the descriptors read from RING_HEAD on, four words each, and the packet's octets. -/
  | txFetchComplete (ring : Nat) (descs : List (List Nat)) (data : List Nat)
  /-- RX_DELIVER. R537. -/
  | rxDeliver (part : RxPart)
  /-- RX_HOLD_EXPIRE. R536. -/
  | rxHoldExpire (ring : Nat)
  /-- INT_HOLDOFF_EXPIRE. R539. -/
  | intHoldoffExpire (ring : Nat)
  /-- CPL_ERROR. R545: cause 2 CPL_UR, 3 CPL_CA, 4 CPL_POISONED. -/
  | cplError (tag cause : Nat)
  /-- CPL_TIMEOUT. R545. -/
  | cplTimeout (tag : Nat)
  /-- FUNCTION_LEVEL_RESET. R523. -/
  | functionLevelReset (fn : Nat)
  /-- ENDPOINT_FREEZE. R546. -/
  | endpointFreeze
  /-- FUNCTION_FREEZE. R546. -/
  | functionFreeze (part : FreezePart)
  /-- ENDPOINT_RESUMED. R547. -/
  | endpointResumed (ev : LinkEvent)
  /-- BAR2_WRITE. R211: one TLP's octets at a BAR2 offset. -/
  | bar2Write (pf offset : Nat) (bytes : List Nat)
  /-- BAR2_READ. R527: errs are the memory errors of the words read. -/
  | bar2Read (pf offset len : Nat) (errs : List (Nat × Nat))
  /-- FAULT_MESSAGE. R557: the collector takes the next message. -/
  | faultMessage
  /-- PAIR_MISMATCH. R559. -/
  | pairMismatch (pair : Nat)
  /-- PAIR_TEST. R559: detected tells whether the checker caught the disturbed pair. -/
  | pairTest (who : Accessor) (pair : Nat) (detected : Bool)
  /-- ACK. R565. -/
  | ack (who : Accessor) (src val : Nat)
  /-- FORCE. R560. -/
  | force (who : Accessor) (src : Nat)
  /-- PEWTER_HEARTBEAT. R570: p 0 Pewter A, 1 Pewter B. -/
  | pewterHeartbeat (p : Nat)
  /-- HEARTBEAT_MISSING. R570. -/
  | heartbeatMissing (p : Nat)
  /-- PEWTER_READY. R570. -/
  | pewterReady (p : Nat)
  /-- BOOT_TIMEOUT. R570. -/
  | bootTimeout (p : Nat)
  /-- RESTART. R572. -/
  | restart (who : Accessor) (p : Nat)
  /-- SWITCHOVER. R572. -/
  | switchover (who : Accessor) (p : Nat)
  /-- ALIVE_OUT_TOGGLE. R569. -/
  | aliveOutToggle
  /-- DOMAIN_ON. R582. -/
  | domainOn (who : Accessor) (dom : Nat)
  /-- DOMAIN_OFF. R582. -/
  | domainOff (who : Accessor) (dom : Nat)
  /-- DOMAIN_SWITCHED. R581. -/
  | domainSwitched
  /-- RAIL_OUT. R586: the rail read mv for us microseconds after goodMs milliseconds in band. -/
  | railOut (rail mv us goodMs : Nat)
  /-- TEMP_HIGH. R587. -/
  | tempHigh (sensor : Nat) (lowest mdeg : Int)
  /-- TEMP_CRIT. R587. -/
  | tempCrit (sensor : Nat) (mdeg : Int)
  /-- THERMAL_TRIP. R587. -/
  | thermalTrip (sensor : Nat) (mdeg : Int)
  /-- THERMAL_RECOVER. R587. -/
  | thermalRecover (mdegs : List Int)
  /-- CORE_PLL_LOSS. R588. -/
  | corePllLoss
  /-- AVS_STEP. R585: up tells which way the monitors need the setpoint to move. -/
  | avsStep (up : Bool)
  /-- RESET_ASSERT. R589: RESET_N sampled low this many times in a row. -/
  | resetAssert (samples : Nat)
  /-- RESET_RELEASE. R589. -/
  | resetRelease
  /-- DEVICE_RESET. R591. -/
  | deviceReset (who : Accessor)
  /-- INTERNAL_RESET. R591. -/
  | internalReset
  /-- INTERNAL_RESET_RELEASE. R591. -/
  | internalResetRelease
  /-- PERST_ASSERT. R593. -/
  | perstAssert
  /-- PERST_RELEASE. R593. -/
  | perstRelease
  /-- BOOT. R594: the last step that this run reaches and a bit mask of the stacks that train, bit masks of the chiplet PLLs that lock and the groups whose store read-back is good, the measured time, and the PCI Express link. -/
  | boot (run : BootPart) (chiplets images bootMs : Nat) (cfg : Option LinkConfig)
  /-- FLASH_READ. R600. -/
  | flashRead (who : Accessor)
  /-- FLASH_PROGRAM. R600. -/
  | flashProgram (who : Accessor)
  /-- FLASH_ERASE. R600. -/
  | flashErase (who : Accessor)
  /-- FLASH_DONE. R600. -/
  | flashDone (ok : Bool)
  /-- OTP_UNLOCK. R604. -/
  | otpUnlock (who : Accessor) (val : Nat)
  /-- RECORD. R604. -/
  | record (who : Accessor) (g : Nat) (bytes : List Nat)
  /-- OTP_PROGRAM_DONE. R604. -/
  | otpProgramDone (ok : Bool)
  /-- LAST_GASP. R606. -/
  | lastGasp
  /-- LAST_GASP_DONE. R608: n of the five parts written in us microseconds. -/
  | lastGaspDone (n us : Nat)
  /-- SMB_SCL_TIMEOUT. R634. -/
  | smbSclTimeout
  /-- TRANSFER_SLOT. R281. -/
  | transferSlot (stack channel t : Nat)
  /-- TRANSFER_COMPLETE. R279: errs are the memory errors of the words read. -/
  | transferComplete (stack channel : Nat) (errs : List (Nat × Nat))
  /-- SPILL_ISSUE. R254: a queue as 0x5018.01 names it. -/
  | spillIssue (q : Nat)
  /-- SPILL_COMPLETE. R258. -/
  | spillComplete (q : Nat)
  /-- FILL_ISSUE. R255. -/
  | fillIssue (q : Nat)
  /-- FILL_COMPLETE. R255, R267: correctable errors, and words of the page found uncorrectable. -/
  | fillComplete (q corrected : Nat) (bad : List Nat)
  /-- PAGE_RETIRE_CLEAR. R275. -/
  | pageRetireClear (who : Accessor) (stack : Nat)
  /-- LOCK. R213. -/
  | lock (who : Accessor) (t v : Nat)
  /-- LOCKED. R213. -/
  | locked (t : Nat)
  /-- TABLE_READ. R218: a CMD write whose OPCODE is 0x01. -/
  | tableRead (who : Accessor) (c cmd : Nat)
  /-- TABLE_WRITE. R218: OPCODE 0x02. -/
  | tableWrite (who : Accessor) (c cmd : Nat)
  /-- INSERT. R219: OPCODE 0x03. -/
  | insert (who : Accessor) (c cmd : Nat)
  /-- DELETE. R218: OPCODE 0x04. -/
  | delete (who : Accessor) (c cmd : Nat)
  /-- MOVE. R219: OPCODE 0x05. -/
  | move (who : Accessor) (c cmd : Nat)
  /-- SEARCH. R218: OPCODE 0x06. -/
  | search (who : Accessor) (c cmd : Nat)
  /-- COMMAND_COMPLETE. R217. -/
  | commandComplete (c : Nat) (errs : List (Nat × Nat))
  /-- SCRUB_READ. R231: memory, address and what the check found. -/
  | scrubRead (mem addr found : Nat)
  /-- RX_FRAME. R363: pcs 1 an error block, 2 a rate slip; tail is false when only a first part has arrived. -/
  | rxFrame (port pcs : Nat) (frame : List Nat) (tail : Bool) (stamp : Nat)
  /-- FRAME_TAIL. R364. -/
  | frameTail (port : Nat)
  /-- INGRESS_SLOT. R83. -/
  | ingressSlot (pipe : Nat) (errs : List (Nat × Nat))
  /-- WALK_COMPLETE. R142. -/
  | walkComplete (g id tag : Nat)
  /-- ASSIST_COMPLETE. R153. -/
  | assistComplete (g : Nat)
  /-- REINJECT. R149. -/
  | reinject (pipe : Nat) (errs : List (Nat × Nat))
  /-- WALK_TIMEOUT. R197. -/
  | walkTimeout (g id tag : Nat)
  /-- MIRROR_COPY. R109. -/
  | mirrorCopy (g : Nat)
  /-- REPLICATE. R246. -/
  | replicate (g : Nat)
  /-- PORT_SELECT. R301: found is the egress queue that the transmit scheduler takes. -/
  | portSelect (port found : Nat)
  /-- EGRESS_PASS. R103. -/
  | egressPass (pipe : Nat) (errs : List (Nat × Nat))
  /-- TRANSMIT_FRAME. R365. -/
  | transmitFrame (port stamp : Nat) (underrun : Option Nat)
  /-- PFC_HOLD_REFRESH. R114. -/
  | pfcHoldRefresh (port : Nat)
  /-- PAUSE_FRAME_SEND. R309. -/
  | pauseFrameSend (port : Nat)
  /-- PFC_REFRESH. R310. -/
  | pfcRefresh (port : Nat)
  /-- RX_PAUSE. R312. -/
  | rxPause (port quanta : Nat)
  /-- RX_PFC. R312. -/
  | rxPfc (port vector : Nat) (times : List Nat)
  /-- PAUSE_EXPIRE. R312. -/
  | pauseExpire (port prio : Nat)
  /-- LOAD. R161. -/
  | load (who : Accessor) (g : Nat)
  /-- IMAGE_FETCH_COMPLETE. R163: the image's octets, and whether the stores read back right. -/
  | imageFetchComplete (g : Nat) (bytes : List Nat) (storeOk : Bool)
  /-- BOARD_TABLE_LOAD. R332. -/
  | boardTableLoad (who : Accessor)
  /-- BOARD_TABLE_FETCH_COMPLETE. R332. -/
  | boardTableFetchComplete (bytes : List Nat)
  /-- WHEEL_FINE_SLOT. R306. -/
  | wheelFineSlot
  /-- WHEEL_COARSE_SLOT. R306. -/
  | wheelCoarseSlot
  /-- LANE_READY. R335: the TRAIN_STATE reached, the partner's tap requests, and what the receiver adapted to. -/
  | laneReady (lane reached : Nat) (taps : List Nat) (rxEq hits : Nat)
  /-- CDR_LOSS. R336. -/
  | cdrLoss (lane : Nat)
  /-- RETRAIN. R336. -/
  | retrain (who : Accessor) (lane : Nat)
  /-- SWITCH_NOW. R327. -/
  | switchNow (who : Accessor) (chip : Nat)
  /-- TRAIN_TIMEOUT. R357. -/
  | trainTimeout (port : Nat)
  /-- INJECT. R340. -/
  | inject (who : Accessor) (lane val : Nat)
  /-- LANE_TEST_CLEAR. R340. -/
  | laneTestClear (who : Accessor) (lane : Nat)
  /-- FEC_CODEWORD. R341, R356: symbols corrected on each lane; of a codeword that could not be corrected, the frames that it overlaps. -/
  | fecCodeword (lane : Nat) (syms : List Nat) (bad : Option Nat)
  /-- FEC_CLEAR. R342. -/
  | fecClear (who : Accessor) (n : Nat)
  /-- FLIT_RECEIVED. R343: the number the sender gave the flit, and its octets as received. -/
  | flitReceived (chip : Nat) (toCore : Bool) (seq : Nat) (flit : List Nat)
  /-- D2D_RETRAIN_DONE. R343, R346: whether each direction of the link trained. -/
  | d2dRetrainDone (chip : Nat) (toCore toPhy : Bool)
  /-- LINK_STATE_CHANGE. R357: PCS alignment, and what the far end signals: 0 nothing, 1 local, 2 remote fault. -/
  | linkStateChange (port : Nat) (aligned : Bool) (fault : Nat)
  /-- PORT_COUNTER_CLEAR. R369. -/
  | portCounterClear (who : Accessor) (port : Nat)
  /-- I2C_READ. R373. -/
  | i2cRead (bus pulses : Nat) (ends : I2cStop) (bytes : Nat) (data : List Nat)
  /-- I2C_WRITE. R373. -/
  | i2cWrite (bus pulses : Nat) (ends : I2cStop) (bytes : Nat)
  /-- I2C_PROBE. R373. -/
  | i2cProbe (bus pulses : Nat) (ends : I2cStop)
  /-- I2C_RESET. R375. -/
  | i2cReset (who : Accessor) (bus : Nat)
  /-- SCL_TIMEOUT. R375. -/
  | sclTimeout (bus : Nat) (ends : SclStop) (data : List Nat)
  /-- CELL_RECEIVED. R385. -/
  | cellReceived (link seq : Nat) (ack : Option Nat) (header payload : List Nat)
  /-- ACK_RECEIVED. R380, R385: the two payload octets that hold ACK_SEQ and NAK, and the five reserved ones. -/
  | ackReceived (link : Nat) (head rest : List Nat)
  /-- CREDIT_RECEIVED. R380, R387: the payload octets of the block. -/
  | creditReceived (link : Nat) (payload : List Nat)
  /-- HELLO_RECEIVED. R391. -/
  | helloReceived (link : Nat) (h : Hello)
  /-- ASSIGN_RECEIVED. R398. -/
  | assignReceived (link : Nat) (t : AssignTrain)
  /-- FILLER_RECEIVED. R388: 0 a FILLER passes, 1 it is deleted, 2 one is inserted beside it, 3 an IDLE is deleted, 4 a FILLER is inserted between other units. -/
  | fillerReceived (link action : Nat)
  /-- UNKNOWN_BLOCK. R385. -/
  | unknownBlock (link : Nat)
  /-- ELASTIC_SLIP. R389. -/
  | elasticSlip (link : Nat)
  /-- NAK_REPEAT. R386. -/
  | nakRepeat (link : Nat)
  /-- REPLAY_TIMEOUT. R386. -/
  | replayTimeout (link : Nat)
  /-- CELL_SEND. R388: found is the virtual lane that sends. -/
  | cellSend (link found : Nat)
  /-- CREDIT_SEND. R387. -/
  | creditSend (link : Nat)
  /-- HELLO_SEND. R392. -/
  | helloSend (link : Nat)
  /-- NEIGHBOUR_LOST. R393. -/
  | neighbourLost (link : Nat)
  /-- REASM_TIMEOUT. R384. -/
  | reasmTimeout (src tag : Nat)
  /-- SET_ID. R399. -/
  | setId (who : Accessor) (id : Nat)
  /-- ASSIGN. R398. -/
  | assign (who : Accessor) (link : Nat)
  /-- PROXY_REQUEST. R402. -/
  | proxyRequest (who : Accessor) (link : Nat) (bytes : List Nat)
  /-- FENCE. R403. -/
  | fence (who : Accessor) (val : Nat)
  /-- IDENTITY_WRITE. R397: a sub-index, 1 to 3, of the entry of device ID d. -/
  | identityWrite (who : Accessor) (d sub val : Nat)
  /-- REQUEST. R414: the REQUEST messages due at the next boundary. -/
  | request
  /-- GRANT. R417: the GRANT messages due at the next boundary. -/
  | grant
  /-- ACCEPT. R416: the ACCEPT messages due at the next boundary. -/
  | accept
  /-- STANDING. R419: the STANDING messages due at the next boundary. -/
  | standing
  /-- GRANT_UNANSWERED. R416. -/
  | grantUnanswered
  /-- WINDOW_END. R417. -/
  | windowEnd
  /-- GRANT_WRITEOFF. R416. -/
  | grantWriteoff
  /-- REQ_STALE. R414: VOQ v. -/
  | reqStale (v : Nat)
  /-- REACH_CHANGE. R425. -/
  | reachChange (d : Nat)
  /-- HOLD_TIME_EXPIRE. R425. -/
  | holdTimeExpire (d : Nat)
  /-- STANDING_PERIOD. R420. -/
  | standingPeriod (dest port tc : Nat)
  /-- STANDING_LAPSE. R419. -/
  | standingLapse (dest port tc : Nat)
  /-- LAUNCH_DUE. R461. -/
  | launchDue (due : LaunchPart)
  /-- RETIRE. R481. -/
  | retire (who : Accessor) (g : Nat)
  /-- ADOPT. R485. -/
  | adopt (who : Accessor) (g : Nat)
  /-- FLOW_FLUSH. R499. -/
  | flowFlush
  /-- EXPORT_CLOSE. R493. -/
  | exportClose (c : Nat)
  /-- TRIGGER. R517. -/
  | trigger (who : Accessor) (d : Nat)
  /-- TRACE_SEED. R501. -/
  | traceSeed (who : Accessor) (g val : Nat)
  /-- STACK_TRAINED. R582. -/
  | stackTrained (k : Nat) (ok : Bool)
  /-- XL_ALIGNED. R395. -/
  | xlAligned (link : Nat)
  /-- CHECKER_LOCK. R338, R340: the symbols received, the two bits of their levels as words of `count` bits, the first symbol highest. -/
  | checkerLock (lane count hi lo : Nat)
  /-- FAST_OBJECT_READ. R66. -/
  | fastObjectRead (pf offset : Nat)
deriving DecidableEq, Repr

end Sys2Proof
end

