-- ==== Sys2Proof/Config.lean ====
section
/-! DEFINITION. What the specification leaves open and the model does not choose: constants without a body, so that no proof
can lean on a value of theirs. -/

namespace Sys2Proof

/-- Free value number `n` of a run: a value the specification leaves open, fresh for each `n` (State.freeIx counts them). -/
opaque Config.freeValue : Nat → Nat

/-- Whether a signature block verifies: the public key, the digest and the signature (R160, R161, R598). -/
opaque Config.signatureValid : (key digest sig : Octets) → Bool

/-- The form of the linear-feedback shift registers, of four (`Machine.lfsrStep`): the manual gives their polynomials, and not where the
feedback enters nor the direction they shift in (R259, R501). -/
opaque Config.lfsrForm : Nat

/-- The bit of the short stress pattern that follows its last 64: the manual names the pattern of IEEE 802.3 and does not give it (R338). -/
opaque Config.ssprqNext : (last : Nat) → Nat

/-- Which bit of a block of 1,024 the generator inverts, by an injection's free value and the blocks that are left (R340). -/
opaque Config.injectAt : (spot left : Nat) → Nat

/-- SHA-384 of an octet string, 48 octets (R160, R332). -/
opaque Config.sha384 : Octets → Octets

/-- Which way a quotient that the manual leaves unrounded goes when the division is not exact: up, or down. -/
opaque Config.roundUp : (num den : Nat) → Bool

/-! ## The parse graph and the deparse list (R87, R100, R101)

The manual gives what these do and leaves the layout of the image sections that carry them to Crervo (R159); the functions from
a section's octets to their content are therefore open. -/

/-- How long a header is (R87): fixed, or a field of up to 8 bits at a bit offset, times 1, 2, 4 or 8, plus a constant. -/
inductive HdrLen where
  | fixed (n : Nat)
  | field (bitOffset width times plus : Nat)
deriving DecidableEq, Repr

/-- One ternary entry of a parse state (R87): value and mask, the header's length, the next state (none: END), a HDR_VALID bit,
and extracts of (offset from the header's start, length, offset in the fields region). -/
structure ParseEntry where
  value : Nat
  mask : Nat
  len : HdrLen
  next : Option Nat
  valid : Option Nat
  extracts : List (Nat × Nat × Nat)
deriving DecidableEq, Repr

/-- One state of a parse graph (R87): where its 32 bits lie from the header's start, and its entries. -/
structure ParseState where
  offset : Nat
  entries : List ParseEntry
deriving DecidableEq, Repr

/-- One entry of a deparse list (R100): a HDR_VALID bit, a fields-region offset, a length. -/
structure DeparseEntry where
  valid : Nat
  offset : Nat
  len : Nat
deriving DecidableEq, Repr

/-- A checksum operation of the egress deparser (R101): an IPv4 header's checksum recomputed, or a TCP or UDP checksum updated
for the bytes of some fields-region ranges that changed. Headers are named by their deparse entry. -/
inductive ChecksumOp where
  | ipv4 (entry : Nat)
  | transport (udp : Bool) (entry offset : Nat) (covered : List (Nat × Nat))
deriving DecidableEq, Repr

/-- The parse graph that a PARSE section holds. -/
opaque Config.parseGraph : Octets → List ParseState

/-- The deparse list that a DEPARSE section holds. -/
opaque Config.deparseList : Octets → List DeparseEntry

/-- The checksum operations that a DEPARSE section holds. -/
opaque Config.checksumOps : Octets → List ChecksumOp

/-- The header vector word that a DEPARSE section names for the PTP edit word, if it names one (R456). -/
opaque Config.ptpWord : Octets → Option Nat

/-- The egress pipeline and MAC latency by which a launch packet is due ahead of its launch time, in ns (R461). -/
opaque Config.launchLead : Nat

/-- DICT_VERSION of a firmware version: the manual gives no layout version of any firmware (R76). -/
opaque Config.dictVersion : (fwVersion : Nat) → Nat

/-- Bit FW of the descriptor of a REQUEST: its STOP and POWER_OFF are served by hardware, its START by firmware (R31, R49). -/
opaque Config.requestFw : Bool

/-- The Melevo vendor ID and the one device ID of every variant: the manual gives no number for either (R522). -/
opaque Config.vendorId : Nat
@[inherit_doc Config.vendorId] opaque Config.deviceId : Nat

/-- FLASH_SIZE in MiB, as the board's flash reports it (R616). -/
opaque Config.flashSize : Nat

end Sys2Proof
end

