-- ==== Sys2Proof/Machine/Bits.lean ====
section
/-! DEFINITION. Bit fields, sign extension, byte order, CRCs and finite maps. -/

namespace Sys2Proof.Machine

/-! ## Fields -/

/-- Bits [hi:lo] of a word. -/
def bits (w hi lo : Nat) : Nat := w / 2 ^ lo % 2 ^ (hi + 1 - lo)

/-- Bit i of a word. -/
def bit (w i : Nat) : Bool := w / 2 ^ i % 2 == 1

/-- A truth value as 0 or 1. -/
def b2n (b : Bool) : Nat := if b then 1 else 0

/-- A word with bits [hi:lo] replaced by the low bits of `v`. -/
def setBits (w hi lo v : Nat) : Nat := w - bits w hi lo * 2 ^ lo + v % 2 ^ (hi + 1 - lo) * 2 ^ lo

/-- A word with bit i set or cleared. -/
def setBit (w i : Nat) (b : Bool) : Nat := setBits w i i (b2n b)

/-- The indexes below n at which w has a 1. -/
def onesBelow (w n : Nat) : List Nat := (List.range n).filter (bit w)

/-- The two's-complement reading of a word of `n` bits. -/
def sext (n w : Nat) : Int := if w < 2 ^ (n - 1) then (w : Int) else (w : Int) - (2 : Int) ^ n

/-- The word of `n` bits that two's complement gives an integer. -/
def toWord (n : Nat) (i : Int) : Nat := (i % (2 : Int) ^ n).toNat

/-- An integer forced into a range. -/
def clampInt (lo hi i : Int) : Int := if i < lo then lo else if hi < i then hi else i

/-- Division rounding up. -/
def ceilDiv (a b : Nat) : Nat := (a + b - 1) / b

/-! ## Octets -/

/-- The number an octet string spells, first octet most significant (R2). -/
def beNat (bs : Octets) : Nat := bs.foldl (fun a b => a * 256 + b % 256) 0

/-- The number an octet string spells, first octet least significant. -/
def leNat (bs : Octets) : Nat := bs.foldr (fun b a => a * 256 + b % 256) 0

/-- `n` octets of a number, least significant first. -/
def toLE : Nat → Nat → Octets
  | 0, _ => []
  | n + 1, v => v % 256 :: toLE n (v / 256)

/-- `n` octets of a number, most significant first. -/
def toBE (n v : Nat) : Octets := (toLE n v).reverse

/-- The seven payload octets of a control block (12_fabric.md R380). -/
def payloadOk (bs : Octets) : Bool := bs.length == 7 && bs.all (· < 256)

/-- A slice of an octet string; octets beyond its end read zero. -/
def slice (bs : Octets) (at_ n : Nat) : Octets :=
  let t := (bs.drop at_).take n
  t ++ List.replicate (n - t.length) 0

/-- The number in `n` octets at an offset, network byte order. -/
def fieldAt (bs : Octets) (at_ n : Nat) : Nat := beNat (slice bs at_ n)

/-- An octet string with octets written at an offset; octets that would fall beyond its end are dropped. -/
def patch (bs : Octets) (at_ : Nat) (new : Octets) : Octets :=
  bs.take at_ ++ new.take (bs.length - at_) ++ bs.drop (at_ + new.length)

/-- A DOMAIN value as one number: a leading 1, then the octets; the empty string is 0. -/
def domOf (bs : Octets) : Nat := if bs.isEmpty then 0 else bs.foldl (fun a b => a * 256 + b % 256) 1

/-- The octets of a DOMAIN value, for at most `n` octets. -/
def domOctetsAux : Nat → Nat → Octets → Octets
  | 0, _, acc => acc
  | n + 1, v, acc => if v ≤ 1 then acc else domOctetsAux n (v / 256) (v % 256 :: acc)

/-- The octets of a DOMAIN value. No DOMAIN of the dictionary is longer than 256 octets. -/
def domOctets (v : Nat) : Octets := domOctetsAux 256 v []

/-- A list of 64-bit words as octets, each word little-endian (R2). -/
def wordsLE (ws : List Word64) : Octets := ws.flatMap (toLE 8)

/-- Octets as 64-bit little-endian words, the last padded with zeros. -/
def octetsWordsAux : Nat → Octets → List Word64
  | 0, _ => []
  | n + 1, bs => leNat (bs.take 8) :: octetsWordsAux n (bs.drop 8)

/-- Octets as 64-bit little-endian words, the last padded with zeros. -/
def octetsWords (bs : Octets) : List Word64 := octetsWordsAux (ceilDiv bs.length 8) bs

/-! ## CRCs (R176) -/

/-- One bit of a reflected CRC register. -/
def crcBit (poly r : Nat) : Nat := if r % 2 = 1 then Nat.xor (r / 2) poly else r / 2

/-- One octet of a reflected CRC. -/
def crcOctet (poly r b : Nat) : Nat :=
  crcBit poly (crcBit poly (crcBit poly (crcBit poly (crcBit poly (crcBit poly (crcBit poly (crcBit poly
    (Nat.xor r (b % 256)))))))))

/-- A reflected 32-bit CRC with its seed loaded as written and its result complemented. -/
def crc32With (poly seed : Nat) (bs : Octets) : Nat := Nat.xor (bs.foldl (crcOctet poly) seed) 0xFFFFFFFF

/-- CRC-32C with a seed. -/
def crc32c (seed : Nat) (bs : Octets) : Nat := crc32With 0x82F63B78 seed bs

/-- CRC-32 with a seed; with all ones, the FCS of IEEE 802.3. -/
def crc32 (seed : Nat) (bs : Octets) : Nat := crc32With 0xEDB88320 seed bs

/-! ## Finite maps -/

/-- The value at a key. -/
def mfind {α : Type} : Map α → Nat → Option α
  | [], _ => none
  | (k', v) :: t, k => if k = k' then some v else mfind t k

/-- A map without a key. -/
def mdel {α : Type} : Map α → Nat → Map α
  | [], _ => []
  | (k', v) :: t, k => if k = k' then mdel t k else (k', v) :: mdel t k

/-- A map with a key set, its keys kept rising. -/
def mins {α : Type} : Map α → Nat → α → Map α
  | [], k, v => [(k, v)]
  | (k', v') :: t, k, v =>
    if k < k' then (k, v) :: (k', v') :: t else if k = k' then (k, v) :: t else (k', v') :: mins t k v

/-- The value at a key, or a default. -/
def mget {α : Type} (d : α) (m : Map α) (k : Nat) : α := (mfind m k).getD d

/-- A map with a key set; a value equal to the default removes the key. -/
def mput {α : Type} [DecidableEq α] (d : α) (m : Map α) (k : Nat) (v : α) : Map α :=
  if v = d then mdel m k else mins m k v

/-- A map in canonical form: keys strictly rising. -/
def msorted {α : Type} : Map α → Bool
  | [] => true
  | [_] => true
  | (k, _) :: (k', v') :: t => decide (k < k') && msorted ((k', v') :: t)

/-- Every key and value of a map meets a test. -/
def mall {α : Type} (p : Nat → α → Bool) (m : Map α) : Bool := m.all (fun e => p e.1 e.2)

/-- The element of a list at an index replaced by its image. -/
def lmodify {α : Type} (l : List α) (n : Nat) (f : α → α) : List α :=
  match l, n with
  | [], _ => []
  | a :: t, 0 => f a :: t
  | a :: t, n + 1 => a :: lmodify t n f

/-- A list without the first element that meets a test. -/
def lerase {α : Type} (p : α → Bool) : List α → List α
  | [] => []
  | a :: t => if p a then t else a :: lerase p t

end Sys2Proof.Machine
end

