-- ==== Sys2Proof/Machine/Names.lean ====
section
/-! DEFINITION. The names of the dictionary's sub-indices: one constant for each row of the manual's object tables.
A name is the object's short name, an underscore and the sub-index's own name; each constant is the pair (index, sub-index). -/

namespace Sys2Proof.Machine

/-- A sub-index of an object: 16-bit index and 8-bit sub-index (R28). -/
structure Reg where
  index : Nat
  sub : Nat
deriving DecidableEq, Repr

namespace R

/-! ### 0x1000 (02_object_dictionary.md R76) -/
def ident_PART_CODE : Reg := ⟨0x1000, 0x01⟩
def ident_SILICON_REV : Reg := ⟨0x1000, 0x02⟩
def ident_SERIAL : Reg := ⟨0x1000, 0x03⟩
def ident_INCARNATION : Reg := ⟨0x1000, 0x04⟩
def ident_FW_VERSION : Reg := ⟨0x1000, 0x05⟩
def ident_DICT_VERSION : Reg := ⟨0x1000, 0x06⟩
def ident_SETTINGS_GEN : Reg := ⟨0x1000, 0x07⟩
def ident_DEVICE_ID : Reg := ⟨0x1000, 0x08⟩
def ident_FEATURE_LEVEL : Reg := ⟨0x1000, 0x09⟩

/-! ### 0x1008 (02_object_dictionary.md R77) -/
def svc_SERVICE_STATE : Reg := ⟨0x1008, 0x01⟩
def svc_ACTIVE_PEWTER : Reg := ⟨0x1008, 0x02⟩
def svc_REQUESTS : Reg := ⟨0x1008, 0x03⟩
def svc_LAST_ERROR_REF : Reg := ⟨0x1008, 0x04⟩
def svc_LAST_ERROR_STATUS : Reg := ⟨0x1008, 0x05⟩
def svc_FAST_FAILED : Reg := ⟨0x1008, 0x06⟩
def svc_REMOTE_TIMEOUT : Reg := ⟨0x1008, 0x07⟩
def svc_REMOTE_RETRIES : Reg := ⟨0x1008, 0x08⟩
def svc_REMOTE_LOST : Reg := ⟨0x1008, 0x09⟩

/-! ### 0x1010 (02_object_dictionary.md R39) -/
def commit_SCOPE : Reg := ⟨0x1010, 0x01⟩
def commit_TRIGGER : Reg := ⟨0x1010, 0x02⟩
def commit_COMMIT_AT : Reg := ⟨0x1010, 0x03⟩
def commit_STATUS : Reg := ⟨0x1010, 0x04⟩
def commit_APPLIED_SLOT : Reg := ⟨0x1010, 0x05⟩
def commit_COMMIT_COUNT : Reg := ⟨0x1010, 0x06⟩
def commit_CONFLICT_REF : Reg := ⟨0x1010, 0x07⟩
def commit_STAGED_PENDING : Reg := ⟨0x1010, 0x08⟩

/-! ### 0x1018 (15_generations.md R490) -/
def gen_CURRENT : Reg := ⟨0x1018, 0x01⟩
def gen_PREV_STATE : Reg := ⟨0x1018, 0x02⟩
def gen_NEXT : Reg := ⟨0x1018, 0x03⟩
def gen_RETIRE : Reg := ⟨0x1018, 0x04⟩
def gen_ADOPT : Reg := ⟨0x1018, 0x05⟩
def gen_GEN_STATE : Reg := ⟨0x1018, 0x06⟩
def gen_GEN_LEAD : Reg := ⟨0x1018, 0x07⟩
def gen_PREV_HELD : Reg := ⟨0x1018, 0x08⟩
def gen_OLDEST_PREV : Reg := ⟨0x1018, 0x09⟩
def gen_LAST_HELD_SLOT : Reg := ⟨0x1018, 0x0A⟩
def gen_PREV_WHERE : Reg := ⟨0x1018, 0x0B⟩
def gen_ADVANCED_SLOT : Reg := ⟨0x1018, 0x0C⟩
def gen_RETIRED_SLOT : Reg := ⟨0x1018, 0x0D⟩
def gen_STRAY_PACKETS : Reg := ⟨0x1018, 0x0E⟩
def gen_LAST_STRAY : Reg := ⟨0x1018, 0x0F⟩
def gen_FABRIC_LEVEL : Reg := ⟨0x1018, 0x10⟩

/-! ### 0x1020 (02_object_dictionary.md R56) -/
def princ_ENABLE : Reg := ⟨0x1020, 0x01⟩
def princ_RIGHTS : Reg := ⟨0x1020, 0x02⟩
def princ_ROUTE : Reg := ⟨0x1020, 0x03⟩
def princ_DEVICE_ID : Reg := ⟨0x1020, 0x04⟩
def princ_TENANT : Reg := ⟨0x1020, 0x05⟩

/-! ### 0x2000 (10_lanes.md R347) -/
def chip_STATE : Reg := ⟨0x2000, 0x01⟩
def chip_REQUEST : Reg := ⟨0x2000, 0x02⟩
def chip_STATE_SINCE : Reg := ⟨0x2000, 0x03⟩
def chip_REF_PRIMARY : Reg := ⟨0x2000, 0x04⟩
def chip_REF_STANDBY : Reg := ⟨0x2000, 0x05⟩
def chip_AUTO_SWITCH : Reg := ⟨0x2000, 0x06⟩
def chip_REF_IN_USE : Reg := ⟨0x2000, 0x07⟩
def chip_SWITCH_NOW : Reg := ⟨0x2000, 0x08⟩
def chip_SWITCH_PENDING : Reg := ⟨0x2000, 0x09⟩
def chip_SWITCHES : Reg := ⟨0x2000, 0x0A⟩
def chip_LAST_SWITCH : Reg := ⟨0x2000, 0x0B⟩
def chip_LANES_READY : Reg := ⟨0x2000, 0x0C⟩

/-! ### 0x2008 (10_lanes.md R348) -/
def lane_OWNER : Reg := ⟨0x2008, 0x01⟩
def lane_LANE_MODE : Reg := ⟨0x2008, 0x02⟩
def lane_TRAIN_STATE : Reg := ⟨0x2008, 0x03⟩
def lane_PHYS_TX : Reg := ⟨0x2008, 0x04⟩
def lane_PHYS_RX : Reg := ⟨0x2008, 0x05⟩
def lane_POLARITY : Reg := ⟨0x2008, 0x06⟩
def lane_EQ_SOURCE : Reg := ⟨0x2008, 0x07⟩
def lane_TX_FIR : Reg := ⟨0x2008, 0x08⟩
def lane_TX_OVERRIDE : Reg := ⟨0x2008, 0x09⟩
def lane_RX_EQ : Reg := ⟨0x2008, 0x0A⟩
def lane_RETRAIN : Reg := ⟨0x2008, 0x0B⟩
def lane_RETRAINS : Reg := ⟨0x2008, 0x0C⟩
def lane_CDR_LOSSES : Reg := ⟨0x2008, 0x0D⟩
def lane_BOUND_HITS : Reg := ⟨0x2008, 0x0E⟩
def lane_TRAIN_TIME : Reg := ⟨0x2008, 0x0F⟩

/-! ### 0x2018 (10_lanes.md R349) -/
def ltest_PATTERN : Reg := ⟨0x2018, 0x01⟩
def ltest_TEST_MODE : Reg := ⟨0x2018, 0x02⟩
def ltest_GEN_EN : Reg := ⟨0x2018, 0x03⟩
def ltest_CHK_EN : Reg := ⟨0x2018, 0x04⟩
def ltest_LOOPBACK : Reg := ⟨0x2018, 0x05⟩
def ltest_LOCKED : Reg := ⟨0x2018, 0x06⟩
def ltest_BITS : Reg := ⟨0x2018, 0x07⟩
def ltest_ERRORS : Reg := ⟨0x2018, 0x08⟩
def ltest_RESYNCS : Reg := ⟨0x2018, 0x09⟩
def ltest_INJECT : Reg := ⟨0x2018, 0x0A⟩
def ltest_CLEAR : Reg := ⟨0x2018, 0x0B⟩

/-! ### 0x2020 (10_lanes.md R350) -/
def fec_BIN0 : Reg := ⟨0x2020, 0x01⟩
def fec_UNCORRECTABLE : Reg := ⟨0x2020, 0x11⟩
def fec_CODEWORDS : Reg := ⟨0x2020, 0x12⟩
def fec_HIGHEST_BIN : Reg := ⟨0x2020, 0x13⟩
def fec_MARGIN_SYMBOLS : Reg := ⟨0x2020, 0x14⟩
def fec_MARGIN_EVENTS : Reg := ⟨0x2020, 0x15⟩
def fec_CLEAR : Reg := ⟨0x2020, 0x16⟩
def fec_LANE_SYMBOLS0 : Reg := ⟨0x2020, 0x18⟩

/-! ### 0x2030 (10_lanes.md R351) -/
def board_SOURCE : Reg := ⟨0x2030, 0x01⟩
def board_ADDRESS : Reg := ⟨0x2030, 0x02⟩
def board_LENGTH : Reg := ⟨0x2030, 0x03⟩
def board_LOAD : Reg := ⟨0x2030, 0x04⟩
def board_STATUS : Reg := ⟨0x2030, 0x05⟩
def board_BOUND : Reg := ⟨0x2030, 0x06⟩
def board_BOARD_ID : Reg := ⟨0x2030, 0x07⟩
def board_TABLE_VERSION : Reg := ⟨0x2030, 0x08⟩
def board_DIGEST : Reg := ⟨0x2030, 0x09⟩
def board_RECORDS : Reg := ⟨0x2030, 0x0A⟩
def board_DEFAULTED : Reg := ⟨0x2030, 0x0B⟩

/-! ### 0x2038 (10_lanes.md R352) -/
def d2d_LINK_STATE : Reg := ⟨0x2038, 0x01⟩
def d2d_FLITS_TX : Reg := ⟨0x2038, 0x02⟩
def d2d_FLITS_RX : Reg := ⟨0x2038, 0x03⟩
def d2d_RETRIES : Reg := ⟨0x2038, 0x04⟩
def d2d_RETRIES_LAST_EPOCH : Reg := ⟨0x2038, 0x05⟩
def d2d_RETRY_LIMIT : Reg := ⟨0x2038, 0x06⟩
def d2d_RETRAINS : Reg := ⟨0x2038, 0x07⟩
def d2d_FLITS_LOST : Reg := ⟨0x2038, 0x08⟩

/-! ### 0x2040 (11_ethernet_ports.md R370) -/
def port_STATE : Reg := ⟨0x2040, 0x01⟩
def port_REQUEST : Reg := ⟨0x2040, 0x02⟩
def port_STATE_SINCE : Reg := ⟨0x2040, 0x03⟩
def port_PORT_MODE : Reg := ⟨0x2040, 0x04⟩
def port_FEC_MODE : Reg := ⟨0x2040, 0x05⟩
def port_LINK_TRAINING : Reg := ⟨0x2040, 0x06⟩
def port_TRAIN_TIMEOUT : Reg := ⟨0x2040, 0x07⟩
def port_MAX_FRAME : Reg := ⟨0x2040, 0x08⟩
def port_MAC_ADDRESS : Reg := ⟨0x2040, 0x09⟩
def port_LINK_STATE : Reg := ⟨0x2040, 0x0A⟩
def port_LINK_CHANGES : Reg := ⟨0x2040, 0x0B⟩
def port_RX_PPM : Reg := ⟨0x2040, 0x0C⟩
def port_DEGRADE_LIMIT : Reg := ⟨0x2040, 0x0D⟩
def port_DEGRADE_EPOCHS : Reg := ⟨0x2040, 0x0E⟩
def port_DEGRADE_RETRAINS : Reg := ⟨0x2040, 0x0F⟩
def port_LINK_UP_SINCE : Reg := ⟨0x2040, 0x10⟩

/-! ### 0x2048 (11_ethernet_ports.md R371) -/
def pcnt_RX_FRAMES : Reg := ⟨0x2048, 0x01⟩
def pcnt_RX_BYTES : Reg := ⟨0x2048, 0x02⟩
def pcnt_RX_FCS_ERR : Reg := ⟨0x2048, 0x03⟩
def pcnt_RX_RUNT : Reg := ⟨0x2048, 0x04⟩
def pcnt_RX_OVERSIZE : Reg := ⟨0x2048, 0x05⟩
def pcnt_RX_PCS_ERR : Reg := ⟨0x2048, 0x06⟩
def pcnt_RX_RATE_SLIPS : Reg := ⟨0x2048, 0x07⟩
def pcnt_RX_OVERRUN : Reg := ⟨0x2048, 0x08⟩
def pcnt_RX_STOP_DISCARD : Reg := ⟨0x2048, 0x09⟩
def pcnt_RX_PAUSE : Reg := ⟨0x2048, 0x0A⟩
def pcnt_RX_PFC : Reg := ⟨0x2048, 0x0B⟩
def pcnt_RX_CTRL_DISCARD : Reg := ⟨0x2048, 0x0C⟩
def pcnt_RX_TAIL_BAD : Reg := ⟨0x2048, 0x0D⟩
def pcnt_TX_FRAMES : Reg := ⟨0x2048, 0x0E⟩
def pcnt_TX_BYTES : Reg := ⟨0x2048, 0x0F⟩
def pcnt_TX_STOMPED : Reg := ⟨0x2048, 0x10⟩
def pcnt_TX_PAUSE : Reg := ⟨0x2048, 0x11⟩
def pcnt_TX_PFC : Reg := ⟨0x2048, 0x12⟩
def pcnt_TX_UNDERRUN : Reg := ⟨0x2048, 0x13⟩
def pcnt_TX_OVERSIZE : Reg := ⟨0x2048, 0x14⟩
def pcnt_TX_PADDED : Reg := ⟨0x2048, 0x15⟩
def pcnt_TX_ABORTED : Reg := ⟨0x2048, 0x16⟩
def pcnt_CLEAR : Reg := ⟨0x2048, 0x17⟩

/-! ### 0x2060 (11_ethernet_ports.md R377) -/
def i2c_CMD : Reg := ⟨0x2060, 0x01⟩
def i2c_ADDR : Reg := ⟨0x2060, 0x02⟩
def i2c_STATUS : Reg := ⟨0x2060, 0x03⟩
def i2c_SPEED : Reg := ⟨0x2060, 0x04⟩
def i2c_STRETCH_LIMIT : Reg := ⟨0x2060, 0x05⟩
def i2c_RESET : Reg := ⟨0x2060, 0x06⟩
def i2c_BUS_STATE : Reg := ⟨0x2060, 0x07⟩
def i2c_RECOVERIES : Reg := ⟨0x2060, 0x08⟩
def i2c_STUCK_COUNT : Reg := ⟨0x2060, 0x09⟩
def i2c_NACKS : Reg := ⟨0x2060, 0x0A⟩
def i2c_DATA0 : Reg := ⟨0x2060, 0x10⟩

/-! ### 0x3000 (03_packet_pipeline.md R117) -/
def grp_STATE : Reg := ⟨0x3000, 0x01⟩
def grp_REQUEST : Reg := ⟨0x3000, 0x02⟩
def grp_STATE_SINCE : Reg := ⟨0x3000, 0x03⟩
def grp_STOP_ACTION : Reg := ⟨0x3000, 0x04⟩
def grp_FEATURES : Reg := ⟨0x3000, 0x05⟩
def grp_BRIDGE_WORDS : Reg := ⟨0x3000, 0x06⟩
def grp_RECIRC_MAX : Reg := ⟨0x3000, 0x07⟩
def grp_TCAM_MAP : Reg := ⟨0x3000, 0x08⟩
def grp_TCAM_WIDE : Reg := ⟨0x3000, 0x09⟩
def grp_STOP_DISCARDS : Reg := ⟨0x3000, 0x0A⟩

/-! ### 0x3008 (03_packet_pipeline.md R118) -/
def ipipe_REINJECT_SHARE : Reg := ⟨0x3008, 0x01⟩
def ipipe_RECIRC_SHARE : Reg := ⟨0x3008, 0x02⟩
def ipipe_HOST_SHARE : Reg := ⟨0x3008, 0x03⟩
def ipipe_PORT_SLOTS : Reg := ⟨0x3008, 0x04⟩
def ipipe_REINJECT_SLOTS : Reg := ⟨0x3008, 0x05⟩
def ipipe_RECIRC_SLOTS : Reg := ⟨0x3008, 0x06⟩
def ipipe_HOST_SLOTS : Reg := ⟨0x3008, 0x07⟩
def ipipe_IDLE_SLOTS : Reg := ⟨0x3008, 0x08⟩

/-! ### 0x3009 (03_packet_pipeline.md R119) -/
def epipe_PACKETS : Reg := ⟨0x3009, 0x01⟩
def epipe_RECIRCULATED : Reg := ⟨0x3009, 0x02⟩
def epipe_IDLE_SLOTS : Reg := ⟨0x3009, 0x03⟩

/-! ### 0x3010 (03_packet_pipeline.md R120) -/
def gcnt_IN_PARSE_ERR : Reg := ⟨0x3010, 0x01⟩
def gcnt_IN_PARSE_TRUNC : Reg := ⟨0x3010, 0x02⟩
def gcnt_EG_PARSE_ERR : Reg := ⟨0x3010, 0x03⟩
def gcnt_EG_PARSE_TRUNC : Reg := ⟨0x3010, 0x04⟩
def gcnt_LAUNCH_CLEARED : Reg := ⟨0x3010, 0x05⟩

/-! ### 0x3030 (03_packet_pipeline.md R121) -/
def dropI_PACKETS : Reg := ⟨0x3030, 0x01⟩
def dropI_BYTES : Reg := ⟨0x3030, 0x02⟩

/-! ### 0x3031 (03_packet_pipeline.md R121) -/
def dropE_PACKETS : Reg := ⟨0x3031, 0x01⟩
def dropE_BYTES : Reg := ⟨0x3031, 0x02⟩

/-! ### 0x3040 (04_microcode.md R163) -/
def img_SOURCE : Reg := ⟨0x3040, 0x01⟩
def img_ADDRESS : Reg := ⟨0x3040, 0x02⟩
def img_LENGTH : Reg := ⟨0x3040, 0x03⟩
def img_LOAD : Reg := ⟨0x3040, 0x04⟩
def img_STATUS : Reg := ⟨0x3040, 0x05⟩
def img_IMAGE_ID : Reg := ⟨0x3040, 0x06⟩
def img_IMAGE_VERSION : Reg := ⟨0x3040, 0x07⟩
def img_FEATURE_MASK : Reg := ⟨0x3040, 0x08⟩
def img_DIGEST : Reg := ⟨0x3040, 0x09⟩
def img_STORE_VALID : Reg := ⟨0x3040, 0x0A⟩

/-! ### 0x3048 (04_microcode.md R164) -/
def trap_TRAP_MAX : Reg := ⟨0x3048, 0x01⟩
def trap_WALK_TIMEOUT : Reg := ⟨0x3048, 0x02⟩
def trap_PARKED : Reg := ⟨0x3048, 0x03⟩
def trap_PARKED_HWM : Reg := ⟨0x3048, 0x04⟩
def trap_WALKS_OPEN : Reg := ⟨0x3048, 0x05⟩
def trap_FENCES_RAISED : Reg := ⟨0x3048, 0x06⟩
def trap_WALKS_ISSUED : Reg := ⟨0x3048, 0x07⟩
def trap_COALESCED : Reg := ⟨0x3048, 0x08⟩
def trap_WALK_TIME_MAX : Reg := ⟨0x3048, 0x09⟩
def trap_ASSIST_OPS : Reg := ⟨0x3048, 0x0A⟩
def trap_REINJECTED : Reg := ⟨0x3048, 0x0B⟩

/-! ### 0x3050 (04_microcode.md R165) -/
def trapc_INGRESS : Reg := ⟨0x3050, 0x01⟩
def trapc_EGRESS : Reg := ⟨0x3050, 0x02⟩

/-! ### 0x4000 (05_tables_and_lookups.md R202) -/
def tbl_STATE : Reg := ⟨0x4000, 0x01⟩
def tbl_REQUEST : Reg := ⟨0x4000, 0x02⟩
def tbl_STATE_SINCE : Reg := ⟨0x4000, 0x03⟩
def tbl_KIND : Reg := ⟨0x4000, 0x04⟩
def tbl_TIERS : Reg := ⟨0x4000, 0x05⟩
def tbl_VERSIONED : Reg := ⟨0x4000, 0x06⟩
def tbl_CAPACITY : Reg := ⟨0x4000, 0x07⟩
def tbl_ENTRIES : Reg := ⟨0x4000, 0x08⟩
def tbl_ACCESS_MODE : Reg := ⟨0x4000, 0x09⟩
def tbl_SEED_C : Reg := ⟨0x4000, 0x0A⟩
def tbl_SEED_R : Reg := ⟨0x4000, 0x0B⟩
def tbl_WALK_DEPTH_MAX : Reg := ⟨0x4000, 0x0C⟩
def tbl_ENTRY_COUNT : Reg := ⟨0x4000, 0x0D⟩
def tbl_LOOKUPS : Reg := ⟨0x4000, 0x0E⟩
def tbl_HITS : Reg := ⟨0x4000, 0x0F⟩
def tbl_NEAR_MISSES : Reg := ⟨0x4000, 0x10⟩
def tbl_OP_MISMATCH : Reg := ⟨0x4000, 0x11⟩

/-! ### 0x4001 (05_tables_and_lookups.md R203) -/
def rte_ROUTE_NODE_MIB : Reg := ⟨0x4001, 0x01⟩
def rte_LEAF_LINES : Reg := ⟨0x4001, 0x02⟩
def rte_LONG6_USED : Reg := ⟨0x4001, 0x03⟩
def rte_MALFORMED : Reg := ⟨0x4001, 0x04⟩
def rte_LEAF_FILLS : Reg := ⟨0x4001, 0x05⟩

/-! ### 0x4002 (05_tables_and_lookups.md R204) -/
def ceng_FLUSH_QUEUED : Reg := ⟨0x4002, 0x01⟩
def ceng_FLUSHES : Reg := ⟨0x4002, 0x02⟩
def ceng_LOST_PACKETS : Reg := ⟨0x4002, 0x03⟩

/-! ### 0x4004 (06_table_maintenance.md R235) -/
def tmnt_LOCK : Reg := ⟨0x4004, 0x01⟩
def tmnt_LOCKED : Reg := ⟨0x4004, 0x02⟩
def tmnt_AGE_QUANTUM_EXP : Reg := ⟨0x4004, 0x03⟩
def tmnt_AGE_LIMIT : Reg := ⟨0x4004, 0x04⟩
def tmnt_AGE_POLICY : Reg := ⟨0x4004, 0x05⟩
def tmnt_SCAN_BUCKETS : Reg := ⟨0x4004, 0x06⟩
def tmnt_AGE_NOW : Reg := ⟨0x4004, 0x07⟩
def tmnt_SWEEP_EPOCHS : Reg := ⟨0x4004, 0x08⟩
def tmnt_AGED_REPORTED : Reg := ⟨0x4004, 0x09⟩
def tmnt_AGED_REMOVED : Reg := ⟨0x4004, 0x0A⟩
def tmnt_AGED_UNREPORTED : Reg := ⟨0x4004, 0x0B⟩
def tmnt_REFRESH_DROPPED : Reg := ⟨0x4004, 0x0C⟩
def tmnt_BG_SUPPRESSED : Reg := ⟨0x4004, 0x0D⟩
def tmnt_DIRECT_DROPPED : Reg := ⟨0x4004, 0x0E⟩
def tmnt_CORRECTED : Reg := ⟨0x4004, 0x0F⟩
def tmnt_POISONED : Reg := ⟨0x4004, 0x10⟩
def tmnt_LAST_POISON : Reg := ⟨0x4004, 0x11⟩

/-! ### 0x4008 (05_tables_and_lookups.md R205) -/
def region_TABLE : Reg := ⟨0x4008, 0x01⟩
def region_STACK : Reg := ⟨0x4008, 0x02⟩
def region_BASE_MIB : Reg := ⟨0x4008, 0x03⟩
def region_SIZE_MIB : Reg := ⟨0x4008, 0x04⟩

/-! ### 0x4010 (06_table_maintenance.md R236) -/
def lgrp_LEARN_HANDLE : Reg := ⟨0x4010, 0x01⟩
def lgrp_NEW_POSTED : Reg := ⟨0x4010, 0x02⟩
def lgrp_MOVED_POSTED : Reg := ⟨0x4010, 0x03⟩

/-! ### 0x4011 (06_table_maintenance.md R237) -/
def lring_LEARN_RING : Reg := ⟨0x4011, 0x01⟩
def lring_LEARN_ENABLE : Reg := ⟨0x4011, 0x02⟩
def lring_LEARN_RATE : Reg := ⟨0x4011, 0x03⟩
def lring_LEARN_BURST : Reg := ⟨0x4011, 0x04⟩
def lring_LEARN_HOLDOFF : Reg := ⟨0x4011, 0x05⟩
def lring_POSTED : Reg := ⟨0x4011, 0x06⟩
def lring_SUPPRESSED : Reg := ⟨0x4011, 0x07⟩
def lring_RATE_DROPPED : Reg := ⟨0x4011, 0x08⟩
def lring_RING_FULL : Reg := ⟨0x4011, 0x09⟩

/-! ### 0x4100 (06_table_maintenance.md R214) -/
def chan_CMD : Reg := ⟨0x4100, 0x01⟩
def chan_ARG0 : Reg := ⟨0x4100, 0x02⟩
def chan_ARG1 : Reg := ⟨0x4100, 0x03⟩
def chan_STATUS : Reg := ⟨0x4100, 0x04⟩
def chan_RESULT : Reg := ⟨0x4100, 0x05⟩
def chan_DATA0 : Reg := ⟨0x4100, 0x10⟩

/-! ### 0x5000 (07_central_store.md R270) -/
def store_STATE : Reg := ⟨0x5000, 0x01⟩
def store_REQUEST : Reg := ⟨0x5000, 0x02⟩
def store_STATE_SINCE : Reg := ⟨0x5000, 0x03⟩
def store_TABLE_SHARE_GIB : Reg := ⟨0x5000, 0x04⟩
def store_VOQ_MODE : Reg := ⟨0x5000, 0x05⟩
def store_REPL_GROUPS : Reg := ⟨0x5000, 0x06⟩
def store_VOQ_PROFILE_MAP : Reg := ⟨0x5000, 0x07⟩
def store_HOST_Q_CELLS : Reg := ⟨0x5000, 0x08⟩
def store_FILL_RESERVE : Reg := ⟨0x5000, 0x09⟩
def store_TRANSIT_CELLS : Reg := ⟨0x5000, 0x0A⟩
def store_ECN_HV_BIT : Reg := ⟨0x5000, 0x0B⟩
def store_SHARED_CELLS : Reg := ⟨0x5000, 0x0C⟩
def store_SHARED_FREE : Reg := ⟨0x5000, 0x0D⟩
def store_FAR_PAGES : Reg := ⟨0x5000, 0x0E⟩
def store_FAR_FREE : Reg := ⟨0x5000, 0x0F⟩
def store_FILL_FREE : Reg := ⟨0x5000, 0x10⟩
def store_SPILLED_PAGES : Reg := ⟨0x5000, 0x11⟩
def store_FILLED_PAGES : Reg := ⟨0x5000, 0x12⟩
def store_HEAD_STALLS : Reg := ⟨0x5000, 0x13⟩
def store_STALL_SLOTS : Reg := ⟨0x5000, 0x14⟩
def store_FILL_WAITS : Reg := ⟨0x5000, 0x15⟩
def store_FAR_FULL_SLOTS : Reg := ⟨0x5000, 0x16⟩
def store_PKT_CORRECTED : Reg := ⟨0x5000, 0x17⟩
def store_PKT_POISONED : Reg := ⟨0x5000, 0x18⟩

/-! ### 0x5008 (07_central_store.md R271) -/
def qprof_ALPHA_NEAR : Reg := ⟨0x5008, 0x01⟩
def qprof_ALPHA_FAR : Reg := ⟨0x5008, 0x02⟩
def qprof_SPILL_EN : Reg := ⟨0x5008, 0x03⟩
def qprof_HEAD_KEEP : Reg := ⟨0x5008, 0x04⟩
def qprof_SPILL_AHEAD : Reg := ⟨0x5008, 0x05⟩
def qprof_FILL_LEVEL : Reg := ⟨0x5008, 0x06⟩
def qprof_ECN_EN : Reg := ⟨0x5008, 0x07⟩
def qprof_ECN_MIN : Reg := ⟨0x5008, 0x08⟩
def qprof_ECN_MAX : Reg := ⟨0x5008, 0x09⟩
def qprof_ECN_PMAX : Reg := ⟨0x5008, 0x0A⟩
def qprof_QUEUES : Reg := ⟨0x5008, 0x0B⟩

/-! ### 0x5010 (07_central_store.md R272) -/
def ptc_PORT_MIN : Reg := ⟨0x5010, 0x01⟩
def ptc_EGQ_PROFILE : Reg := ⟨0x5010, 0x02⟩
def ptc_LOSSLESS : Reg := ⟨0x5010, 0x03⟩
def ptc_HEADROOM : Reg := ⟨0x5010, 0x04⟩
def ptc_ALPHA_PFC : Reg := ⟨0x5010, 0x05⟩
def ptc_XON_DELTA : Reg := ⟨0x5010, 0x06⟩
def ptc_PFC_PRIORITY : Reg := ⟨0x5010, 0x07⟩
def ptc_IN_SHARED : Reg := ⟨0x5010, 0x08⟩
def ptc_HEADROOM_USED : Reg := ⟨0x5010, 0x09⟩
def ptc_XOFF : Reg := ⟨0x5010, 0x0A⟩
def ptc_XOFF_COUNT : Reg := ⟨0x5010, 0x0B⟩
def ptc_EGQ_CELLS : Reg := ⟨0x5010, 0x0C⟩
def ptc_EGQ_PAGES : Reg := ⟨0x5010, 0x0D⟩
def ptc_EGQ_DROPS : Reg := ⟨0x5010, 0x0E⟩

/-! ### 0x5018 (07_central_store.md R273) -/
def qprobe_QUEUE : Reg := ⟨0x5018, 0x01⟩
def qprobe_STATE : Reg := ⟨0x5018, 0x02⟩
def qprobe_NEAR_CELLS : Reg := ⟨0x5018, 0x03⟩
def qprobe_SHARED_CELLS : Reg := ⟨0x5018, 0x04⟩
def qprobe_PAGES : Reg := ⟨0x5018, 0x05⟩
def qprobe_NEAR_LIMIT : Reg := ⟨0x5018, 0x06⟩
def qprobe_FAR_LIMIT : Reg := ⟨0x5018, 0x07⟩
def qprobe_DROPS : Reg := ⟨0x5018, 0x08⟩
def qprobe_MARKS : Reg := ⟨0x5018, 0x09⟩

/-! ### 0x5040 (07_central_store.md R274) -/
def dropc_PACKETS : Reg := ⟨0x5040, 0x01⟩
def dropc_BYTES : Reg := ⟨0x5040, 0x02⟩

/-! ### 0x5041 (07_central_store.md R274) -/
def markc_PACKETS : Reg := ⟨0x5041, 0x01⟩
def markc_BYTES : Reg := ⟨0x5041, 0x02⟩

/-! ### 0x5048 (07_central_store.md R275) -/
def retire_RETIRED : Reg := ⟨0x5048, 0x01⟩
def retire_RETIRE_OVERFLOW : Reg := ⟨0x5048, 0x02⟩
def retire_LAST_RETIRED : Reg := ⟨0x5048, 0x03⟩
def retire_CLEAR : Reg := ⟨0x5048, 0x04⟩

/-! ### 0x5060 (07_central_store.md R276) -/
def mgrp_VALID : Reg := ⟨0x5060, 0x01⟩
def mgrp_FIRST : Reg := ⟨0x5060, 0x02⟩
def mgrp_COUNT : Reg := ⟨0x5060, 0x03⟩

/-! ### 0x5068 (07_central_store.md R276) -/
def rlist_ENTRY0 : Reg := ⟨0x5068, 0x01⟩

/-! ### 0x5080 (08_babbitt_arbiter.md R288) -/
def slots_STARVED : Reg := ⟨0x5080, 0x01⟩
def slots_IDLE_TRANSFERS : Reg := ⟨0x5080, 0x02⟩
def slots_STACK_UP : Reg := ⟨0x5080, 0x03⟩
def slots_WORD0 : Reg := ⟨0x5080, 0x10⟩

/-! ### 0x5081 (08_babbitt_arbiter.md R289) -/
def thr_PKT_SPILL : Reg := ⟨0x5081, 0x01⟩
def thr_PKT_FILL : Reg := ⟨0x5081, 0x02⟩
def thr_WALK : Reg := ⟨0x5081, 0x03⟩
def thr_TBL_UPDATE : Reg := ⟨0x5081, 0x04⟩
def thr_SCRUB : Reg := ⟨0x5081, 0x05⟩
def thr_HOST : Reg := ⟨0x5081, 0x06⟩
def thr_TELEM : Reg := ⟨0x5081, 0x07⟩

/-! ### 0x5090 (08_babbitt_arbiter.md R290) -/
def bcls_OWNED : Reg := ⟨0x5090, 0x01⟩
def bcls_BACKGROUND : Reg := ⟨0x5090, 0x02⟩
def bcls_WAITING : Reg := ⟨0x5090, 0x03⟩
def bcls_AGE_OLDEST : Reg := ⟨0x5090, 0x04⟩
def bcls_AGE_MAX : Reg := ⟨0x5090, 0x05⟩
def bcls_STARVE_EVENTS : Reg := ⟨0x5090, 0x06⟩

/-! ### 0x5100 (09_traffic_management.md R314) -/
def lprof_OVERHEAD : Reg := ⟨0x5100, 0x01⟩

/-! ### 0x5110 (09_traffic_management.md R315) -/
def meng_GREEN_OUT : Reg := ⟨0x5110, 0x01⟩
def meng_YELLOW_OUT : Reg := ⟨0x5110, 0x02⟩
def meng_RED_OUT : Reg := ⟨0x5110, 0x03⟩
def meng_GUARD_VIOLATIONS : Reg := ⟨0x5110, 0x04⟩
def meng_SWEEPS : Reg := ⟨0x5110, 0x05⟩

/-! ### 0x5120 (09_traffic_management.md R316) -/
def psch_PFC_QUANTA : Reg := ⟨0x5120, 0x01⟩
def psch_FLOW_MODE : Reg := ⟨0x5120, 0x02⟩
def psch_PAUSED : Reg := ⟨0x5120, 0x03⟩
def psch_PAUSED_SLOTS : Reg := ⟨0x5120, 0x04⟩
def psch_SELECTIONS : Reg := ⟨0x5120, 0x05⟩
def psch_SHAPED_SLOTS : Reg := ⟨0x5120, 0x06⟩

/-! ### 0x5128 (09_traffic_management.md R317) -/
def tcsch_PRIO_GROUP : Reg := ⟨0x5128, 0x01⟩
def tcsch_QUANTUM : Reg := ⟨0x5128, 0x02⟩
def tcsch_DEFICIT : Reg := ⟨0x5128, 0x03⟩
def tcsch_SELECTED_PACKETS : Reg := ⟨0x5128, 0x04⟩
def tcsch_SELECTED_BYTES : Reg := ⟨0x5128, 0x05⟩
def tcsch_PAUSED_SLOTS : Reg := ⟨0x5128, 0x06⟩

/-! ### 0x5130 (09_traffic_management.md R318) -/
def shapA_RATE : Reg := ⟨0x5130, 0x01⟩
def shapA_BURST : Reg := ⟨0x5130, 0x02⟩
def shapA_PROFILE : Reg := ⟨0x5130, 0x03⟩
def shapA_TARGET : Reg := ⟨0x5130, 0x04⟩
def shapA_TOKENS : Reg := ⟨0x5130, 0x05⟩
def shapA_WAIT_SLOTS : Reg := ⟨0x5130, 0x06⟩

/-! ### 0x5131 (09_traffic_management.md R318) -/
def shapB_RATE : Reg := ⟨0x5131, 0x01⟩
def shapB_BURST : Reg := ⟨0x5131, 0x02⟩
def shapB_PROFILE : Reg := ⟨0x5131, 0x03⟩
def shapB_TARGET : Reg := ⟨0x5131, 0x04⟩
def shapB_TOKENS : Reg := ⟨0x5131, 0x05⟩
def shapB_WAIT_SLOTS : Reg := ⟨0x5131, 0x06⟩

/-! ### 0x5138 (09_traffic_management.md R319) -/
def wheel_FINE_ENTRIES : Reg := ⟨0x5138, 0x01⟩
def wheel_COARSE_ENTRIES : Reg := ⟨0x5138, 0x02⟩
def wheel_WHEEL_SLIPS : Reg := ⟨0x5138, 0x03⟩

/-! ### 0x6000 (12_fabric.md R404) -/
def fab_DEVICE_ID : Reg := ⟨0x6000, 0x01⟩
def fab_SET_ID : Reg := ⟨0x6000, 0x02⟩
def fab_FIXED_ID : Reg := ⟨0x6000, 0x03⟩
def fab_MANAGER_ID : Reg := ⟨0x6000, 0x04⟩
def fab_FENCE : Reg := ⟨0x6000, 0x05⟩
def fab_HELLO_INTERVAL : Reg := ⟨0x6000, 0x06⟩
def fab_DEAD_INTERVAL : Reg := ⟨0x6000, 0x07⟩
def fab_VERSION_MAX : Reg := ⟨0x6000, 0x08⟩
def fab_VERSION_MIN : Reg := ⟨0x6000, 0x09⟩
def fab_REASM_TIMEOUT : Reg := ⟨0x6000, 0x0A⟩
def fab_REMOTE_OUTSTANDING : Reg := ⟨0x6000, 0x0B⟩
def fab_REASM_DISCARDS : Reg := ⟨0x6000, 0x0C⟩

/-! ### 0x6008 (12_fabric.md R405) -/
def idn_VALID : Reg := ⟨0x6008, 0x01⟩
def idn_SERIAL : Reg := ⟨0x6008, 0x02⟩
def idn_INCARNATION : Reg := ⟨0x6008, 0x03⟩

/-! ### 0x6020 (12_fabric.md R406) -/
def rt_MEMBER0 : Reg := ⟨0x6020, 0x01⟩
def rt_LIVE : Reg := ⟨0x6020, 0x11⟩
def rt_REPAIRS : Reg := ⟨0x6020, 0x12⟩

/-! ### 0x6040 (12_fabric.md R407) -/
def link_STATE : Reg := ⟨0x6040, 0x01⟩
def link_REQUEST : Reg := ⟨0x6040, 0x02⟩
def link_STATE_SINCE : Reg := ⟨0x6040, 0x03⟩
def link_WIDTH : Reg := ⟨0x6040, 0x04⟩
def link_LANE_MODE : Reg := ⟨0x6040, 0x05⟩
def link_CLASS : Reg := ⟨0x6040, 0x06⟩
def link_CREDITS : Reg := ⟨0x6040, 0x07⟩
def link_LINK_STATE : Reg := ⟨0x6040, 0x08⟩
def link_REASON : Reg := ⟨0x6040, 0x09⟩
def link_VERSION : Reg := ⟨0x6040, 0x0A⟩
def link_NB_SERIAL : Reg := ⟨0x6040, 0x0B⟩
def link_NB_INCARNATION : Reg := ⟨0x6040, 0x0C⟩
def link_NB_ID : Reg := ⟨0x6040, 0x0D⟩
def link_NB_LINK : Reg := ⟨0x6040, 0x0E⟩
def link_NB_FLAGS : Reg := ⟨0x6040, 0x0F⟩
def link_ASSIGN_SERIAL : Reg := ⟨0x6040, 0x10⟩
def link_ASSIGN_INCARNATION : Reg := ⟨0x6040, 0x11⟩
def link_ASSIGN_ID : Reg := ⟨0x6040, 0x12⟩
def link_ASSIGN : Reg := ⟨0x6040, 0x13⟩
def link_ASSIGN_STATUS : Reg := ⟨0x6040, 0x14⟩
def link_PROXY_REQUEST : Reg := ⟨0x6040, 0x15⟩
def link_PROXY_STATUS : Reg := ⟨0x6040, 0x16⟩
def link_PROXY_RESPONSE : Reg := ⟨0x6040, 0x17⟩
def link_FILLER_WATERMARK : Reg := ⟨0x6040, 0x18⟩

/-! ### 0x6048 (12_fabric.md R408) -/
def lcnt_CELLS_TX : Reg := ⟨0x6048, 0x01⟩
def lcnt_CELLS_RX : Reg := ⟨0x6048, 0x02⟩
def lcnt_REPLAYED : Reg := ⟨0x6048, 0x03⟩
def lcnt_CRC_ERRORS : Reg := ⟨0x6048, 0x04⟩
def lcnt_CELLS_LOST : Reg := ⟨0x6048, 0x05⟩
def lcnt_RETRAINS : Reg := ⟨0x6048, 0x06⟩
def lcnt_ELASTIC_SLIPS : Reg := ⟨0x6048, 0x07⟩
def lcnt_FILLER_USE : Reg := ⟨0x6048, 0x08⟩
def lcnt_RATE_PPB : Reg := ⟨0x6048, 0x09⟩
def lcnt_HOP_LIMIT : Reg := ⟨0x6048, 0x0A⟩
def lcnt_VL_OVERFLOW : Reg := ⟨0x6048, 0x0B⟩
def lcnt_BAD_VL : Reg := ⟨0x6048, 0x0C⟩
def lcnt_UNKNOWN_BLOCKS : Reg := ⟨0x6048, 0x0D⟩
def lcnt_ECN_LOST : Reg := ⟨0x6048, 0x0E⟩
def lcnt_ASSIGN_REFUSED : Reg := ⟨0x6048, 0x0F⟩
def lcnt_STALE_SPEAKERS : Reg := ⟨0x6048, 0x10⟩
def lcnt_LINK_CHANGES : Reg := ⟨0x6048, 0x11⟩
def lcnt_HELLOS_RX : Reg := ⟨0x6048, 0x12⟩
def lcnt_CLEAR : Reg := ⟨0x6048, 0x13⟩

/-! ### 0x6050 (13_fabric_scheduling.md R429) -/
def fsch_SCHED_LEAD : Reg := ⟨0x6050, 0x01⟩
def fsch_SPEEDUP : Reg := ⟨0x6050, 0x02⟩
def fsch_DRR_UNIT : Reg := ⟨0x6050, 0x03⟩
def fsch_REQ_STALE : Reg := ⟨0x6050, 0x04⟩
def fsch_HOLD_TIME : Reg := ⟨0x6050, 0x05⟩
def fsch_SCHED_STATE : Reg := ⟨0x6050, 0x06⟩
def fsch_REQUESTS_SENT : Reg := ⟨0x6050, 0x07⟩
def fsch_GRANTS_ISSUED : Reg := ⟨0x6050, 0x08⟩
def fsch_ACCEPTS_SENT : Reg := ⟨0x6050, 0x09⟩
def fsch_DECLINES_SENT : Reg := ⟨0x6050, 0x0A⟩
def fsch_GRANTS_EXPIRED : Reg := ⟨0x6050, 0x0B⟩
def fsch_GRANT_WRITEOFF : Reg := ⟨0x6050, 0x0C⟩
def fsch_SCHED_LATE : Reg := ⟨0x6050, 0x0D⟩
def fsch_REQ_TABLE_FULL : Reg := ⟨0x6050, 0x0E⟩
def fsch_GRANT_LIMIT_SLOTS : Reg := ⟨0x6050, 0x0F⟩
def fsch_STANDING_HELD : Reg := ⟨0x6050, 0x10⟩
def fsch_STANDING_REFUSED : Reg := ⟨0x6050, 0x11⟩
def fsch_SCHED_BAD : Reg := ⟨0x6050, 0x12⟩

/-! ### 0x6058 (13_fabric_scheduling.md R430) -/
def pgr_GRANT_QUANTUM : Reg := ⟨0x6058, 0x01⟩
def pgr_GRANT_RATE : Reg := ⟨0x6058, 0x02⟩
def pgr_BUDGET : Reg := ⟨0x6058, 0x03⟩
def pgr_GRANTS : Reg := ⟨0x6058, 0x04⟩
def pgr_GRANTED_CELLS : Reg := ⟨0x6058, 0x05⟩
def pgr_DEPTH_HOLDS : Reg := ⟨0x6058, 0x06⟩
def pgr_STANDING_RESERVED : Reg := ⟨0x6058, 0x07⟩

/-! ### 0x6060 (13_fabric_scheduling.md R431) -/
def feq_FABRIC_CT : Reg := ⟨0x6060, 0x01⟩
def feq_OUTSTANDING : Reg := ⟨0x6060, 0x02⟩
def feq_REQUESTERS : Reg := ⟨0x6060, 0x03⟩
def feq_PENDING_CELLS : Reg := ⟨0x6060, 0x04⟩

/-! ### 0x6068 (13_fabric_scheduling.md R432) -/
def srcw_WEIGHT : Reg := ⟨0x6068, 0x01⟩

/-! ### 0x6070 (13_fabric_scheduling.md R433) -/
def reach_DEST_STATE : Reg := ⟨0x6070, 0x01⟩
def reach_HOLD_SINCE : Reg := ⟨0x6070, 0x02⟩
def reach_CAUSE : Reg := ⟨0x6070, 0x03⟩
def reach_DEST_LOST_PACKETS : Reg := ⟨0x6070, 0x04⟩

/-! ### 0x6078 (13_fabric_scheduling.md R434) -/
def stand_ENABLE : Reg := ⟨0x6078, 0x01⟩
def stand_PORT : Reg := ⟨0x6078, 0x02⟩
def stand_TC : Reg := ⟨0x6078, 0x03⟩
def stand_SOURCE : Reg := ⟨0x6078, 0x04⟩
def stand_CELLS : Reg := ⟨0x6078, 0x05⟩
def stand_PERIOD : Reg := ⟨0x6078, 0x06⟩

/-! ### 0x6088 (13_fabric_scheduling.md R435) -/
def linkq_QUEUED : Reg := ⟨0x6088, 0x01⟩
def linkq_TRANSIT_SENT : Reg := ⟨0x6088, 0x02⟩
def linkq_LOCAL_SENT : Reg := ⟨0x6088, 0x03⟩
def linkq_IN_FLIGHT_LOST : Reg := ⟨0x6088, 0x04⟩
def linkq_ACCEPT_LIMIT : Reg := ⟨0x6088, 0x05⟩

/-! ### 0x7000 (14_time.md R463) -/
def invar_TIME : Reg := ⟨0x7000, 0x01⟩
def invar_COUNT : Reg := ⟨0x7000, 0x02⟩
def invar_BASE : Reg := ⟨0x7000, 0x03⟩
def invar_OFFSET : Reg := ⟨0x7000, 0x04⟩
def invar_RATE : Reg := ⟨0x7000, 0x05⟩
def invar_TIME_STATE : Reg := ⟨0x7000, 0x06⟩
def invar_HOLD_CAUSE : Reg := ⟨0x7000, 0x07⟩
def invar_SYNC_SOURCE : Reg := ⟨0x7000, 0x08⟩
def invar_SERVO_LOCKED : Reg := ⟨0x7000, 0x09⟩
def invar_SERVO_TIMEOUT : Reg := ⟨0x7000, 0x0A⟩
def invar_TIME_REF_PRIMARY : Reg := ⟨0x7000, 0x0B⟩
def invar_TIME_REF_STANDBY : Reg := ⟨0x7000, 0x0C⟩
def invar_TIME_REF_IN_USE : Reg := ⟨0x7000, 0x0D⟩
def invar_TIME_AUTO_SWITCH : Reg := ⟨0x7000, 0x0E⟩
def invar_TIME_SWITCH_NOW : Reg := ⟨0x7000, 0x0F⟩
def invar_STEPS : Reg := ⟨0x7000, 0x10⟩
def invar_HOLDOVER_SINCE : Reg := ⟨0x7000, 0x11⟩

/-! ### 0x7001 (14_time.md R464) -/
def tchg_NEW_RATE : Reg := ⟨0x7001, 0x01⟩
def tchg_OFFSET_STEP : Reg := ⟨0x7001, 0x02⟩
def tchg_APPLY_MODE : Reg := ⟨0x7001, 0x03⟩
def tchg_APPLY_COUNT : Reg := ⟨0x7001, 0x04⟩
def tchg_APPLY_TIME : Reg := ⟨0x7001, 0x05⟩
def tchg_ARM : Reg := ⟨0x7001, 0x06⟩
def tchg_STATUS : Reg := ⟨0x7001, 0x07⟩
def tchg_APPLIED_COUNT : Reg := ⟨0x7001, 0x08⟩
def tchg_APPLIED_SLOT : Reg := ⟨0x7001, 0x09⟩

/-! ### 0x7008 (14_time.md R465) -/
def refm_OFFSET_PPB : Reg := ⟨0x7008, 0x01⟩
def refm_REF_STATE : Reg := ⟨0x7008, 0x02⟩
def refm_LOS : Reg := ⟨0x7008, 0x03⟩
def refm_VS_REFA : Reg := ⟨0x7008, 0x04⟩
def refm_ALERTS : Reg := ⟨0x7008, 0x08⟩
def refm_FAILS : Reg := ⟨0x7008, 0x09⟩

/-! ### 0x7010 (14_time.md R466) -/
def sync_SYNC_LINK0 : Reg := ⟨0x7010, 0x01⟩
def sync_ACTIVE_LINK : Reg := ⟨0x7010, 0x05⟩
def sync_TSYNC_INTERVAL : Reg := ⟨0x7010, 0x06⟩
def sync_ALIGN_ERROR : Reg := ⟨0x7010, 0x07⟩
def sync_ALIGN_STATE : Reg := ⟨0x7010, 0x08⟩
def sync_ALIGN_HOLD : Reg := ⟨0x7010, 0x09⟩
def sync_STEP_LIMIT : Reg := ⟨0x7010, 0x0A⟩
def sync_RATE_LIMIT : Reg := ⟨0x7010, 0x0B⟩
def sync_FREQ_PPB : Reg := ⟨0x7010, 0x0C⟩
def sync_ALIGN_CHANGES : Reg := ⟨0x7010, 0x0D⟩
def sync_SERVO_STEPS : Reg := ⟨0x7010, 0x0E⟩
def sync_OUT_OF_STEP_SLOTS : Reg := ⟨0x7010, 0x0F⟩

/-! ### 0x7018 (14_time.md R467) -/
def ltime_ASYMMETRY : Reg := ⟨0x7018, 0x01⟩
def ltime_OFFSET : Reg := ⟨0x7018, 0x02⟩
def ltime_DELAY : Reg := ⟨0x7018, 0x03⟩
def ltime_EXCHANGES : Reg := ⟨0x7018, 0x04⟩
def ltime_DISCARDED : Reg := ⟨0x7018, 0x05⟩

/-! ### 0x7020 (14_time.md R468) -/
def ptime_STAMP_EN : Reg := ⟨0x7020, 0x01⟩
def ptime_RX_ADJ : Reg := ⟨0x7020, 0x02⟩
def ptime_TX_ADJ : Reg := ⟨0x7020, 0x03⟩
def ptime_LAUNCH_GUARD : Reg := ⟨0x7020, 0x04⟩
def ptime_LAUNCH_MAX_AHEAD : Reg := ⟨0x7020, 0x05⟩
def ptime_LAUNCHED : Reg := ⟨0x7020, 0x06⟩
def ptime_LAUNCH_LATE : Reg := ⟨0x7020, 0x07⟩
def ptime_LAUNCH_FAR : Reg := ⟨0x7020, 0x08⟩
def ptime_PTP_SW_SKIPPED : Reg := ⟨0x7020, 0x09⟩
def ptime_PTP_EDIT_BAD : Reg := ⟨0x7020, 0x0A⟩
def ptime_TX_RECORDS : Reg := ⟨0x7020, 0x0B⟩
def ptime_TX_RECORD_LOST : Reg := ⟨0x7020, 0x0C⟩

/-! ### 0x7028 (14_time.md R469) -/
def tsvc_PPS_OUT_EN : Reg := ⟨0x7028, 0x01⟩
def tsvc_PPS_OUT_OFFSET : Reg := ⟨0x7028, 0x02⟩
def tsvc_PPS_OUT_WIDTH : Reg := ⟨0x7028, 0x03⟩
def tsvc_PPS_IN_EN : Reg := ⟨0x7028, 0x04⟩
def tsvc_PPS_IN_TIME : Reg := ⟨0x7028, 0x05⟩
def tsvc_PPS_IN_COUNT : Reg := ⟨0x7028, 0x06⟩
def tsvc_PPS_IN_EDGES : Reg := ⟨0x7028, 0x07⟩
def tsvc_TX_STAMP_RING : Reg := ⟨0x7028, 0x08⟩

/-! ### 0x8000 (18_faults.md R574) -/
def coll_FATAL_LATCHED : Reg := ⟨0x8000, 0x01⟩
def coll_FATAL_ACTION : Reg := ⟨0x8000, 0x02⟩
def coll_ALIVE_STATE : Reg := ⟨0x8000, 0x03⟩
def coll_HB_TIMEOUT : Reg := ⟨0x8000, 0x04⟩
def coll_BOOT_TIMEOUT : Reg := ⟨0x8000, 0x05⟩
def coll_MESSAGES : Reg := ⟨0x8000, 0x06⟩
def coll_LOG_NEWEST : Reg := ⟨0x8000, 0x07⟩
def coll_LOG_OVERWRITTEN : Reg := ⟨0x8000, 0x08⟩
def coll_PAIR_TEST : Reg := ⟨0x8000, 0x09⟩
def coll_PAIR_TEST_RESULT : Reg := ⟨0x8000, 0x0A⟩
def coll_PENDING_COUNT : Reg := ⟨0x8000, 0x0B⟩
def coll_ESCALATIONS : Reg := ⟨0x8000, 0x0C⟩

/-! ### 0x8008 (18_faults.md R575) -/
def kind_CLASS : Reg := ⟨0x8008, 0x01⟩
def kind_LOG_NOTE : Reg := ⟨0x8008, 0x02⟩
def kind_MESSAGES : Reg := ⟨0x8008, 0x03⟩

/-! ### 0x8010 (18_faults.md R576) -/
def src_N_LIMIT : Reg := ⟨0x8010, 0x01⟩
def src_WINDOW : Reg := ⟨0x8010, 0x02⟩
def src_PROMOTE_EN : Reg := ⟨0x8010, 0x03⟩
def src_REACT_EPOCHS : Reg := ⟨0x8010, 0x04⟩
def src_ESCALATION : Reg := ⟨0x8010, 0x05⟩
def src_REACT_STATE : Reg := ⟨0x8010, 0x06⟩
def src_PENDING_SEQ : Reg := ⟨0x8010, 0x07⟩
def src_ACK : Reg := ⟨0x8010, 0x08⟩
def src_FORCE_KIND : Reg := ⟨0x8010, 0x09⟩
def src_FORCE_ADDR : Reg := ⟨0x8010, 0x0A⟩
def src_FORCE : Reg := ⟨0x8010, 0x0B⟩
def src_WINDOW_COUNT : Reg := ⟨0x8010, 0x0C⟩
def src_MESSAGES : Reg := ⟨0x8010, 0x0D⟩
def src_LOST : Reg := ⟨0x8010, 0x0E⟩

/-! ### 0x8020 (18_faults.md R577) -/
def log_W0 : Reg := ⟨0x8020, 0x01⟩

/-! ### 0x8030 (18_faults.md R578) -/
def scrub_ENABLE : Reg := ⟨0x8030, 0x01⟩
def scrub_PASSES : Reg := ⟨0x8030, 0x02⟩
def scrub_LAST_PASS : Reg := ⟨0x8030, 0x03⟩
def scrub_CORRECTED : Reg := ⟨0x8030, 0x04⟩
def scrub_UNCORRECTABLE : Reg := ⟨0x8030, 0x05⟩

/-! ### 0x8040 (18_faults.md R579) -/
def pewter_STATE : Reg := ⟨0x8040, 0x01⟩
def pewter_FW_VERSION : Reg := ⟨0x8040, 0x02⟩
def pewter_HEARTBEATS : Reg := ⟨0x8040, 0x03⟩
def pewter_TAKEOVERS : Reg := ⟨0x8040, 0x04⟩
def pewter_RESTARTS : Reg := ⟨0x8040, 0x05⟩
def pewter_RESTART : Reg := ⟨0x8040, 0x06⟩
def pewter_SWITCHOVER : Reg := ⟨0x8040, 0x07⟩

/-! ### 0x8050 (19_power_reset_boot.md R611) -/
def dom_DOMAIN_STATE : Reg := ⟨0x8050, 0x01⟩
def dom_POWER_REQUEST : Reg := ⟨0x8050, 0x02⟩
def dom_OFF_CAUSE : Reg := ⟨0x8050, 0x03⟩
def dom_ON_SINCE : Reg := ⟨0x8050, 0x04⟩
def dom_SWITCHES : Reg := ⟨0x8050, 0x05⟩

/-! ### 0x8058 (19_power_reset_boot.md R612) -/
def prst_BOOT_STATE : Reg := ⟨0x8058, 0x01⟩
def prst_HALT_CAUSE : Reg := ⟨0x8058, 0x02⟩
def prst_LAST_RESET_CAUSE : Reg := ⟨0x8058, 0x03⟩
def prst_RESET_HELD : Reg := ⟨0x8058, 0x04⟩
def prst_RESET_HELD_TIME : Reg := ⟨0x8058, 0x05⟩
def prst_RESET_GLITCHES : Reg := ⟨0x8058, 0x06⟩
def prst_DEVICE_RESET : Reg := ⟨0x8058, 0x07⟩
def prst_BOOT_TIME : Reg := ⟨0x8058, 0x08⟩
def prst_INC_RESET : Reg := ⟨0x8058, 0x09⟩
def prst_AVS_ENABLE : Reg := ⟨0x8058, 0x0A⟩
def prst_AVS_CODE : Reg := ⟨0x8058, 0x0B⟩
def prst_FACTORY_CODE : Reg := ⟨0x8058, 0x0C⟩
def prst_OTP_UNLOCK : Reg := ⟨0x8058, 0x0D⟩
def prst_NEXT_BOOT_GEN : Reg := ⟨0x8058, 0x0E⟩
def prst_DIE_SPREAD : Reg := ⟨0x8058, 0x0F⟩

/-! ### 0x8060 (19_power_reset_boot.md R613) -/
def settings_RECORD : Reg := ⟨0x8060, 0x01⟩
def settings_GEN_STATE : Reg := ⟨0x8060, 0x02⟩
def settings_PROGRAM_STATUS : Reg := ⟨0x8060, 0x03⟩

/-! ### 0x8068 (19_power_reset_boot.md R614) -/
def rail_MV : Reg := ⟨0x8068, 0x01⟩
def rail_IN_BAND : Reg := ⟨0x8068, 0x02⟩
def rail_MIN_MV : Reg := ⟨0x8068, 0x03⟩
def rail_MAX_MV : Reg := ⟨0x8068, 0x04⟩
def rail_OUT_COUNT : Reg := ⟨0x8068, 0x05⟩

/-! ### 0x806C (19_power_reset_boot.md R615) -/
def temp_TEMP : Reg := ⟨0x806C, 0x01⟩
def temp_HIGH_LIMIT : Reg := ⟨0x806C, 0x02⟩
def temp_MAX : Reg := ⟨0x806C, 0x03⟩
def temp_HIGH_EVENTS : Reg := ⟨0x806C, 0x04⟩

/-! ### 0x8070 (19_power_reset_boot.md R616) -/
def flash_CMD : Reg := ⟨0x8070, 0x01⟩
def flash_ADDRESS : Reg := ⟨0x8070, 0x02⟩
def flash_DATA : Reg := ⟨0x8070, 0x03⟩
def flash_STATUS : Reg := ⟨0x8070, 0x04⟩
def flash_FLASH_SIZE : Reg := ⟨0x8070, 0x05⟩

/-! ### 0x8078 (19_power_reset_boot.md R617) -/
def gasp_LG_READY : Reg := ⟨0x8078, 0x01⟩
def gasp_VLG_MV : Reg := ⟨0x8078, 0x02⟩
def gasp_SAVES : Reg := ⟨0x8078, 0x03⟩
def gasp_LAST_SAVE_US : Reg := ⟨0x8078, 0x04⟩
def gasp_SAVE_SEQ : Reg := ⟨0x8078, 0x05⟩
def gasp_SECTIONS : Reg := ⟨0x8078, 0x06⟩

/-! ### 0x8080 (19_power_reset_boot.md R618) -/
def strace_W0 : Reg := ⟨0x8080, 0x01⟩

/-! ### 0x8100 (16_telemetry.md R512) -/
def telem_TRACE_OUTPUT : Reg := ⟨0x8100, 0x01⟩
def telem_FT_OUTPUT : Reg := ⟨0x8100, 0x02⟩
def telem_FT_EXPORT : Reg := ⟨0x8100, 0x03⟩
def telem_FT_FLUSHES : Reg := ⟨0x8100, 0x04⟩
def telem_FT_CREATED : Reg := ⟨0x8100, 0x05⟩
def telem_FT_NO_ROOM : Reg := ⟨0x8100, 0x06⟩
def telem_FT_LOST_UPDATES : Reg := ⟨0x8100, 0x07⟩
def telem_FT_SKIPPED : Reg := ⟨0x8100, 0x08⟩
def telem_LAT_LOCAL : Reg := ⟨0x8100, 0x09⟩
def telem_TRACE_DROPPED : Reg := ⟨0x8100, 0x0A⟩
def telem_FT_EXPORT_DROPPED : Reg := ⟨0x8100, 0x0B⟩

/-! ### 0x8108 (16_telemetry.md R513) -/
def gtel_FT_ENABLE : Reg := ⟨0x8108, 0x01⟩
def gtel_FT_KEY : Reg := ⟨0x8108, 0x02⟩
def gtel_TRACE_EN : Reg := ⟨0x8108, 0x03⟩
def gtel_TRACE_EXP : Reg := ⟨0x8108, 0x04⟩
def gtel_TRACE_SEED : Reg := ⟨0x8108, 0x05⟩
def gtel_TAGGED : Reg := ⟨0x8108, 0x06⟩
def gtel_FROZEN : Reg := ⟨0x8108, 0x07⟩
def gtel_GAPS : Reg := ⟨0x8108, 0x08⟩

/-! ### 0x8120 (16_telemetry.md R514) -/
def fring_ENABLE : Reg := ⟨0x8120, 0x01⟩
def fring_BASE : Reg := ⟨0x8120, 0x02⟩
def fring_SIZE : Reg := ⟨0x8120, 0x03⟩
def fring_MODE : Reg := ⟨0x8120, 0x04⟩
def fring_HEAD : Reg := ⟨0x8120, 0x05⟩
def fring_TAIL : Reg := ⟨0x8120, 0x06⟩
def fring_DROPPED : Reg := ⟨0x8120, 0x07⟩
def fring_WRAPPED : Reg := ⟨0x8120, 0x08⟩

/-! ### 0x8128 (16_telemetry.md R515) -/
def expo_ENABLE : Reg := ⟨0x8128, 0x01⟩
def expo_PORT : Reg := ⟨0x8128, 0x02⟩
def expo_TC : Reg := ⟨0x8128, 0x03⟩
def expo_TEMPLATE : Reg := ⟨0x8128, 0x04⟩
def expo_IP_VERSION : Reg := ⟨0x8128, 0x05⟩
def expo_IP_LEN_OFFSET : Reg := ⟨0x8128, 0x06⟩
def expo_UDP_OFFSET : Reg := ⟨0x8128, 0x07⟩
def expo_MTU : Reg := ⟨0x8128, 0x08⟩
def expo_EXPORT_HOLD : Reg := ⟨0x8128, 0x09⟩
def expo_PACKETS : Reg := ⟨0x8128, 0x0A⟩
def expo_RECORDS : Reg := ⟨0x8128, 0x0B⟩
def expo_DROPPED : Reg := ⟨0x8128, 0x0C⟩

/-! ### 0x8130 (16_telemetry.md R516) -/
def mirr_ENABLE : Reg := ⟨0x8130, 0x01⟩
def mirr_OUTPUT : Reg := ⟨0x8130, 0x02⟩
def mirr_SNAP_LEN : Reg := ⟨0x8130, 0x03⟩
def mirr_SAMPLE_EXP : Reg := ⟨0x8130, 0x04⟩
def mirr_RATE : Reg := ⟨0x8130, 0x05⟩
def mirr_BURST : Reg := ⟨0x8130, 0x06⟩
def mirr_COPIES : Reg := ⟨0x8130, 0x07⟩
def mirr_RECORDS : Reg := ⟨0x8130, 0x08⟩
def mirr_SAMPLED_OUT : Reg := ⟨0x8130, 0x09⟩
def mirr_RATE_DROPPED : Reg := ⟨0x8130, 0x0A⟩
def mirr_OVERRUN : Reg := ⟨0x8130, 0x0B⟩
def mirr_DROPPED : Reg := ⟨0x8130, 0x0C⟩

/-! ### 0x8140 (16_telemetry.md R517) -/
def dump_ENABLE : Reg := ⟨0x8140, 0x01⟩
def dump_KIND : Reg := ⟨0x8140, 0x02⟩
def dump_FIRST : Reg := ⟨0x8140, 0x03⟩
def dump_COUNT : Reg := ⟨0x8140, 0x04⟩
def dump_INDEX : Reg := ⟨0x8140, 0x05⟩
def dump_FIRST_INSTANCE : Reg := ⟨0x8140, 0x06⟩
def dump_INSTANCES : Reg := ⟨0x8140, 0x07⟩
def dump_SUB_FIRST : Reg := ⟨0x8140, 0x08⟩
def dump_SUB_LAST : Reg := ⟨0x8140, 0x09⟩
def dump_PERIOD : Reg := ⟨0x8140, 0x0A⟩
def dump_PHASE : Reg := ⟨0x8140, 0x0B⟩
def dump_BUF0 : Reg := ⟨0x8140, 0x0C⟩
def dump_BUF1 : Reg := ⟨0x8140, 0x0D⟩
def dump_BUF_SIZE : Reg := ⟨0x8140, 0x0E⟩
def dump_TRIGGER : Reg := ⟨0x8140, 0x0F⟩
def dump_DUMP_SKIPPED : Reg := ⟨0x8140, 0x10⟩

/-! ### 0x8150 (16_telemetry.md R518) -/
def pair_PAIR : Reg := ⟨0x8150, 0x01⟩
def pair_PACKETS : Reg := ⟨0x8150, 0x02⟩
def pair_BYTES : Reg := ⟨0x8150, 0x03⟩
def pair_PARTIAL : Reg := ⟨0x8150, 0x04⟩

/-! ### 0x9000 (17_host_endpoint.md R549) -/
def ep_ENDPOINT_STATE : Reg := ⟨0x9000, 0x01⟩
def ep_LINK_SPEED : Reg := ⟨0x9000, 0x02⟩
def ep_LINK_WIDTH : Reg := ⟨0x9000, 0x03⟩
def ep_MAX_SPEED : Reg := ⟨0x9000, 0x04⟩
def ep_FREEZES : Reg := ⟨0x9000, 0x05⟩
def ep_TAGS_OUT : Reg := ⟨0x9000, 0x06⟩
def ep_TAGS_HWM : Reg := ⟨0x9000, 0x07⟩
def ep_CPL_TIMEOUTS : Reg := ⟨0x9000, 0x08⟩
def ep_WINDOW_DROPPED : Reg := ⟨0x9000, 0x09⟩

/-! ### 0x9010 (17_host_endpoint.md R550) -/
def ring_ENABLE : Reg := ⟨0x9010, 0x01⟩
def ring_DIRECTION : Reg := ⟨0x9010, 0x02⟩
def ring_FUNCTION : Reg := ⟨0x9010, 0x03⟩
def ring_BASE : Reg := ⟨0x9010, 0x04⟩
def ring_ENTRIES : Reg := ⟨0x9010, 0x05⟩
def ring_VECTOR : Reg := ⟨0x9010, 0x06⟩
def ring_INT_HOLDOFF : Reg := ⟨0x9010, 0x07⟩
def ring_TX_MODE : Reg := ⟨0x9010, 0x08⟩
def ring_TX_PIPE : Reg := ⟨0x9010, 0x09⟩
def ring_TX_PORT : Reg := ⟨0x9010, 0x0A⟩
def ring_RING_STATE : Reg := ⟨0x9010, 0x0B⟩
def ring_STOP_CAUSE : Reg := ⟨0x9010, 0x0C⟩
def ring_BUF_SIZE : Reg := ⟨0x9010, 0x0D⟩
def ring_RX_HOLD : Reg := ⟨0x9010, 0x0E⟩
def ring_READ_CREDITS : Reg := ⟨0x9010, 0x0F⟩
def ring_PACKETS : Reg := ⟨0x9010, 0x10⟩
def ring_BYTES : Reg := ⟨0x9010, 0x11⟩

/-! ### 0x9020 (17_host_endpoint.md R551) -/
def ering_ENABLE : Reg := ⟨0x9020, 0x01⟩
def ering_LOCATION : Reg := ⟨0x9020, 0x02⟩
def ering_BASE : Reg := ⟨0x9020, 0x03⟩
def ering_ENTRIES : Reg := ⟨0x9020, 0x04⟩
def ering_VECTOR : Reg := ⟨0x9020, 0x05⟩
def ering_STATE : Reg := ⟨0x9020, 0x06⟩
def ering_EVENTS_DISCARDED : Reg := ⟨0x9020, 0x07⟩

/-! ### 0x9040 (17_host_endpoint.md R552) -/
def win_ENABLE : Reg := ⟨0x9040, 0x01⟩
def win_FUNCTION : Reg := ⟨0x9040, 0x02⟩
def win_TARGET_KIND : Reg := ⟨0x9040, 0x03⟩
def win_TARGET : Reg := ⟨0x9040, 0x04⟩
def win_APERTURE_BASE : Reg := ⟨0x9040, 0x05⟩
def win_SIZE : Reg := ⟨0x9040, 0x06⟩
def win_WRITE_EN : Reg := ⟨0x9040, 0x07⟩

/-! ### 0xA000 (05_tables_and_lookups.md R206) -/
def tenant_STATE : Reg := ⟨0xA000, 0x01⟩
def tenant_REQUEST : Reg := ⟨0xA000, 0x02⟩
def tenant_STATE_SINCE : Reg := ⟨0xA000, 0x03⟩

/-! ### 0xA010 (05_tables_and_lookups.md R206) -/
def tquota_HOST_QUOTA : Reg := ⟨0xA010, 0x01⟩
def tquota_HOST_USED : Reg := ⟨0xA010, 0x02⟩
def tquota_ROUTE_QUOTA : Reg := ⟨0xA010, 0x03⟩
def tquota_ROUTE_USED : Reg := ⟨0xA010, 0x04⟩
def tquota_LONG6_QUOTA : Reg := ⟨0xA010, 0x05⟩
def tquota_LONG6_USED : Reg := ⟨0xA010, 0x06⟩
def tquota_FLOW_QUOTA : Reg := ⟨0xA010, 0x07⟩
def tquota_FLOW_USED : Reg := ⟨0xA010, 0x08⟩
def tquota_FLOWS_REFUSED : Reg := ⟨0xA010, 0x09⟩

/-! ### 0xA020 (07_central_store.md R277) -/
def tstore_TENANT_MIN : Reg := ⟨0xA020, 0x01⟩
def tstore_ALPHA_NEAR : Reg := ⟨0xA020, 0x02⟩
def tstore_ALPHA_FAR : Reg := ⟨0xA020, 0x03⟩
def tstore_NEAR_USED : Reg := ⟨0xA020, 0x04⟩
def tstore_FAR_PAGES : Reg := ⟨0xA020, 0x05⟩
def tstore_DROPS : Reg := ⟨0xA020, 0x06⟩

/-! ### 0xA030 (09_traffic_management.md R320) -/
def tlimit_GUARD : Reg := ⟨0xA030, 0x01⟩
def tlimit_METER_FIRST : Reg := ⟨0xA030, 0x02⟩
def tlimit_METER_COUNT : Reg := ⟨0xA030, 0x03⟩
def tlimit_COUNTER_FIRST : Reg := ⟨0xA030, 0x04⟩
def tlimit_COUNTER_COUNT : Reg := ⟨0xA030, 0x05⟩
def tlimit_VIOLATIONS : Reg := ⟨0xA030, 0x06⟩

/-! ### 0xA040 (16_telemetry.md R519) -/
def ttel_OUTPUT : Reg := ⟨0xA040, 0x01⟩
def ttel_TRACE_COPY : Reg := ⟨0xA040, 0x02⟩
def ttel_FLOW_EXPORT : Reg := ⟨0xA040, 0x03⟩
def ttel_RECORDS : Reg := ⟨0xA040, 0x04⟩
def ttel_DROPPED : Reg := ⟨0xA040, 0x05⟩

end R

end Sys2Proof.Machine
end

