-- ==== Sys2Proof/Machine/Objects.lean ====
section
/-! DEFINITION. The object dictionary's tables: every object of the manual with its instance count, and every sub-index with
its type, access code, default, range and greatest length (00_scope.md R5 to R8, 02_object_dictionary.md R28 to R31, and the
object tables that close each chapter). -/

namespace Sys2Proof.Machine

/-- Value types (R5). -/
inductive Ty where
  | u8 | u16 | u32 | u64 | s32 | s64 | bool | enum8 | bits32 | bits64 | time | stamp48 | domain
deriving DecidableEq, Repr

/-- Access codes (R7). -/
inductive Acc where
  | ro | rw | wo | w1c | cmt | stp | otp
deriving DecidableEq, Repr

/-- How a default is listed: a value, a value that depends on the instance, kept across resets (factory, OTP, preserved),
or open (a dash). -/
inductive Dflt where
  | val (n : Nat)
  | byInst
  | kept
  | dash
deriving DecidableEq, Repr

/-- The values a write may carry (R32 step 10): any, a closed range with further values, a signed range, a mask of defined
bits (a write's other bits are ignored, R3), a range in steps, a power of two in a range, a valid TIME (R6), or a rule of its
own (Access.lean: specialRange). -/
inductive Rng where
  | any
  | range (lo hi : Nat) (also : List Nat)
  | srange (lo hi : Int)
  | mask (m : Nat)
  | step (lo hi by_ : Nat)
  | pow2 (lo hi : Nat)
  | time
  | special
deriving DecidableEq, Repr

/-- One row, or one run of rows, of an object table. -/
structure Row where
  lo : Nat
  hi : Nat
  ty : Ty
  acc : Acc
  dflt : Dflt
  rng : Rng
  /-- length in octets; for DOMAIN the maximum (R30) -/
  len : Nat
  /-- restored after reset (R31 bit 48) -/
  preserved : Bool
deriving DecidableEq, Repr

/-- One object: index, instances (R29), highest sub-index (R28), rows. -/
structure Obj where
  index : Nat
  instances : Nat
  highest : Nat
  rows : List Row
deriving DecidableEq, Repr

/-- Object 0x1000 (02_object_dictionary.md R76). -/
def obj_ident : Obj := ⟨0x1000, 1, 0x09, [
  ⟨0x01, 0x01, .domain, .ro, .kept, .any, 16, false⟩,
  ⟨0x02, 0x02, .u16, .ro, .kept, .any, 2, false⟩,
  ⟨0x03, 0x03, .u64, .ro, .kept, .any, 8, false⟩,
  ⟨0x04, 0x04, .u32, .ro, .kept, .any, 4, true⟩,
  ⟨0x05, 0x05, .u32, .ro, (.val 0), .any, 4, false⟩,
  ⟨0x06, 0x06, .u32, .ro, .kept, .any, 4, false⟩,
  ⟨0x07, 0x07, .u8, .ro, .kept, .any, 1, true⟩,
  ⟨0x08, 0x08, .u16, .ro, (.val 4095), .any, 2, false⟩,
  ⟨0x09, 0x09, .u16, .ro, .kept, .any, 2, false⟩]⟩

/-- Object 0x1008 (02_object_dictionary.md R77). -/
def obj_svc : Obj := ⟨0x1008, 1, 0x09, [
  ⟨0x01, 0x01, .enum8, .ro, (.val 0), .any, 1, false⟩,
  ⟨0x02, 0x02, .enum8, .ro, (.val 0), .any, 1, false⟩,
  ⟨0x03, 0x03, .u64, .ro, (.val 0), .any, 8, false⟩,
  ⟨0x04, 0x04, .u64, .ro, (.val 0), .any, 8, false⟩,
  ⟨0x05, 0x05, .enum8, .ro, (.val 0), .any, 1, false⟩,
  ⟨0x06, 0x06, .u32, .ro, (.val 0), .any, 4, false⟩,
  ⟨0x07, 0x07, .u32, .rw, (.val 2000), (.range 100 100000 []), 4, false⟩,
  ⟨0x08, 0x08, .u8, .rw, (.val 3), (.range 0 15 []), 1, false⟩,
  ⟨0x09, 0x09, .u32, .ro, (.val 0), .any, 4, false⟩]⟩

/-- Object 0x1010 (02_object_dictionary.md R39). -/
def obj_commit : Obj := ⟨0x1010, 1, 0x08, [
  ⟨0x01, 0x01, .bits32, .rw, (.val 0), (.mask 0x7fe), 4, false⟩,
  ⟨0x02, 0x02, .enum8, .wo, .dash, (.range 1 4 []), 1, false⟩,
  ⟨0x03, 0x03, .time, .rw, (.val 0), .time, 16, false⟩,
  ⟨0x04, 0x04, .enum8, .ro, (.val 0), .any, 1, false⟩,
  ⟨0x05, 0x05, .u64, .ro, (.val 0), .any, 8, false⟩,
  ⟨0x06, 0x06, .u32, .ro, (.val 0), .any, 4, false⟩,
  ⟨0x07, 0x07, .u64, .ro, (.val 0), .any, 8, false⟩,
  ⟨0x08, 0x08, .bits32, .ro, (.val 0), .any, 4, false⟩]⟩

/-- Object 0x1018 (15_generations.md R490). -/
def obj_gen : Obj := ⟨0x1018, 1, 0x10, [
  ⟨0x01, 0x01, .u16, .ro, (.val 0), .any, 2, false⟩,
  ⟨0x02, 0x02, .enum8, .ro, (.val 0), .any, 1, false⟩,
  ⟨0x03, 0x03, .u16, .cmt, (.val 0), .special, 2, false⟩,
  ⟨0x04, 0x04, .u16, .wo, .dash, .special, 2, false⟩,
  ⟨0x05, 0x05, .u16, .wo, .dash, .special, 2, false⟩,
  ⟨0x06, 0x06, .enum8, .ro, (.val 0), .any, 1, false⟩,
  ⟨0x07, 0x07, .u32, .rw, (.val 10000), (.range 0 1000000 []), 4, false⟩,
  ⟨0x08, 0x08, .u32, .ro, (.val 0), .any, 4, false⟩,
  ⟨0x09, 0x09, .u64, .ro, (.val 0), .any, 8, false⟩,
  ⟨0x0A, 0x0A, .u64, .ro, (.val 0), .any, 8, false⟩,
  ⟨0x0B, 0x0B, .bits32, .ro, (.val 0), .any, 4, false⟩,
  ⟨0x0C, 0x0C, .u64, .ro, (.val 0), .any, 8, false⟩,
  ⟨0x0D, 0x0D, .u64, .ro, (.val 0), .any, 8, false⟩,
  ⟨0x0E, 0x0E, .u64, .ro, (.val 0), .any, 8, false⟩,
  ⟨0x0F, 0x0F, .u16, .ro, (.val 4095), .any, 2, false⟩,
  ⟨0x10, 0x10, .u16, .cmt, (.val 1), .special, 2, false⟩]⟩

/-- Object 0x1020 (02_object_dictionary.md R56). -/
def obj_princ : Obj := ⟨0x1020, 64, 0x05, [
  ⟨0x01, 0x01, .bool, .rw, .byInst, (.range 0 1 []), 1, false⟩,
  ⟨0x02, 0x02, .bits64, .rw, .byInst, (.mask 0xffffffffff0), 8, false⟩,
  ⟨0x03, 0x03, .enum8, .rw, .byInst, (.range 0 3 []), 1, false⟩,
  ⟨0x04, 0x04, .u16, .rw, (.val 0), (.mask 0xfff), 2, false⟩,
  ⟨0x05, 0x05, .u16, .rw, (.val 65535), (.range 0 4095 [65535]), 2, false⟩]⟩

/-- Object 0x2000 (10_lanes.md R347). -/
def obj_chip : Obj := ⟨0x2000, 8, 0x0c, [
  ⟨0x01, 0x01, .enum8, .ro, (.val 0), .any, 1, false⟩,
  ⟨0x02, 0x02, .enum8, .wo, .dash, (.range 1 3 []), 1, false⟩,
  ⟨0x03, 0x03, .u64, .ro, (.val 0), .any, 8, false⟩,
  ⟨0x04, 0x04, .enum8, .stp, .kept, (.range 0 3 []), 1, true⟩,
  ⟨0x05, 0x05, .enum8, .stp, .kept, (.range 0 3 [255]), 1, true⟩,
  ⟨0x06, 0x06, .bool, .rw, (.val 1), (.range 0 1 []), 1, false⟩,
  ⟨0x07, 0x07, .enum8, .ro, (.val 255), .any, 1, false⟩,
  ⟨0x08, 0x08, .enum8, .wo, .dash, (.range 1 1 []), 1, false⟩,
  ⟨0x09, 0x09, .bool, .ro, (.val 0), (.range 0 1 []), 1, false⟩,
  ⟨0x0A, 0x0A, .u32, .ro, (.val 0), .any, 4, false⟩,
  ⟨0x0B, 0x0B, .u64, .ro, (.val 0), .any, 8, false⟩,
  ⟨0x0C, 0x0C, .u8, .ro, (.val 0), .any, 1, false⟩]⟩

/-- Object 0x2008 (10_lanes.md R348). -/
def obj_lane : Obj := ⟨0x2008, 768, 0x0f, [
  ⟨0x01, 0x01, .u16, .ro, (.val 0), .any, 2, false⟩,
  ⟨0x02, 0x02, .enum8, .ro, (.val 0), .any, 1, false⟩,
  ⟨0x03, 0x03, .enum8, .ro, (.val 0), .any, 1, false⟩,
  ⟨0x04, 0x04, .u16, .ro, .kept, .any, 2, true⟩,
  ⟨0x05, 0x05, .u16, .ro, .kept, .any, 2, true⟩,
  ⟨0x06, 0x06, .u8, .ro, .kept, .any, 1, true⟩,
  ⟨0x07, 0x07, .enum8, .ro, (.val 1), .any, 1, false⟩,
  ⟨0x08, 0x08, .u64, .ro, (.val 0), .any, 8, false⟩,
  ⟨0x09, 0x09, .u64, .stp, (.val 0), .special, 8, false⟩,
  ⟨0x0A, 0x0A, .u64, .ro, (.val 0), .any, 8, false⟩,
  ⟨0x0B, 0x0B, .enum8, .wo, .dash, (.range 1 1 []), 1, false⟩,
  ⟨0x0C, 0x0C, .u32, .ro, (.val 0), .any, 4, false⟩,
  ⟨0x0D, 0x0D, .u32, .ro, (.val 0), .any, 4, false⟩,
  ⟨0x0E, 0x0E, .u64, .ro, (.val 0), .any, 8, false⟩,
  ⟨0x0F, 0x0F, .u32, .ro, (.val 0), .any, 4, false⟩]⟩

/-- Object 0x2018 (10_lanes.md R349). -/
def obj_ltest : Obj := ⟨0x2018, 768, 0x0b, [
  ⟨0x01, 0x01, .enum8, .rw, (.val 0), .special, 1, false⟩,
  ⟨0x02, 0x02, .enum8, .rw, (.val 1), (.range 1 5 []), 1, false⟩,
  ⟨0x03, 0x03, .bool, .rw, (.val 0), (.range 0 1 []), 1, false⟩,
  ⟨0x04, 0x04, .bool, .rw, (.val 0), (.range 0 1 []), 1, false⟩,
  ⟨0x05, 0x05, .enum8, .rw, (.val 0), (.range 0 2 []), 1, false⟩,
  ⟨0x06, 0x06, .bool, .ro, (.val 0), (.range 0 1 []), 1, false⟩,
  ⟨0x07, 0x07, .u64, .ro, (.val 0), .any, 8, false⟩,
  ⟨0x08, 0x08, .u64, .ro, (.val 0), .any, 8, false⟩,
  ⟨0x09, 0x09, .u32, .ro, (.val 0), .any, 4, false⟩,
  ⟨0x0A, 0x0A, .u16, .wo, .dash, .any, 2, false⟩,
  ⟨0x0B, 0x0B, .bool, .wo, .dash, (.range 0 1 []), 1, false⟩]⟩

/-- Object 0x2020 (10_lanes.md R350). -/
def obj_fec : Obj := ⟨0x2020, 768, 0x1f, [
  ⟨0x01, 0x10, .u64, .ro, (.val 0), .any, 8, false⟩,
  ⟨0x11, 0x11, .u64, .ro, (.val 0), .any, 8, false⟩,
  ⟨0x12, 0x12, .u64, .ro, (.val 0), .any, 8, false⟩,
  ⟨0x13, 0x13, .u8, .ro, (.val 0), .any, 1, false⟩,
  ⟨0x14, 0x14, .u8, .rw, (.val 12), (.range 1 15 []), 1, false⟩,
  ⟨0x15, 0x15, .u64, .ro, (.val 0), .any, 8, false⟩,
  ⟨0x16, 0x16, .bool, .wo, .dash, (.range 0 1 []), 1, false⟩,
  ⟨0x18, 0x1F, .u64, .ro, (.val 0), .any, 8, false⟩]⟩

/-- Object 0x2030 (10_lanes.md R351). -/
def obj_board : Obj := ⟨0x2030, 1, 0x0b, [
  ⟨0x01, 0x01, .enum8, .rw, (.val 1), (.range 0 1 []), 1, false⟩,
  ⟨0x02, 0x02, .u64, .rw, (.val 0), .any, 8, false⟩,
  ⟨0x03, 0x03, .u32, .rw, (.val 0), (.range 84 61508 []), 4, false⟩,
  ⟨0x04, 0x04, .enum8, .wo, .dash, (.range 1 1 []), 1, false⟩,
  ⟨0x05, 0x05, .enum8, .ro, (.val 0), .any, 1, false⟩,
  ⟨0x06, 0x06, .bool, .ro, (.val 0), (.range 0 1 []), 1, false⟩,
  ⟨0x07, 0x07, .domain, .ro, (.val 0), .any, 16, false⟩,
  ⟨0x08, 0x08, .u32, .ro, (.val 0), .any, 4, false⟩,
  ⟨0x09, 0x09, .domain, .ro, (.val 0), .any, 48, false⟩,
  ⟨0x0A, 0x0A, .u16, .ro, (.val 0), .any, 2, false⟩,
  ⟨0x0B, 0x0B, .u16, .ro, (.val 0), .any, 2, false⟩]⟩

/-- Object 0x2038 (10_lanes.md R352). -/
def obj_d2d : Obj := ⟨0x2038, 8, 0x08, [
  ⟨0x01, 0x01, .enum8, .ro, (.val 0), .any, 1, false⟩,
  ⟨0x02, 0x02, .u64, .ro, (.val 0), .any, 8, false⟩,
  ⟨0x03, 0x03, .u64, .ro, (.val 0), .any, 8, false⟩,
  ⟨0x04, 0x04, .u64, .ro, (.val 0), .any, 8, false⟩,
  ⟨0x05, 0x05, .u32, .ro, (.val 0), .any, 4, false⟩,
  ⟨0x06, 0x06, .u32, .rw, (.val 1024), (.range 1 1000000 []), 4, false⟩,
  ⟨0x07, 0x07, .u32, .ro, (.val 0), .any, 4, false⟩,
  ⟨0x08, 0x08, .u64, .ro, (.val 0), .any, 8, false⟩]⟩

/-- Object 0x2040 (11_ethernet_ports.md R370). -/
def obj_port : Obj := ⟨0x2040, 768, 0x10, [
  ⟨0x01, 0x01, .enum8, .ro, (.val 0), .any, 1, false⟩,
  ⟨0x02, 0x02, .enum8, .wo, .dash, (.range 1 3 []), 1, false⟩,
  ⟨0x03, 0x03, .u64, .ro, (.val 0), .any, 8, false⟩,
  ⟨0x04, 0x04, .enum8, .stp, (.val 0), .special, 1, false⟩,
  ⟨0x05, 0x05, .enum8, .stp, (.val 0), (.range 0 1 []), 1, false⟩,
  ⟨0x06, 0x06, .bool, .stp, (.val 0), (.range 0 1 []), 1, false⟩,
  ⟨0x07, 0x07, .u32, .stp, (.val 500), (.range 10 10000 [0]), 4, false⟩,
  ⟨0x08, 0x08, .u16, .rw, (.val 9216), (.range 1518 16383 []), 2, false⟩,
  ⟨0x09, 0x09, .u64, .rw, (.val 0), (.mask 0xffffffffffff), 8, false⟩,
  ⟨0x0A, 0x0A, .enum8, .ro, (.val 0), .any, 1, false⟩,
  ⟨0x0B, 0x0B, .u32, .ro, (.val 0), .any, 4, false⟩,
  ⟨0x0C, 0x0C, .s32, .ro, (.val 0), .any, 4, false⟩,
  ⟨0x0D, 0x0D, .u32, .rw, (.val 16), .any, 4, false⟩,
  ⟨0x0E, 0x0E, .u8, .rw, (.val 4), (.range 1 255 []), 1, false⟩,
  ⟨0x0F, 0x0F, .u32, .ro, (.val 0), .any, 4, false⟩,
  ⟨0x10, 0x10, .u64, .ro, (.val 0), .any, 8, false⟩]⟩

/-- Object 0x2048 (11_ethernet_ports.md R371). -/
def obj_pcnt : Obj := ⟨0x2048, 768, 0x17, [
  ⟨0x01, 0x01, .u64, .ro, (.val 0), .any, 8, false⟩,
  ⟨0x02, 0x02, .u64, .ro, (.val 0), .any, 8, false⟩,
  ⟨0x03, 0x03, .u64, .ro, (.val 0), .any, 8, false⟩,
  ⟨0x04, 0x04, .u64, .ro, (.val 0), .any, 8, false⟩,
  ⟨0x05, 0x05, .u64, .ro, (.val 0), .any, 8, false⟩,
  ⟨0x06, 0x06, .u64, .ro, (.val 0), .any, 8, false⟩,
  ⟨0x07, 0x07, .u64, .ro, (.val 0), .any, 8, false⟩,
  ⟨0x08, 0x08, .u64, .ro, (.val 0), .any, 8, false⟩,
  ⟨0x09, 0x09, .u64, .ro, (.val 0), .any, 8, false⟩,
  ⟨0x0A, 0x0A, .u64, .ro, (.val 0), .any, 8, false⟩,
  ⟨0x0B, 0x0B, .u64, .ro, (.val 0), .any, 8, false⟩,
  ⟨0x0C, 0x0C, .u64, .ro, (.val 0), .any, 8, false⟩,
  ⟨0x0D, 0x0D, .u64, .ro, (.val 0), .any, 8, false⟩,
  ⟨0x0E, 0x0E, .u64, .ro, (.val 0), .any, 8, false⟩,
  ⟨0x0F, 0x0F, .u64, .ro, (.val 0), .any, 8, false⟩,
  ⟨0x10, 0x10, .u64, .ro, (.val 0), .any, 8, false⟩,
  ⟨0x11, 0x11, .u64, .ro, (.val 0), .any, 8, false⟩,
  ⟨0x12, 0x12, .u64, .ro, (.val 0), .any, 8, false⟩,
  ⟨0x13, 0x13, .u64, .ro, (.val 0), .any, 8, false⟩,
  ⟨0x14, 0x14, .u64, .ro, (.val 0), .any, 8, false⟩,
  ⟨0x15, 0x15, .u64, .ro, (.val 0), .any, 8, false⟩,
  ⟨0x16, 0x16, .u64, .ro, (.val 0), .any, 8, false⟩,
  ⟨0x17, 0x17, .bool, .wo, .dash, (.range 0 1 []), 1, false⟩]⟩

/-- Object 0x2060 (11_ethernet_ports.md R377). -/
def obj_i2c : Obj := ⟨0x2060, 4, 0x1f, [
  ⟨0x01, 0x01, .u64, .wo, .dash, .special, 8, false⟩,
  ⟨0x02, 0x02, .u64, .rw, (.val 0), (.mask 0xffffffffffffff), 8, false⟩,
  ⟨0x03, 0x03, .u64, .ro, (.val 0), .any, 8, false⟩,
  ⟨0x04, 0x04, .enum8, .rw, (.val 1), (.range 0 2 []), 1, false⟩,
  ⟨0x05, 0x05, .u32, .rw, (.val 10000), (.range 100 100000 []), 4, false⟩,
  ⟨0x06, 0x06, .enum8, .wo, .dash, (.range 1 1 []), 1, false⟩,
  ⟨0x07, 0x07, .enum8, .ro, (.val 0), .any, 1, false⟩,
  ⟨0x08, 0x08, .u32, .ro, (.val 0), .any, 4, false⟩,
  ⟨0x09, 0x09, .u32, .ro, (.val 0), .any, 4, false⟩,
  ⟨0x0A, 0x0A, .u32, .ro, (.val 0), .any, 4, false⟩,
  ⟨0x10, 0x1F, .u64, .rw, (.val 0), .any, 8, false⟩]⟩

/-- Object 0x3000 (03_packet_pipeline.md R117). -/
def obj_grp : Obj := ⟨0x3000, 8, 0x0a, [
  ⟨0x01, 0x01, .enum8, .ro, (.val 0), .any, 1, false⟩,
  ⟨0x02, 0x02, .enum8, .wo, .dash, (.range 1 3 []), 1, false⟩,
  ⟨0x03, 0x03, .u64, .ro, (.val 0), .any, 8, false⟩,
  ⟨0x04, 0x04, .enum8, .rw, (.val 0), (.range 0 1 []), 1, false⟩,
  ⟨0x05, 0x05, .bits32, .cmt, (.val 16383), .any, 4, false⟩,
  ⟨0x06, 0x06, .u8, .stp, (.val 1), (.range 1 3 []), 1, false⟩,
  ⟨0x07, 0x07, .u8, .stp, (.val 3), (.range 0 7 []), 1, false⟩,
  ⟨0x08, 0x08, .domain, .stp, (.val 0x100000000000000000000000000000000), .any, 16, false⟩,
  ⟨0x09, 0x09, .bits32, .stp, (.val 0), (.mask 0x3ff3fff), 4, false⟩,
  ⟨0x0A, 0x0A, .u64, .ro, (.val 0), .any, 8, false⟩]⟩

/-- Object 0x3008 (03_packet_pipeline.md R118). -/
def obj_ipipe : Obj := ⟨0x3008, 32, 0x08, [
  ⟨0x01, 0x01, .u8, .rw, (.val 8), (.range 0 32 []), 1, false⟩,
  ⟨0x02, 0x02, .u8, .rw, (.val 4), (.range 0 32 []), 1, false⟩,
  ⟨0x03, 0x03, .u8, .rw, (.val 2), (.range 0 32 []), 1, false⟩,
  ⟨0x04, 0x04, .u64, .ro, (.val 0), .any, 8, false⟩,
  ⟨0x05, 0x05, .u64, .ro, (.val 0), .any, 8, false⟩,
  ⟨0x06, 0x06, .u64, .ro, (.val 0), .any, 8, false⟩,
  ⟨0x07, 0x07, .u64, .ro, (.val 0), .any, 8, false⟩,
  ⟨0x08, 0x08, .u64, .ro, (.val 0), .any, 8, false⟩]⟩

/-- Object 0x3009 (03_packet_pipeline.md R119). -/
def obj_epipe : Obj := ⟨0x3009, 32, 0x03, [
  ⟨0x01, 0x01, .u64, .ro, (.val 0), .any, 8, false⟩,
  ⟨0x02, 0x02, .u64, .ro, (.val 0), .any, 8, false⟩,
  ⟨0x03, 0x03, .u64, .ro, (.val 0), .any, 8, false⟩]⟩

/-- Object 0x3010 (03_packet_pipeline.md R120). -/
def obj_gcnt : Obj := ⟨0x3010, 8, 0x05, [
  ⟨0x01, 0x01, .u64, .ro, (.val 0), .any, 8, false⟩,
  ⟨0x02, 0x02, .u64, .ro, (.val 0), .any, 8, false⟩,
  ⟨0x03, 0x03, .u64, .ro, (.val 0), .any, 8, false⟩,
  ⟨0x04, 0x04, .u64, .ro, (.val 0), .any, 8, false⟩,
  ⟨0x05, 0x05, .u64, .ro, (.val 0), .any, 8, false⟩]⟩

/-- Object 0x3030 (03_packet_pipeline.md R121). -/
def obj_dropI : Obj := ⟨0x3030, 2048, 0x02, [
  ⟨0x01, 0x01, .u64, .ro, (.val 0), .any, 8, false⟩,
  ⟨0x02, 0x02, .u64, .ro, (.val 0), .any, 8, false⟩]⟩

/-- Object 0x3031 (03_packet_pipeline.md R121). -/
def obj_dropE : Obj := ⟨0x3031, 2048, 0x02, [
  ⟨0x01, 0x01, .u64, .ro, (.val 0), .any, 8, false⟩,
  ⟨0x02, 0x02, .u64, .ro, (.val 0), .any, 8, false⟩]⟩

/-- Object 0x3040 (04_microcode.md R163). -/
def obj_img : Obj := ⟨0x3040, 8, 0x0a, [
  ⟨0x01, 0x01, .enum8, .stp, (.val 0), (.range 0 1 []), 1, false⟩,
  ⟨0x02, 0x02, .u64, .stp, (.val 0), .any, 8, false⟩,
  ⟨0x03, 0x03, .u32, .stp, (.val 0), (.range 512 4194304 []), 4, false⟩,
  ⟨0x04, 0x04, .enum8, .stp, (.val 0), (.range 1 1 []), 1, false⟩,
  ⟨0x05, 0x05, .enum8, .ro, (.val 0), .any, 1, false⟩,
  ⟨0x06, 0x06, .domain, .ro, (.val 0), .any, 16, false⟩,
  ⟨0x07, 0x07, .u32, .ro, (.val 0), .any, 4, false⟩,
  ⟨0x08, 0x08, .bits32, .ro, (.val 0), .any, 4, false⟩,
  ⟨0x09, 0x09, .domain, .ro, (.val 0), .any, 48, false⟩,
  ⟨0x0A, 0x0A, .bool, .ro, (.val 0), (.range 0 1 []), 1, false⟩]⟩

/-- Object 0x3048 (04_microcode.md R164). -/
def obj_trap : Obj := ⟨0x3048, 8, 0x0b, [
  ⟨0x01, 0x01, .u8, .stp, (.val 4), (.range 1 15 []), 1, false⟩,
  ⟨0x02, 0x02, .u32, .rw, (.val 1000), (.range 10 10000 []), 4, false⟩,
  ⟨0x03, 0x03, .u16, .ro, (.val 0), .any, 2, false⟩,
  ⟨0x04, 0x04, .u16, .rw, (.val 0), (.range 0 0 []), 2, false⟩,
  ⟨0x05, 0x05, .u16, .ro, (.val 0), .any, 2, false⟩,
  ⟨0x06, 0x06, .u16, .ro, (.val 0), .any, 2, false⟩,
  ⟨0x07, 0x07, .u64, .ro, (.val 0), .any, 8, false⟩,
  ⟨0x08, 0x08, .u64, .ro, (.val 0), .any, 8, false⟩,
  ⟨0x09, 0x09, .u32, .ro, (.val 0), .any, 4, false⟩,
  ⟨0x0A, 0x0A, .u64, .ro, (.val 0), .any, 8, false⟩,
  ⟨0x0B, 0x0B, .u64, .ro, (.val 0), .any, 8, false⟩]⟩

/-- Object 0x3050 (04_microcode.md R165). -/
def obj_trapc : Obj := ⟨0x3050, 64, 0x02, [
  ⟨0x01, 0x01, .u64, .ro, (.val 0), .any, 8, false⟩,
  ⟨0x02, 0x02, .u64, .ro, (.val 0), .any, 8, false⟩]⟩

/-- Object 0x4000 (05_tables_and_lookups.md R202). -/
def obj_tbl : Obj := ⟨0x4000, 26, 0x11, [
  ⟨0x01, 0x01, .enum8, .ro, (.val 1), .any, 1, false⟩,
  ⟨0x02, 0x02, .enum8, .wo, .dash, (.range 1 3 []), 1, false⟩,
  ⟨0x03, 0x03, .u64, .ro, (.val 0), .any, 8, false⟩,
  ⟨0x04, 0x04, .enum8, .ro, .byInst, .any, 1, false⟩,
  ⟨0x05, 0x05, .enum8, .ro, .byInst, .any, 1, false⟩,
  ⟨0x06, 0x06, .bool, .ro, .byInst, (.range 0 1 []), 1, false⟩,
  ⟨0x07, 0x07, .u32, .ro, .byInst, .any, 4, false⟩,
  ⟨0x08, 0x08, .u32, .ro, (.val 0), .any, 4, false⟩,
  ⟨0x09, 0x09, .enum8, .stp, (.val 0), (.range 0 1 []), 1, false⟩,
  ⟨0x0A, 0x0A, .u32, .stp, (.val 4294967295), .any, 4, false⟩,
  ⟨0x0B, 0x0B, .u32, .stp, (.val 4294967295), .any, 4, false⟩,
  ⟨0x0C, 0x0C, .u8, .stp, .byInst, .special, 1, false⟩,
  ⟨0x0D, 0x0D, .u32, .stp, .byInst, .special, 4, false⟩,
  ⟨0x0E, 0x0E, .u64, .ro, (.val 0), .any, 8, false⟩,
  ⟨0x0F, 0x0F, .u64, .ro, (.val 0), .any, 8, false⟩,
  ⟨0x10, 0x10, .u64, .ro, (.val 0), .any, 8, false⟩,
  ⟨0x11, 0x11, .u64, .ro, (.val 0), .any, 8, false⟩]⟩

/-- Object 0x4001 (05_tables_and_lookups.md R203). -/
def obj_rte : Obj := ⟨0x4001, 1, 0x05, [
  ⟨0x01, 0x01, .u8, .stp, (.val 8), (.range 1 16 []), 1, false⟩,
  ⟨0x02, 0x02, .u32, .ro, (.val 49152), .any, 4, false⟩,
  ⟨0x03, 0x03, .u32, .ro, (.val 0), .any, 4, false⟩,
  ⟨0x04, 0x04, .u64, .ro, (.val 0), .any, 8, false⟩,
  ⟨0x05, 0x05, .u64, .ro, (.val 0), .any, 8, false⟩]⟩

/-- Object 0x4002 (05_tables_and_lookups.md R204). -/
def obj_ceng : Obj := ⟨0x4002, 1, 0x03, [
  ⟨0x01, 0x01, .u16, .ro, (.val 0), .any, 2, false⟩,
  ⟨0x02, 0x02, .u64, .ro, (.val 0), .any, 8, false⟩,
  ⟨0x03, 0x03, .u64, .ro, (.val 0), .any, 8, false⟩]⟩

/-- Object 0x4004 (06_table_maintenance.md R235). -/
def obj_tmnt : Obj := ⟨0x4004, 26, 0x11, [
  ⟨0x01, 0x01, .bool, .rw, (.val 0), (.range 0 1 []), 1, false⟩,
  ⟨0x02, 0x02, .bool, .ro, (.val 0), (.range 0 1 []), 1, false⟩,
  ⟨0x03, 0x03, .u8, .stp, (.val 10), (.range 0 20 []), 1, false⟩,
  ⟨0x04, 0x04, .u16, .rw, (.val 300), (.range 1 32768 []), 2, false⟩,
  ⟨0x05, 0x05, .enum8, .rw, (.val 0), (.range 0 2 []), 1, false⟩,
  ⟨0x06, 0x06, .u16, .rw, (.val 2048), (.range 64 16384 []), 2, false⟩,
  ⟨0x07, 0x07, .u16, .ro, (.val 0), .any, 2, false⟩,
  ⟨0x08, 0x08, .u32, .ro, .byInst, .any, 4, false⟩,
  ⟨0x09, 0x09, .u64, .ro, (.val 0), .any, 8, false⟩,
  ⟨0x0A, 0x0A, .u64, .ro, (.val 0), .any, 8, false⟩,
  ⟨0x0B, 0x0B, .u64, .ro, (.val 0), .any, 8, false⟩,
  ⟨0x0C, 0x0C, .u64, .ro, (.val 0), .any, 8, false⟩,
  ⟨0x0D, 0x0D, .u64, .ro, (.val 0), .any, 8, false⟩,
  ⟨0x0E, 0x0E, .u64, .ro, (.val 0), .any, 8, false⟩,
  ⟨0x0F, 0x0F, .u64, .ro, (.val 0), .any, 8, false⟩,
  ⟨0x10, 0x10, .u32, .ro, (.val 0), .any, 4, false⟩,
  ⟨0x11, 0x11, .u64, .ro, (.val 0), .any, 8, false⟩]⟩

/-- Object 0x4008 (05_tables_and_lookups.md R205). -/
def obj_region : Obj := ⟨0x4008, 64, 0x04, [
  ⟨0x01, 0x01, .u8, .stp, .byInst, (.range 0 25 [255]), 1, false⟩,
  ⟨0x02, 0x02, .u8, .stp, .byInst, (.range 0 7 []), 1, false⟩,
  ⟨0x03, 0x03, .u16, .stp, .byInst, .any, 2, false⟩,
  ⟨0x04, 0x04, .u16, .stp, .byInst, .any, 2, false⟩]⟩

/-- Object 0x4010 (06_table_maintenance.md R236). -/
def obj_lgrp : Obj := ⟨0x4010, 8, 0x03, [
  ⟨0x01, 0x01, .u8, .stp, (.val 255), (.range 0 63 [255]), 1, false⟩,
  ⟨0x02, 0x02, .u64, .ro, (.val 0), .any, 8, false⟩,
  ⟨0x03, 0x03, .u64, .ro, (.val 0), .any, 8, false⟩]⟩

/-- Object 0x4011 (06_table_maintenance.md R237). -/
def obj_lring : Obj := ⟨0x4011, 1, 0x09, [
  ⟨0x01, 0x01, .u8, .rw, (.val 0), .any, 1, false⟩,
  ⟨0x02, 0x02, .bool, .rw, (.val 0), (.range 0 1 []), 1, false⟩,
  ⟨0x03, 0x03, .u32, .rw, (.val 2000000), (.range 1000 50000000 []), 4, false⟩,
  ⟨0x04, 0x04, .u16, .rw, (.val 4096), (.range 1 65535 []), 2, false⟩,
  ⟨0x05, 0x05, .u32, .rw, (.val 1000), (.range 0 1000000 []), 4, false⟩,
  ⟨0x06, 0x06, .u64, .ro, (.val 0), .any, 8, false⟩,
  ⟨0x07, 0x07, .u64, .ro, (.val 0), .any, 8, false⟩,
  ⟨0x08, 0x08, .u64, .ro, (.val 0), .any, 8, false⟩,
  ⟨0x09, 0x09, .u64, .ro, (.val 0), .any, 8, false⟩]⟩

/-- Object 0x4100 (06_table_maintenance.md R214). -/
def obj_chan : Obj := ⟨0x4100, 8, 0x2f, [
  ⟨0x01, 0x01, .u64, .wo, .dash, .any, 8, false⟩,
  ⟨0x02, 0x02, .u64, .rw, (.val 0), .any, 8, false⟩,
  ⟨0x03, 0x03, .u64, .rw, (.val 0), .any, 8, false⟩,
  ⟨0x04, 0x04, .u64, .ro, (.val 0), .any, 8, false⟩,
  ⟨0x05, 0x05, .u64, .ro, (.val 0), .any, 8, false⟩,
  ⟨0x10, 0x2F, .u64, .rw, (.val 0), .any, 8, false⟩]⟩

/-- Object 0x5000 (07_central_store.md R270). -/
def obj_store : Obj := ⟨0x5000, 1, 0x18, [
  ⟨0x01, 0x01, .enum8, .ro, (.val 1), .any, 1, false⟩,
  ⟨0x02, 0x02, .enum8, .wo, .dash, (.range 1 3 []), 1, false⟩,
  ⟨0x03, 0x03, .u64, .ro, (.val 0), .any, 8, false⟩,
  ⟨0x04, 0x04, .u8, .stp, (.val 16), (.range 8 32 []), 1, false⟩,
  ⟨0x05, 0x05, .enum8, .stp, (.val 0), (.range 0 1 []), 1, false⟩,
  ⟨0x06, 0x06, .u32, .stp, (.val 16384), (.range 0 65536 []), 4, false⟩,
  ⟨0x07, 0x07, .u64, .cmt, (.val 0), (.mask 0xffffffffff), 8, false⟩,
  ⟨0x08, 0x08, .u16, .stp, (.val 64), (.range 16 4096 []), 2, false⟩,
  ⟨0x09, 0x09, .u32, .stp, (.val 65536), (.range 4096 262144 []), 4, false⟩,
  ⟨0x0A, 0x0A, .u32, .stp, (.val 131072), (.range 16384 524288 []), 4, false⟩,
  ⟨0x0B, 0x0B, .u8, .cmt, (.val 63), (.range 0 63 [255]), 1, false⟩,
  ⟨0x0C, 0x0C, .u32, .ro, (.val 1261568), .any, 4, false⟩,
  ⟨0x0D, 0x0D, .u32, .ro, .dash, .any, 4, false⟩,
  ⟨0x0E, 0x0E, .u32, .ro, (.val 29360128), .any, 4, false⟩,
  ⟨0x0F, 0x0F, .u32, .ro, .dash, .any, 4, false⟩,
  ⟨0x10, 0x10, .u32, .ro, .dash, .any, 4, false⟩,
  ⟨0x11, 0x11, .u64, .ro, (.val 0), .any, 8, false⟩,
  ⟨0x12, 0x12, .u64, .ro, (.val 0), .any, 8, false⟩,
  ⟨0x13, 0x13, .u64, .ro, (.val 0), .any, 8, false⟩,
  ⟨0x14, 0x14, .u64, .ro, (.val 0), .any, 8, false⟩,
  ⟨0x15, 0x15, .u64, .ro, (.val 0), .any, 8, false⟩,
  ⟨0x16, 0x16, .u64, .ro, (.val 0), .any, 8, false⟩,
  ⟨0x17, 0x17, .u64, .ro, (.val 0), .any, 8, false⟩,
  ⟨0x18, 0x18, .u64, .ro, (.val 0), .any, 8, false⟩]⟩

/-- Object 0x5008 (07_central_store.md R271). -/
def obj_qprof : Obj := ⟨0x5008, 32, 0x0b, [
  ⟨0x01, 0x01, .s32, .cmt, (.val 4294967294), (.srange (-7) (3)), 4, false⟩,
  ⟨0x02, 0x02, .s32, .cmt, (.val 4294967291), (.srange (-7) (3)), 4, false⟩,
  ⟨0x03, 0x03, .bool, .cmt, (.val 1), (.range 0 1 []), 1, false⟩,
  ⟨0x04, 0x04, .u32, .cmt, (.val 1024), (.range 64 65536 []), 4, false⟩,
  ⟨0x05, 0x05, .u8, .cmt, (.val 8), (.range 1 64 []), 1, false⟩,
  ⟨0x06, 0x06, .u32, .cmt, (.val 1024), (.range 64 65536 []), 4, false⟩,
  ⟨0x07, 0x07, .bool, .cmt, (.val 0), (.range 0 1 []), 1, false⟩,
  ⟨0x08, 0x08, .u32, .cmt, (.val 4096), .any, 4, false⟩,
  ⟨0x09, 0x09, .u32, .cmt, (.val 16384), .any, 4, false⟩,
  ⟨0x0A, 0x0A, .u8, .cmt, (.val 26), .any, 1, false⟩,
  ⟨0x0B, 0x0B, .u32, .ro, .dash, .any, 4, false⟩]⟩

/-- Object 0x5010 (07_central_store.md R272). -/
def obj_ptc : Obj := ⟨0x5010, 6144, 0x0e, [
  ⟨0x01, 0x01, .u16, .cmt, (.val 16), (.range 0 4096 []), 2, false⟩,
  ⟨0x02, 0x02, .u8, .cmt, (.val 0), (.range 0 31 []), 1, false⟩,
  ⟨0x03, 0x03, .bool, .cmt, (.val 0), (.range 0 1 []), 1, false⟩,
  ⟨0x04, 0x04, .u32, .cmt, (.val 0), (.range 0 65536 []), 4, false⟩,
  ⟨0x05, 0x05, .s32, .cmt, (.val 4294967291), (.srange (-7) (3)), 4, false⟩,
  ⟨0x06, 0x06, .u32, .cmt, (.val 512), .any, 4, false⟩,
  ⟨0x07, 0x07, .u8, .cmt, .byInst, (.range 0 7 []), 1, false⟩,
  ⟨0x08, 0x08, .u32, .ro, (.val 0), .any, 4, false⟩,
  ⟨0x09, 0x09, .u32, .ro, (.val 0), .any, 4, false⟩,
  ⟨0x0A, 0x0A, .bool, .ro, (.val 0), (.range 0 1 []), 1, false⟩,
  ⟨0x0B, 0x0B, .u64, .ro, (.val 0), .any, 8, false⟩,
  ⟨0x0C, 0x0C, .u32, .ro, (.val 0), .any, 4, false⟩,
  ⟨0x0D, 0x0D, .u32, .ro, (.val 0), .any, 4, false⟩,
  ⟨0x0E, 0x0E, .u64, .ro, (.val 0), .any, 8, false⟩]⟩

/-- Object 0x5018 (07_central_store.md R273). -/
def obj_qprobe : Obj := ⟨0x5018, 8, 0x09, [
  ⟨0x01, 0x01, .u32, .rw, (.val 0), .special, 4, false⟩,
  ⟨0x02, 0x02, .enum8, .ro, (.val 0), .any, 1, false⟩,
  ⟨0x03, 0x03, .u32, .ro, (.val 0), .any, 4, false⟩,
  ⟨0x04, 0x04, .u32, .ro, (.val 0), .any, 4, false⟩,
  ⟨0x05, 0x05, .u32, .ro, (.val 0), .any, 4, false⟩,
  ⟨0x06, 0x06, .u32, .ro, (.val 0), .any, 4, false⟩,
  ⟨0x07, 0x07, .u32, .ro, (.val 0), .any, 4, false⟩,
  ⟨0x08, 0x08, .u64, .ro, (.val 0), .any, 8, false⟩,
  ⟨0x09, 0x09, .u64, .ro, (.val 0), .any, 8, false⟩]⟩

/-- Object 0x5040 (07_central_store.md R274). -/
def obj_dropc : Obj := ⟨0x5040, 32, 0x02, [
  ⟨0x01, 0x01, .u64, .ro, (.val 0), .any, 8, false⟩,
  ⟨0x02, 0x02, .u64, .ro, (.val 0), .any, 8, false⟩]⟩

/-- Object 0x5041 (07_central_store.md R274). -/
def obj_markc : Obj := ⟨0x5041, 4, 0x02, [
  ⟨0x01, 0x01, .u64, .ro, (.val 0), .any, 8, false⟩,
  ⟨0x02, 0x02, .u64, .ro, (.val 0), .any, 8, false⟩]⟩

/-- Object 0x5048 (07_central_store.md R275). -/
def obj_retire : Obj := ⟨0x5048, 8, 0x04, [
  ⟨0x01, 0x01, .u16, .ro, .kept, .any, 2, true⟩,
  ⟨0x02, 0x02, .u32, .ro, (.val 0), .any, 4, false⟩,
  ⟨0x03, 0x03, .u32, .ro, .kept, .any, 4, true⟩,
  ⟨0x04, 0x04, .bool, .wo, .dash, (.range 0 1 []), 1, false⟩]⟩

/-- Object 0x5060 (07_central_store.md R276). -/
def obj_mgrp : Obj := ⟨0x5060, 65536, 0x03, [
  ⟨0x01, 0x01, .bool, .rw, (.val 0), (.range 0 1 []), 1, false⟩,
  ⟨0x02, 0x02, .u32, .rw, (.val 0), (.range 0 262143 []), 4, false⟩,
  ⟨0x03, 0x03, .u16, .rw, (.val 0), (.range 1 4096 []), 2, false⟩]⟩

/-- Object 0x5068 (07_central_store.md R276). -/
def obj_rlist : Obj := ⟨0x5068, 65536, 0x04, [
  ⟨0x01, 0x04, .u32, .rw, (.val 0), (.mask 0x8f3fffff), 4, false⟩]⟩

/-- Object 0x5080 (08_babbitt_arbiter.md R288). -/
def obj_slots : Obj := ⟨0x5080, 8, 0x2f, [
  ⟨0x01, 0x01, .bits32, .w1c, (.val 0), (.mask 0xfe), 4, false⟩,
  ⟨0x02, 0x02, .u64, .ro, (.val 0), .any, 8, false⟩,
  ⟨0x03, 0x03, .bool, .ro, (.val 0), (.range 0 1 []), 1, false⟩,
  ⟨0x10, 0x2F, .u64, .cmt, .byInst, .special, 8, false⟩]⟩

/-- Object 0x5081 (08_babbitt_arbiter.md R289). -/
def obj_thr : Obj := ⟨0x5081, 1, 0x07, [
  ⟨0x01, 0x01, .u16, .cmt, (.val 1024), (.range 16 32767 [0]), 2, false⟩,
  ⟨0x02, 0x02, .u16, .cmt, (.val 256), (.range 16 32767 [0]), 2, false⟩,
  ⟨0x03, 0x03, .u16, .cmt, (.val 128), (.range 16 32767 [0]), 2, false⟩,
  ⟨0x04, 0x04, .u16, .cmt, (.val 4096), (.range 16 32767 [0]), 2, false⟩,
  ⟨0x05, 0x05, .u16, .cmt, (.val 32767), (.range 16 32767 [0]), 2, false⟩,
  ⟨0x06, 0x06, .u16, .cmt, (.val 4096), (.range 16 32767 [0]), 2, false⟩,
  ⟨0x07, 0x07, .u16, .cmt, (.val 8192), (.range 16 32767 [0]), 2, false⟩]⟩

/-- Object 0x5090 (08_babbitt_arbiter.md R290). -/
def obj_bcls : Obj := ⟨0x5090, 64, 0x06, [
  ⟨0x01, 0x01, .u64, .ro, (.val 0), .any, 8, false⟩,
  ⟨0x02, 0x02, .u64, .ro, (.val 0), .any, 8, false⟩,
  ⟨0x03, 0x03, .u32, .ro, (.val 0), .any, 4, false⟩,
  ⟨0x04, 0x04, .u16, .ro, (.val 0), .any, 2, false⟩,
  ⟨0x05, 0x05, .u16, .rw, (.val 0), (.range 0 0 []), 2, false⟩,
  ⟨0x06, 0x06, .u32, .ro, (.val 0), .any, 4, false⟩]⟩

/-- Object 0x5100 (09_traffic_management.md R314). -/
def obj_lprof : Obj := ⟨0x5100, 16, 0x01, [
  ⟨0x01, 0x01, .s32, .rw, (.val 0), (.srange (-32) (63)), 4, false⟩]⟩

/-- Object 0x5110 (09_traffic_management.md R315). -/
def obj_meng : Obj := ⟨0x5110, 1, 0x05, [
  ⟨0x01, 0x01, .u64, .ro, (.val 0), .any, 8, false⟩,
  ⟨0x02, 0x02, .u64, .ro, (.val 0), .any, 8, false⟩,
  ⟨0x03, 0x03, .u64, .ro, (.val 0), .any, 8, false⟩,
  ⟨0x04, 0x04, .u64, .ro, (.val 0), .any, 8, false⟩,
  ⟨0x05, 0x05, .u64, .ro, (.val 0), .any, 8, false⟩]⟩

/-- Object 0x5120 (09_traffic_management.md R316). -/
def obj_psch : Obj := ⟨0x5120, 768, 0x06, [
  ⟨0x01, 0x01, .u16, .rw, (.val 65535), (.range 256 65535 []), 2, false⟩,
  ⟨0x02, 0x02, .enum8, .cmt, (.val 0), (.range 0 2 []), 1, false⟩,
  ⟨0x03, 0x03, .bits32, .ro, (.val 0), .any, 4, false⟩,
  ⟨0x04, 0x04, .u64, .ro, (.val 0), .any, 8, false⟩,
  ⟨0x05, 0x05, .u64, .ro, (.val 0), .any, 8, false⟩,
  ⟨0x06, 0x06, .u64, .ro, (.val 0), .any, 8, false⟩]⟩

/-- Object 0x5128 (09_traffic_management.md R317). -/
def obj_tcsch : Obj := ⟨0x5128, 6144, 0x06, [
  ⟨0x01, 0x01, .u8, .cmt, (.val 0), (.range 0 3 []), 1, false⟩,
  ⟨0x02, 0x02, .u32, .cmt, (.val 16384), (.range 64 1048576 []), 4, false⟩,
  ⟨0x03, 0x03, .s32, .ro, (.val 0), .any, 4, false⟩,
  ⟨0x04, 0x04, .u64, .ro, (.val 0), .any, 8, false⟩,
  ⟨0x05, 0x05, .u64, .ro, (.val 0), .any, 8, false⟩,
  ⟨0x06, 0x06, .u64, .ro, (.val 0), .any, 8, false⟩]⟩

/-- Object 0x5130 (09_traffic_management.md R318). -/
def obj_shapA : Obj := ⟨0x5130, 65536, 0x06, [
  ⟨0x01, 0x01, .u32, .rw, (.val 0), (.range 10000 1600000000 [0]), 4, false⟩,
  ⟨0x02, 0x02, .u32, .rw, (.val 16384), (.range 64 16777215 []), 4, false⟩,
  ⟨0x03, 0x03, .u8, .rw, (.val 0), (.range 0 15 []), 1, false⟩,
  ⟨0x04, 0x04, .u32, .cmt, .byInst, .special, 4, false⟩,
  ⟨0x05, 0x05, .s32, .ro, (.val 0), .any, 4, false⟩,
  ⟨0x06, 0x06, .u64, .ro, (.val 0), .any, 8, false⟩]⟩

/-- Object 0x5131 (09_traffic_management.md R318). -/
def obj_shapB : Obj := ⟨0x5131, 65536, 0x06, [
  ⟨0x01, 0x01, .u32, .rw, (.val 0), (.range 10000 1600000000 [0]), 4, false⟩,
  ⟨0x02, 0x02, .u32, .rw, (.val 16384), (.range 64 16777215 []), 4, false⟩,
  ⟨0x03, 0x03, .u8, .rw, (.val 0), (.range 0 15 []), 1, false⟩,
  ⟨0x04, 0x04, .u32, .cmt, .byInst, .special, 4, false⟩,
  ⟨0x05, 0x05, .s32, .ro, (.val 0), .any, 4, false⟩,
  ⟨0x06, 0x06, .u64, .ro, (.val 0), .any, 8, false⟩]⟩

/-- Object 0x5138 (09_traffic_management.md R319). -/
def obj_wheel : Obj := ⟨0x5138, 1, 0x03, [
  ⟨0x01, 0x01, .u32, .ro, (.val 0), .any, 4, false⟩,
  ⟨0x02, 0x02, .u32, .ro, (.val 0), .any, 4, false⟩,
  ⟨0x03, 0x03, .u64, .ro, (.val 0), .any, 8, false⟩]⟩

/-- Object 0x6000 (12_fabric.md R404). -/
def obj_fab : Obj := ⟨0x6000, 1, 0x0c, [
  ⟨0x01, 0x01, .u16, .ro, (.val 4095), .any, 2, false⟩,
  ⟨0x02, 0x02, .u16, .wo, .dash, .special, 2, false⟩,
  ⟨0x03, 0x03, .bool, .ro, .kept, (.range 0 1 []), 1, true⟩,
  ⟨0x04, 0x04, .u16, .ro, (.val 4095), .any, 2, false⟩,
  ⟨0x05, 0x05, .bool, .rw, (.val 0), (.range 0 1 []), 1, false⟩,
  ⟨0x06, 0x06, .u32, .rw, (.val 8), (.range 1 1024 []), 4, false⟩,
  ⟨0x07, 0x07, .u32, .rw, (.val 256), (.range 32 65536 []), 4, false⟩,
  ⟨0x08, 0x08, .u8, .ro, (.val 2), .any, 1, false⟩,
  ⟨0x09, 0x09, .u8, .rw, (.val 1), (.range 1 2 []), 1, false⟩,
  ⟨0x0A, 0x0A, .u32, .rw, (.val 100), (.range 10 10000 []), 4, false⟩,
  ⟨0x0B, 0x0B, .u8, .ro, (.val 0), .any, 1, false⟩,
  ⟨0x0C, 0x0C, .u64, .ro, (.val 0), .any, 8, false⟩]⟩

/-- Object 0x6008 (12_fabric.md R405). -/
def obj_idn : Obj := ⟨0x6008, 4096, 0x03, [
  ⟨0x01, 0x01, .bool, .rw, (.val 0), (.range 0 1 []), 1, false⟩,
  ⟨0x02, 0x02, .u64, .rw, (.val 0), .any, 8, false⟩,
  ⟨0x03, 0x03, .u32, .rw, (.val 0), .any, 4, false⟩]⟩

/-- Object 0x6020 (12_fabric.md R406). -/
def obj_rt : Obj := ⟨0x6020, 4096, 0x12, [
  ⟨0x01, 0x10, .u32, .cmt, (.val 0), .special, 4, false⟩,
  ⟨0x11, 0x11, .bits32, .ro, (.val 0), .any, 4, false⟩,
  ⟨0x12, 0x12, .u32, .ro, (.val 0), .any, 4, false⟩]⟩

/-- Object 0x6040 (12_fabric.md R407). -/
def obj_link : Obj := ⟨0x6040, 768, 0x18, [
  ⟨0x01, 0x01, .enum8, .ro, (.val 0), .any, 1, false⟩,
  ⟨0x02, 0x02, .enum8, .wo, .dash, (.range 1 3 []), 1, false⟩,
  ⟨0x03, 0x03, .u64, .ro, (.val 0), .any, 8, false⟩,
  ⟨0x04, 0x04, .enum8, .stp, (.val 0), (.range 1 2 [0, 4, 8]), 1, false⟩,
  ⟨0x05, 0x05, .enum8, .stp, (.val 1), (.range 1 2 []), 1, false⟩,
  ⟨0x06, 0x06, .enum8, .stp, (.val 1), (.range 0 1 []), 1, false⟩,
  ⟨0x07, 0x07, .u64, .stp, .byInst, .special, 8, false⟩,
  ⟨0x08, 0x08, .enum8, .ro, (.val 0), .any, 1, false⟩,
  ⟨0x09, 0x09, .enum8, .ro, (.val 0), .any, 1, false⟩,
  ⟨0x0A, 0x0A, .u8, .ro, (.val 0), .any, 1, false⟩,
  ⟨0x0B, 0x0B, .u64, .ro, (.val 0), .any, 8, false⟩,
  ⟨0x0C, 0x0C, .u32, .ro, (.val 0), .any, 4, false⟩,
  ⟨0x0D, 0x0D, .u16, .ro, (.val 4095), .any, 2, false⟩,
  ⟨0x0E, 0x0E, .u16, .ro, (.val 0), .any, 2, false⟩,
  ⟨0x0F, 0x0F, .u8, .ro, (.val 0), .any, 1, false⟩,
  ⟨0x10, 0x10, .u64, .rw, (.val 0), .any, 8, false⟩,
  ⟨0x11, 0x11, .u32, .rw, (.val 0), .any, 4, false⟩,
  ⟨0x12, 0x12, .u16, .rw, (.val 4095), .special, 2, false⟩,
  ⟨0x13, 0x13, .enum8, .wo, .dash, (.range 1 1 []), 1, false⟩,
  ⟨0x14, 0x14, .enum8, .ro, (.val 0), .any, 1, false⟩,
  ⟨0x15, 0x15, .domain, .rw, (.val 0), .any, 128, false⟩,
  ⟨0x16, 0x16, .enum8, .ro, (.val 0), .any, 1, false⟩,
  ⟨0x17, 0x17, .domain, .ro, (.val 0), .any, 128, false⟩,
  ⟨0x18, 0x18, .u16, .rw, (.val 450), (.range 1 1000 []), 2, false⟩]⟩

/-- Object 0x6048 (12_fabric.md R408). -/
def obj_lcnt : Obj := ⟨0x6048, 768, 0x13, [
  ⟨0x01, 0x01, .u64, .ro, (.val 0), .any, 8, false⟩,
  ⟨0x02, 0x02, .u64, .ro, (.val 0), .any, 8, false⟩,
  ⟨0x03, 0x03, .u64, .ro, (.val 0), .any, 8, false⟩,
  ⟨0x04, 0x04, .u64, .ro, (.val 0), .any, 8, false⟩,
  ⟨0x05, 0x05, .u64, .ro, (.val 0), .any, 8, false⟩,
  ⟨0x06, 0x06, .u32, .ro, (.val 0), .any, 4, false⟩,
  ⟨0x07, 0x07, .u64, .ro, (.val 0), .any, 8, false⟩,
  ⟨0x08, 0x08, .u16, .ro, (.val 0), .any, 2, false⟩,
  ⟨0x09, 0x09, .s32, .ro, (.val 0), .any, 4, false⟩,
  ⟨0x0A, 0x0A, .u64, .ro, (.val 0), .any, 8, false⟩,
  ⟨0x0B, 0x0B, .u64, .ro, (.val 0), .any, 8, false⟩,
  ⟨0x0C, 0x0C, .u64, .ro, (.val 0), .any, 8, false⟩,
  ⟨0x0D, 0x0D, .u64, .ro, (.val 0), .any, 8, false⟩,
  ⟨0x0E, 0x0E, .u64, .ro, (.val 0), .any, 8, false⟩,
  ⟨0x0F, 0x0F, .u32, .ro, (.val 0), .any, 4, false⟩,
  ⟨0x10, 0x10, .u32, .ro, (.val 0), .any, 4, false⟩,
  ⟨0x11, 0x11, .u32, .ro, (.val 0), .any, 4, false⟩,
  ⟨0x12, 0x12, .u64, .ro, (.val 0), .any, 8, false⟩,
  ⟨0x13, 0x13, .bool, .wo, .dash, (.range 0 1 []), 1, false⟩]⟩

/-- Object 0x6050 (13_fabric_scheduling.md R429). -/
def obj_fsch : Obj := ⟨0x6050, 1, 0x12, [
  ⟨0x01, 0x01, .u8, .cmt, (.val 4), (.range 2 32 []), 1, false⟩,
  ⟨0x02, 0x02, .u8, .cmt, (.val 32), (.range 16 48 []), 1, false⟩,
  ⟨0x03, 0x03, .u16, .cmt, (.val 16), (.range 1 1024 []), 2, false⟩,
  ⟨0x04, 0x04, .u32, .rw, (.val 1024), (.range 64 1048576 []), 4, false⟩,
  ⟨0x05, 0x05, .u32, .rw, (.val 10000), (.range 100 1000000 []), 4, false⟩,
  ⟨0x06, 0x06, .enum8, .ro, (.val 0), .any, 1, false⟩,
  ⟨0x07, 0x07, .u64, .ro, (.val 0), .any, 8, false⟩,
  ⟨0x08, 0x08, .u64, .ro, (.val 0), .any, 8, false⟩,
  ⟨0x09, 0x09, .u64, .ro, (.val 0), .any, 8, false⟩,
  ⟨0x0A, 0x0A, .u64, .ro, (.val 0), .any, 8, false⟩,
  ⟨0x0B, 0x0B, .u64, .ro, (.val 0), .any, 8, false⟩,
  ⟨0x0C, 0x0C, .u64, .ro, (.val 0), .any, 8, false⟩,
  ⟨0x0D, 0x0D, .u64, .ro, (.val 0), .any, 8, false⟩,
  ⟨0x0E, 0x0E, .u64, .ro, (.val 0), .any, 8, false⟩,
  ⟨0x0F, 0x0F, .u64, .ro, (.val 0), .any, 8, false⟩,
  ⟨0x10, 0x10, .u16, .ro, (.val 0), .any, 2, false⟩,
  ⟨0x11, 0x11, .u32, .ro, (.val 0), .any, 4, false⟩,
  ⟨0x12, 0x12, .u64, .ro, (.val 0), .any, 8, false⟩]⟩

/-- Object 0x6058 (13_fabric_scheduling.md R430). -/
def obj_pgr : Obj := ⟨0x6058, 768, 0x07, [
  ⟨0x01, 0x01, .u8, .cmt, (.val 0), (.range 0 64 []), 1, false⟩,
  ⟨0x02, 0x02, .u32, .ro, (.val 0), .any, 4, false⟩,
  ⟨0x03, 0x03, .u32, .ro, (.val 0), .any, 4, false⟩,
  ⟨0x04, 0x04, .u64, .ro, (.val 0), .any, 8, false⟩,
  ⟨0x05, 0x05, .u64, .ro, (.val 0), .any, 8, false⟩,
  ⟨0x06, 0x06, .u64, .ro, (.val 0), .any, 8, false⟩,
  ⟨0x07, 0x07, .u32, .ro, (.val 0), .any, 4, false⟩]⟩

/-- Object 0x6060 (13_fabric_scheduling.md R431). -/
def obj_feq : Obj := ⟨0x6060, 6144, 0x04, [
  ⟨0x01, 0x01, .bool, .cmt, (.val 0), (.range 0 1 []), 1, false⟩,
  ⟨0x02, 0x02, .u32, .ro, (.val 0), .any, 4, false⟩,
  ⟨0x03, 0x03, .u16, .ro, (.val 0), .any, 2, false⟩,
  ⟨0x04, 0x04, .u32, .ro, (.val 0), .any, 4, false⟩]⟩

/-- Object 0x6068 (13_fabric_scheduling.md R432). -/
def obj_srcw : Obj := ⟨0x6068, 4096, 0x01, [
  ⟨0x01, 0x01, .u8, .cmt, (.val 1), (.range 1 255 []), 1, false⟩]⟩

/-- Object 0x6070 (13_fabric_scheduling.md R433). -/
def obj_reach : Obj := ⟨0x6070, 4096, 0x04, [
  ⟨0x01, 0x01, .enum8, .ro, (.val 0), .any, 1, false⟩,
  ⟨0x02, 0x02, .u64, .ro, (.val 0), .any, 8, false⟩,
  ⟨0x03, 0x03, .enum8, .ro, (.val 0), .any, 1, false⟩,
  ⟨0x04, 0x04, .u64, .ro, (.val 0), .any, 8, false⟩]⟩

/-- Object 0x6078 (13_fabric_scheduling.md R434). -/
def obj_stand : Obj := ⟨0x6078, 4096, 0x06, [
  ⟨0x01, 0x01, .bool, .cmt, (.val 0), (.range 0 1 []), 1, false⟩,
  ⟨0x02, 0x02, .u16, .cmt, (.val 0), (.range 0 767 []), 2, false⟩,
  ⟨0x03, 0x03, .u8, .cmt, (.val 0), (.range 0 7 []), 1, false⟩,
  ⟨0x04, 0x04, .u16, .cmt, (.val 4095), (.range 0 4095 []), 2, false⟩,
  ⟨0x05, 0x05, .u8, .cmt, (.val 0), .any, 1, false⟩,
  ⟨0x06, 0x06, .u16, .cmt, (.val 16), (.range 4 1023 []), 2, false⟩]⟩

/-- Object 0x6088 (13_fabric_scheduling.md R435). -/
def obj_linkq : Obj := ⟨0x6088, 768, 0x05, [
  ⟨0x01, 0x01, .u64, .ro, (.val 0), .any, 8, false⟩,
  ⟨0x02, 0x02, .u64, .ro, (.val 0), .any, 8, false⟩,
  ⟨0x03, 0x03, .u64, .ro, (.val 0), .any, 8, false⟩,
  ⟨0x04, 0x04, .u64, .ro, (.val 0), .any, 8, false⟩,
  ⟨0x05, 0x05, .u16, .ro, (.val 0), .any, 2, false⟩]⟩

/-- Object 0x7000 (14_time.md R463). -/
def obj_invar : Obj := ⟨0x7000, 1, 0x11, [
  ⟨0x01, 0x01, .time, .ro, .dash, .time, 16, false⟩,
  ⟨0x02, 0x02, .u64, .ro, .dash, .any, 8, false⟩,
  ⟨0x03, 0x03, .u64, .ro, (.val 0), .any, 8, false⟩,
  ⟨0x04, 0x04, .time, .ro, .kept, .time, 16, true⟩,
  ⟨0x05, 0x05, .u64, .ro, (.val 225179981368525), .any, 8, true⟩,
  ⟨0x06, 0x06, .enum8, .ro, (.val 0), .any, 1, false⟩,
  ⟨0x07, 0x07, .bits32, .ro, (.val 0), .any, 4, false⟩,
  ⟨0x08, 0x08, .enum8, .rw, (.val 0), (.range 0 1 []), 1, false⟩,
  ⟨0x09, 0x09, .bool, .rw, (.val 0), (.range 0 1 []), 1, false⟩,
  ⟨0x0A, 0x0A, .u32, .rw, (.val 4000), (.range 10 60000 []), 4, false⟩,
  ⟨0x0B, 0x0B, .enum8, .ro, .kept, .any, 1, true⟩,
  ⟨0x0C, 0x0C, .enum8, .ro, .kept, .any, 1, true⟩,
  ⟨0x0D, 0x0D, .enum8, .ro, (.val 255), .any, 1, false⟩,
  ⟨0x0E, 0x0E, .bool, .rw, (.val 1), (.range 0 1 []), 1, false⟩,
  ⟨0x0F, 0x0F, .enum8, .wo, .dash, (.range 1 1 []), 1, false⟩,
  ⟨0x10, 0x10, .u32, .ro, (.val 0), .any, 4, false⟩,
  ⟨0x11, 0x11, .u64, .ro, (.val 0), .any, 8, false⟩]⟩

/-- Object 0x7001 (14_time.md R464). -/
def obj_tchg : Obj := ⟨0x7001, 1, 0x09, [
  ⟨0x01, 0x01, .u64, .rw, (.val 225179981368525), .any, 8, false⟩,
  ⟨0x02, 0x02, .s64, .rw, (.val 0), .any, 8, false⟩,
  ⟨0x03, 0x03, .enum8, .rw, (.val 2), (.range 0 2 []), 1, false⟩,
  ⟨0x04, 0x04, .u64, .rw, (.val 0), .any, 8, false⟩,
  ⟨0x05, 0x05, .time, .rw, (.val 0), .time, 16, false⟩,
  ⟨0x06, 0x06, .enum8, .wo, .dash, (.range 1 2 []), 1, false⟩,
  ⟨0x07, 0x07, .enum8, .ro, (.val 0), .any, 1, false⟩,
  ⟨0x08, 0x08, .u64, .ro, (.val 0), .any, 8, false⟩,
  ⟨0x09, 0x09, .u64, .ro, (.val 0), .any, 8, false⟩]⟩

/-- Object 0x7008 (14_time.md R465). -/
def obj_refm : Obj := ⟨0x7008, 4, 0x09, [
  ⟨0x01, 0x01, .s32, .ro, (.val 0), .any, 4, false⟩,
  ⟨0x02, 0x02, .enum8, .ro, (.val 2), .any, 1, false⟩,
  ⟨0x03, 0x03, .bool, .ro, (.val 1), (.range 0 1 []), 1, false⟩,
  ⟨0x04, 0x07, .s32, .ro, (.val 0), .any, 4, false⟩,
  ⟨0x08, 0x08, .u32, .ro, (.val 0), .any, 4, false⟩,
  ⟨0x09, 0x09, .u32, .ro, (.val 0), .any, 4, false⟩]⟩

/-- Object 0x7010 (14_time.md R466). -/
def obj_sync : Obj := ⟨0x7010, 1, 0x0f, [
  ⟨0x01, 0x04, .u16, .rw, (.val 65535), (.range 0 767 [65535]), 2, false⟩,
  ⟨0x05, 0x05, .u16, .ro, (.val 65535), .any, 2, false⟩,
  ⟨0x06, 0x06, .u16, .rw, (.val 8), (.range 1 1024 []), 2, false⟩,
  ⟨0x07, 0x07, .s32, .ro, (.val 0), .any, 4, false⟩,
  ⟨0x08, 0x08, .enum8, .ro, (.val 0), .any, 1, false⟩,
  ⟨0x09, 0x09, .u32, .rw, (.val 100), (.range 1 10000 []), 4, false⟩,
  ⟨0x0A, 0x0A, .u32, .rw, (.val 1024), (.range 64 1000000 []), 4, false⟩,
  ⟨0x0B, 0x0B, .u32, .rw, (.val 200000), (.range 1000 500000 []), 4, false⟩,
  ⟨0x0C, 0x0C, .s32, .ro, (.val 0), .any, 4, false⟩,
  ⟨0x0D, 0x0D, .u32, .ro, (.val 0), .any, 4, false⟩,
  ⟨0x0E, 0x0E, .u32, .ro, (.val 0), .any, 4, false⟩,
  ⟨0x0F, 0x0F, .u64, .ro, (.val 0), .any, 8, false⟩]⟩

/-- Object 0x7018 (14_time.md R467). -/
def obj_ltime : Obj := ⟨0x7018, 768, 0x05, [
  ⟨0x01, 0x01, .s32, .rw, (.val 0), (.srange (-1000000) (1000000)), 4, false⟩,
  ⟨0x02, 0x02, .s32, .ro, (.val 0), .any, 4, false⟩,
  ⟨0x03, 0x03, .u32, .ro, (.val 0), .any, 4, false⟩,
  ⟨0x04, 0x04, .u64, .ro, (.val 0), .any, 8, false⟩,
  ⟨0x05, 0x05, .u64, .ro, (.val 0), .any, 8, false⟩]⟩

/-- Object 0x7020 (14_time.md R468). -/
def obj_ptime : Obj := ⟨0x7020, 768, 0x0c, [
  ⟨0x01, 0x01, .bool, .rw, (.val 1), (.range 0 1 []), 1, false⟩,
  ⟨0x02, 0x02, .s32, .rw, (.val 0), (.srange (-100000) (100000)), 4, false⟩,
  ⟨0x03, 0x03, .s32, .rw, (.val 0), (.srange (-100000) (100000)), 4, false⟩,
  ⟨0x04, 0x04, .bool, .rw, (.val 1), (.range 0 1 []), 1, false⟩,
  ⟨0x05, 0x05, .u32, .rw, (.val 1000), (.range 1 10000 []), 4, false⟩,
  ⟨0x06, 0x06, .u64, .ro, (.val 0), .any, 8, false⟩,
  ⟨0x07, 0x07, .u64, .ro, (.val 0), .any, 8, false⟩,
  ⟨0x08, 0x08, .u64, .ro, (.val 0), .any, 8, false⟩,
  ⟨0x09, 0x09, .u64, .ro, (.val 0), .any, 8, false⟩,
  ⟨0x0A, 0x0A, .u64, .ro, (.val 0), .any, 8, false⟩,
  ⟨0x0B, 0x0B, .u64, .ro, (.val 0), .any, 8, false⟩,
  ⟨0x0C, 0x0C, .u64, .ro, (.val 0), .any, 8, false⟩]⟩

/-- Object 0x7028 (14_time.md R469). -/
def obj_tsvc : Obj := ⟨0x7028, 1, 0x08, [
  ⟨0x01, 0x01, .bool, .rw, (.val 0), (.range 0 1 []), 1, false⟩,
  ⟨0x02, 0x02, .s32, .rw, (.val 0), (.srange (-500000000) (499999999)), 4, false⟩,
  ⟨0x03, 0x03, .u32, .rw, (.val 100000000), (.range 100 999999900 []), 4, false⟩,
  ⟨0x04, 0x04, .bool, .rw, (.val 0), (.range 0 1 []), 1, false⟩,
  ⟨0x05, 0x05, .time, .ro, (.val 0), .time, 16, false⟩,
  ⟨0x06, 0x06, .u64, .ro, (.val 0), .any, 8, false⟩,
  ⟨0x07, 0x07, .u32, .ro, (.val 0), .any, 4, false⟩,
  ⟨0x08, 0x08, .u8, .rw, (.val 0), .any, 1, false⟩]⟩

/-- Object 0x8000 (18_faults.md R574). -/
def obj_coll : Obj := ⟨0x8000, 1, 0x0c, [
  ⟨0x01, 0x01, .bool, .ro, (.val 0), (.range 0 1 []), 1, false⟩,
  ⟨0x02, 0x02, .enum8, .rw, (.val 3), (.range 3 4 []), 1, false⟩,
  ⟨0x03, 0x03, .enum8, .ro, (.val 5), .any, 1, false⟩,
  ⟨0x04, 0x04, .u16, .rw, (.val 2000), (.range 500 10000 []), 2, false⟩,
  ⟨0x05, 0x05, .u32, .rw, (.val 5000), (.range 100 60000 []), 4, false⟩,
  ⟨0x06, 0x06, .u64, .ro, (.val 0), .any, 8, false⟩,
  ⟨0x07, 0x07, .u32, .ro, .kept, .any, 4, true⟩,
  ⟨0x08, 0x08, .u64, .ro, (.val 0), .any, 8, false⟩,
  ⟨0x09, 0x09, .u8, .wo, .dash, (.range 0 7 []), 1, false⟩,
  ⟨0x0A, 0x0A, .enum8, .ro, (.val 0), .any, 1, false⟩,
  ⟨0x0B, 0x0B, .u16, .ro, (.val 0), .any, 2, false⟩,
  ⟨0x0C, 0x0C, .u32, .ro, (.val 0), .any, 4, false⟩]⟩

/-- Object 0x8008 (18_faults.md R575). -/
def obj_kind : Obj := ⟨0x8008, 64, 0x03, [
  ⟨0x01, 0x01, .enum8, .rw, .byInst, (.range 0 3 []), 1, false⟩,
  ⟨0x02, 0x02, .bool, .rw, .byInst, (.range 0 1 []), 1, false⟩,
  ⟨0x03, 0x03, .u64, .ro, (.val 0), .any, 8, false⟩]⟩

/-- Object 0x8010 (18_faults.md R576). -/
def obj_src : Obj := ⟨0x8010, 128, 0x0e, [
  ⟨0x01, 0x01, .u8, .rw, (.val 8), (.range 1 255 []), 1, false⟩,
  ⟨0x02, 0x02, .u16, .rw, (.val 1024), (.range 1 65535 []), 2, false⟩,
  ⟨0x03, 0x03, .bool, .rw, (.val 1), (.range 0 1 []), 1, false⟩,
  ⟨0x04, 0x04, .u16, .rw, (.val 16), (.range 1 1024 []), 2, false⟩,
  ⟨0x05, 0x05, .enum8, .rw, .byInst, .special, 1, false⟩,
  ⟨0x06, 0x06, .enum8, .ro, (.val 0), .any, 1, false⟩,
  ⟨0x07, 0x07, .u32, .ro, (.val 0), .any, 4, false⟩,
  ⟨0x08, 0x08, .u32, .wo, .dash, .any, 4, false⟩,
  ⟨0x09, 0x09, .u8, .rw, (.val 0), .special, 1, false⟩,
  ⟨0x0A, 0x0A, .u64, .rw, (.val 0), (.mask 0xffffffffff), 8, false⟩,
  ⟨0x0B, 0x0B, .enum8, .wo, .dash, (.range 1 1 []), 1, false⟩,
  ⟨0x0C, 0x0C, .u8, .ro, (.val 0), .any, 1, false⟩,
  ⟨0x0D, 0x0D, .u64, .ro, (.val 0), .any, 8, false⟩,
  ⟨0x0E, 0x0E, .u32, .ro, (.val 0), .any, 4, false⟩]⟩

/-- Object 0x8020 (18_faults.md R577). -/
def obj_log : Obj := ⟨0x8020, 1024, 0x04, [
  ⟨0x01, 0x04, .u64, .ro, (.val 0), .any, 8, false⟩]⟩

/-- Object 0x8030 (18_faults.md R578). -/
def obj_scrub : Obj := ⟨0x8030, 1, 0x05, [
  ⟨0x01, 0x01, .bool, .rw, (.val 1), (.range 0 1 []), 1, false⟩,
  ⟨0x02, 0x02, .u64, .ro, (.val 0), .any, 8, false⟩,
  ⟨0x03, 0x03, .u32, .ro, (.val 0), .any, 4, false⟩,
  ⟨0x04, 0x04, .u64, .ro, (.val 0), .any, 8, false⟩,
  ⟨0x05, 0x05, .u64, .ro, (.val 0), .any, 8, false⟩]⟩

/-- Object 0x8040 (18_faults.md R579). -/
def obj_pewter : Obj := ⟨0x8040, 2, 0x07, [
  ⟨0x01, 0x01, .enum8, .ro, (.val 0), .any, 1, false⟩,
  ⟨0x02, 0x02, .u32, .ro, (.val 0), .any, 4, false⟩,
  ⟨0x03, 0x03, .u64, .ro, (.val 0), .any, 8, false⟩,
  ⟨0x04, 0x04, .u32, .ro, (.val 0), .any, 4, false⟩,
  ⟨0x05, 0x05, .u32, .ro, (.val 0), .any, 4, false⟩,
  ⟨0x06, 0x06, .enum8, .wo, .dash, (.range 1 1 []), 1, false⟩,
  ⟨0x07, 0x07, .enum8, .wo, .dash, (.range 1 1 []), 1, false⟩]⟩

/-- Object 0x8050 (19_power_reset_boot.md R611). -/
def obj_dom : Obj := ⟨0x8050, 29, 0x05, [
  ⟨0x01, 0x01, .enum8, .ro, (.val 0), .any, 1, false⟩,
  ⟨0x02, 0x02, .enum8, .wo, .dash, (.range 1 2 []), 1, false⟩,
  ⟨0x03, 0x03, .enum8, .ro, (.val 0), .any, 1, false⟩,
  ⟨0x04, 0x04, .u64, .ro, (.val 0), .any, 8, false⟩,
  ⟨0x05, 0x05, .u32, .ro, (.val 0), .any, 4, false⟩]⟩

/-- Object 0x8058 (19_power_reset_boot.md R612). -/
def obj_prst : Obj := ⟨0x8058, 1, 0x0f, [
  ⟨0x01, 0x01, .enum8, .ro, (.val 0), .any, 1, false⟩,
  ⟨0x02, 0x02, .enum8, .ro, (.val 0), .any, 1, false⟩,
  ⟨0x03, 0x03, .enum8, .ro, .kept, .any, 1, true⟩,
  ⟨0x04, 0x04, .bool, .ro, (.val 0), (.range 0 1 []), 1, false⟩,
  ⟨0x05, 0x05, .u32, .ro, (.val 0), .any, 4, false⟩,
  ⟨0x06, 0x06, .u32, .ro, (.val 0), .any, 4, false⟩,
  ⟨0x07, 0x07, .enum8, .wo, .dash, (.range 1 1 []), 1, false⟩,
  ⟨0x08, 0x08, .u32, .ro, (.val 0), .any, 4, false⟩,
  ⟨0x09, 0x09, .bool, .ro, (.val 0), (.range 0 1 []), 1, false⟩,
  ⟨0x0A, 0x0A, .bool, .rw, (.val 1), (.range 0 1 []), 1, false⟩,
  ⟨0x0B, 0x0B, .u8, .ro, .kept, .any, 1, false⟩,
  ⟨0x0C, 0x0C, .u8, .ro, .kept, .any, 1, false⟩,
  ⟨0x0D, 0x0D, .u16, .wo, .dash, .special, 2, false⟩,
  ⟨0x0E, 0x0E, .u8, .rw, (.val 255), (.range 0 3 [255]), 1, false⟩,
  ⟨0x0F, 0x0F, .s32, .ro, (.val 0), .any, 4, false⟩]⟩

/-- Object 0x8060 (19_power_reset_boot.md R613). -/
def obj_settings : Obj := ⟨0x8060, 4, 0x03, [
  ⟨0x01, 0x01, .domain, .otp, .kept, .any, 256, false⟩,
  ⟨0x02, 0x02, .enum8, .ro, .kept, .any, 1, false⟩,
  ⟨0x03, 0x03, .enum8, .ro, (.val 0), .any, 1, false⟩]⟩

/-- Object 0x8068 (19_power_reset_boot.md R614). -/
def obj_rail : Obj := ⟨0x8068, 30, 0x05, [
  ⟨0x01, 0x01, .u16, .ro, .dash, .any, 2, false⟩,
  ⟨0x02, 0x02, .bool, .ro, .dash, (.range 0 1 []), 1, false⟩,
  ⟨0x03, 0x03, .u16, .ro, .dash, .any, 2, false⟩,
  ⟨0x04, 0x04, .u16, .ro, .dash, .any, 2, false⟩,
  ⟨0x05, 0x05, .u32, .ro, (.val 0), .any, 4, false⟩]⟩

/-- Object 0x806C (19_power_reset_boot.md R615). -/
def obj_temp : Obj := ⟨0x806C, 17, 0x04, [
  ⟨0x01, 0x01, .s32, .ro, .dash, .any, 4, false⟩,
  ⟨0x02, 0x02, .s32, .rw, .byInst, .special, 4, false⟩,
  ⟨0x03, 0x03, .s32, .ro, .dash, .any, 4, false⟩,
  ⟨0x04, 0x04, .u32, .ro, (.val 0), .any, 4, false⟩]⟩

/-- Object 0x8070 (19_power_reset_boot.md R616). -/
def obj_flash : Obj := ⟨0x8070, 1, 0x05, [
  ⟨0x01, 0x01, .enum8, .wo, .dash, (.range 1 3 []), 1, false⟩,
  ⟨0x02, 0x02, .u32, .rw, (.val 0), .any, 4, false⟩,
  ⟨0x03, 0x03, .domain, .rw, (.val 0), .any, 256, false⟩,
  ⟨0x04, 0x04, .enum8, .ro, (.val 0), .any, 1, false⟩,
  ⟨0x05, 0x05, .u32, .ro, .dash, .any, 4, false⟩]⟩

/-- Object 0x8078 (19_power_reset_boot.md R617). -/
def obj_gasp : Obj := ⟨0x8078, 1, 0x06, [
  ⟨0x01, 0x01, .bool, .ro, .dash, (.range 0 1 []), 1, false⟩,
  ⟨0x02, 0x02, .u16, .ro, .dash, .any, 2, false⟩,
  ⟨0x03, 0x03, .u32, .ro, .kept, .any, 4, true⟩,
  ⟨0x04, 0x04, .u32, .ro, .kept, .any, 4, true⟩,
  ⟨0x05, 0x05, .u32, .ro, .kept, .any, 4, true⟩,
  ⟨0x06, 0x06, .bits32, .ro, .dash, .any, 4, false⟩]⟩

/-- Object 0x8080 (19_power_reset_boot.md R618). -/
def obj_strace : Obj := ⟨0x8080, 4096, 0x04, [
  ⟨0x01, 0x04, .u64, .ro, (.val 0), .any, 8, false⟩]⟩

/-- Object 0x8100 (16_telemetry.md R512). -/
def obj_telem : Obj := ⟨0x8100, 1, 0x0b, [
  ⟨0x01, 0x01, .u16, .rw, (.val 0), .special, 2, false⟩,
  ⟨0x02, 0x02, .u16, .rw, (.val 0), .special, 2, false⟩,
  ⟨0x03, 0x03, .bool, .rw, (.val 0), (.range 0 1 []), 1, false⟩,
  ⟨0x04, 0x04, .u64, .ro, (.val 0), .any, 8, false⟩,
  ⟨0x05, 0x05, .u64, .ro, (.val 0), .any, 8, false⟩,
  ⟨0x06, 0x06, .u64, .ro, (.val 0), .any, 8, false⟩,
  ⟨0x07, 0x07, .u64, .ro, (.val 0), .any, 8, false⟩,
  ⟨0x08, 0x08, .u64, .ro, (.val 0), .any, 8, false⟩,
  ⟨0x09, 0x09, .u64, .ro, (.val 0), .any, 8, false⟩,
  ⟨0x0A, 0x0A, .u64, .ro, (.val 0), .any, 8, false⟩,
  ⟨0x0B, 0x0B, .u64, .ro, (.val 0), .any, 8, false⟩]⟩

/-- Object 0x8108 (16_telemetry.md R513). -/
def obj_gtel : Obj := ⟨0x8108, 8, 0x08, [
  ⟨0x01, 0x01, .bool, .cmt, (.val 0), (.range 0 1 []), 1, false⟩,
  ⟨0x02, 0x02, .domain, .cmt, (.val 0x1ffffffffffffffffffff), .special, 10, false⟩,
  ⟨0x03, 0x03, .bool, .rw, (.val 0), (.range 0 1 []), 1, false⟩,
  ⟨0x04, 0x04, .u8, .rw, (.val 20), (.range 0 31 []), 1, false⟩,
  ⟨0x05, 0x05, .u32, .wo, .dash, .any, 4, false⟩,
  ⟨0x06, 0x06, .u64, .ro, (.val 0), .any, 8, false⟩,
  ⟨0x07, 0x07, .bool, .ro, (.val 0), (.range 0 1 []), 1, false⟩,
  ⟨0x08, 0x08, .u32, .ro, (.val 0), .any, 4, false⟩]⟩

/-- Object 0x8120 (16_telemetry.md R514). -/
def obj_fring : Obj := ⟨0x8120, 16, 0x08, [
  ⟨0x01, 0x01, .bool, .rw, (.val 0), (.range 0 1 []), 1, false⟩,
  ⟨0x02, 0x02, .u64, .rw, (.val 0), (.step 0 18446744073709551615 4096), 8, false⟩,
  ⟨0x03, 0x03, .u32, .rw, (.val 0), (.step 65536 1073741824 4096), 4, false⟩,
  ⟨0x04, 0x04, .enum8, .rw, (.val 0), (.range 0 1 []), 1, false⟩,
  ⟨0x05, 0x05, .u32, .ro, (.val 0), .any, 4, false⟩,
  ⟨0x06, 0x06, .u32, .rw, (.val 0), .any, 4, false⟩,
  ⟨0x07, 0x07, .u64, .ro, (.val 0), .any, 8, false⟩,
  ⟨0x08, 0x08, .u64, .ro, (.val 0), .any, 8, false⟩]⟩

/-- Object 0x8128 (16_telemetry.md R515). -/
def obj_expo : Obj := ⟨0x8128, 4, 0x0c, [
  ⟨0x01, 0x01, .bool, .rw, (.val 0), (.range 0 1 []), 1, false⟩,
  ⟨0x02, 0x02, .u16, .rw, (.val 0), (.range 0 767 []), 2, false⟩,
  ⟨0x03, 0x03, .u8, .rw, (.val 0), (.range 0 7 []), 1, false⟩,
  ⟨0x04, 0x04, .domain, .rw, (.val 0), .any, 128, false⟩,
  ⟨0x05, 0x05, .enum8, .rw, (.val 0), (.range 0 1 []), 1, false⟩,
  ⟨0x06, 0x06, .u8, .rw, (.val 16), .any, 1, false⟩,
  ⟨0x07, 0x07, .u8, .rw, (.val 34), .any, 1, false⟩,
  ⟨0x08, 0x08, .u16, .rw, (.val 1500), (.range 576 9000 []), 2, false⟩,
  ⟨0x09, 0x09, .u32, .rw, (.val 100), (.range 1 100000 []), 4, false⟩,
  ⟨0x0A, 0x0A, .u64, .ro, (.val 0), .any, 8, false⟩,
  ⟨0x0B, 0x0B, .u64, .ro, (.val 0), .any, 8, false⟩,
  ⟨0x0C, 0x0C, .u64, .ro, (.val 0), .any, 8, false⟩]⟩

/-- Object 0x8130 (16_telemetry.md R516). -/
def obj_mirr : Obj := ⟨0x8130, 64, 0x0c, [
  ⟨0x01, 0x01, .bool, .rw, (.val 0), (.range 0 1 []), 1, false⟩,
  ⟨0x02, 0x02, .u16, .rw, (.val 0), .special, 2, false⟩,
  ⟨0x03, 0x03, .u16, .rw, (.val 128), (.step 64 256 32), 2, false⟩,
  ⟨0x04, 0x04, .u8, .rw, (.val 0), (.range 0 31 []), 1, false⟩,
  ⟨0x05, 0x05, .u32, .rw, (.val 0), .any, 4, false⟩,
  ⟨0x06, 0x06, .u16, .rw, (.val 1024), (.range 1 65535 []), 2, false⟩,
  ⟨0x07, 0x07, .u64, .ro, (.val 0), .any, 8, false⟩,
  ⟨0x08, 0x08, .u64, .ro, (.val 0), .any, 8, false⟩,
  ⟨0x09, 0x09, .u64, .ro, (.val 0), .any, 8, false⟩,
  ⟨0x0A, 0x0A, .u64, .ro, (.val 0), .any, 8, false⟩,
  ⟨0x0B, 0x0B, .u64, .ro, (.val 0), .any, 8, false⟩,
  ⟨0x0C, 0x0C, .u64, .ro, (.val 0), .any, 8, false⟩]⟩

/-- Object 0x8140 (16_telemetry.md R517). -/
def obj_dump : Obj := ⟨0x8140, 16, 0x10, [
  ⟨0x01, 0x01, .bool, .rw, (.val 0), (.range 0 1 []), 1, false⟩,
  ⟨0x02, 0x02, .enum8, .rw, (.val 0), (.range 0 1 []), 1, false⟩,
  ⟨0x03, 0x03, .u32, .rw, (.val 0), .any, 4, false⟩,
  ⟨0x04, 0x04, .u32, .rw, (.val 0), (.range 1 16777216 []), 4, false⟩,
  ⟨0x05, 0x05, .u16, .rw, (.val 0), .any, 2, false⟩,
  ⟨0x06, 0x06, .u16, .rw, (.val 0), .any, 2, false⟩,
  ⟨0x07, 0x07, .u32, .rw, (.val 0), (.range 1 65536 []), 4, false⟩,
  ⟨0x08, 0x08, .u8, .rw, (.val 1), .any, 1, false⟩,
  ⟨0x09, 0x09, .u8, .rw, (.val 1), .any, 1, false⟩,
  ⟨0x0A, 0x0A, .u16, .rw, (.val 1), (.range 1 1024 []), 2, false⟩,
  ⟨0x0B, 0x0B, .u16, .rw, (.val 0), .any, 2, false⟩,
  ⟨0x0C, 0x0C, .u64, .rw, (.val 0), (.step 0 18446744073709551615 4096), 8, false⟩,
  ⟨0x0D, 0x0D, .u64, .rw, (.val 0), (.step 0 18446744073709551615 4096), 8, false⟩,
  ⟨0x0E, 0x0E, .u32, .rw, (.val 0), .any, 4, false⟩,
  ⟨0x0F, 0x0F, .enum8, .wo, .dash, (.range 1 1 []), 1, false⟩,
  ⟨0x10, 0x10, .u32, .ro, (.val 0), .any, 4, false⟩]⟩

/-- Object 0x8150 (16_telemetry.md R518). -/
def obj_pair : Obj := ⟨0x8150, 8, 0x04, [
  ⟨0x01, 0x01, .u32, .rw, (.val 0), (.range 0 16777215 []), 4, false⟩,
  ⟨0x02, 0x02, .u64, .ro, (.val 0), .any, 8, false⟩,
  ⟨0x03, 0x03, .u64, .ro, (.val 0), .any, 8, false⟩,
  ⟨0x04, 0x04, .bool, .ro, (.val 0), (.range 0 1 []), 1, false⟩]⟩

/-- Object 0x9000 (17_host_endpoint.md R549). -/
def obj_ep : Obj := ⟨0x9000, 1, 0x09, [
  ⟨0x01, 0x01, .enum8, .ro, (.val 0), .any, 1, false⟩,
  ⟨0x02, 0x02, .enum8, .ro, (.val 0), .any, 1, false⟩,
  ⟨0x03, 0x03, .u8, .ro, (.val 0), .any, 1, false⟩,
  ⟨0x04, 0x04, .enum8, .rw, (.val 6), (.range 4 6 []), 1, false⟩,
  ⟨0x05, 0x05, .u32, .ro, (.val 0), .any, 4, false⟩,
  ⟨0x06, 0x06, .u16, .ro, (.val 0), .any, 2, false⟩,
  ⟨0x07, 0x07, .u16, .rw, (.val 0), (.range 0 0 []), 2, false⟩,
  ⟨0x08, 0x08, .u32, .ro, (.val 0), .any, 4, false⟩,
  ⟨0x09, 0x09, .u64, .ro, (.val 0), .any, 8, false⟩]⟩

/-- Object 0x9010 (17_host_endpoint.md R550). -/
def obj_ring : Obj := ⟨0x9010, 256, 0x11, [
  ⟨0x01, 0x01, .enum8, .wo, .dash, (.range 0 2 []), 1, false⟩,
  ⟨0x02, 0x02, .enum8, .rw, (.val 1), (.range 0 1 []), 1, false⟩,
  ⟨0x03, 0x03, .u8, .rw, (.val 0), (.range 0 1 []), 1, false⟩,
  ⟨0x04, 0x04, .u64, .rw, (.val 0), (.step 0 18446744073709551615 4096), 8, false⟩,
  ⟨0x05, 0x05, .u32, .rw, (.val 1024), (.pow2 64 65536), 4, false⟩,
  ⟨0x06, 0x06, .u16, .rw, (.val 0), .special, 2, false⟩,
  ⟨0x07, 0x07, .u16, .rw, (.val 8), (.range 0 1000 []), 2, false⟩,
  ⟨0x08, 0x08, .enum8, .rw, (.val 0), (.range 0 1 []), 1, false⟩,
  ⟨0x09, 0x09, .u8, .rw, (.val 0), (.range 0 31 []), 1, false⟩,
  ⟨0x0A, 0x0A, .u16, .rw, (.val 0), (.range 0 767 []), 2, false⟩,
  ⟨0x0B, 0x0B, .enum8, .ro, (.val 0), .any, 1, false⟩,
  ⟨0x0C, 0x0C, .enum8, .ro, (.val 0), .any, 1, false⟩,
  ⟨0x0D, 0x0D, .u16, .rw, (.val 2048), (.step 1024 16384 1024), 2, false⟩,
  ⟨0x0E, 0x0E, .u16, .rw, (.val 20), (.range 1 10000 []), 2, false⟩,
  ⟨0x0F, 0x0F, .u16, .rw, (.val 16), (.range 1 1024 []), 2, false⟩,
  ⟨0x10, 0x10, .u64, .ro, (.val 0), .any, 8, false⟩,
  ⟨0x11, 0x11, .u64, .ro, (.val 0), .any, 8, false⟩]⟩

/-- Object 0x9020 (17_host_endpoint.md R551). -/
def obj_ering : Obj := ⟨0x9020, 64, 0x07, [
  ⟨0x01, 0x01, .enum8, .wo, .dash, (.range 0 2 []), 1, false⟩,
  ⟨0x02, 0x02, .u8, .rw, (.val 0), (.range 0 1 []), 1, false⟩,
  ⟨0x03, 0x03, .u64, .rw, (.val 0), (.step 0 18446744073709551615 4096), 8, false⟩,
  ⟨0x04, 0x04, .u32, .rw, (.val 256), (.pow2 64 65536), 4, false⟩,
  ⟨0x05, 0x05, .u16, .rw, (.val 0), .special, 2, false⟩,
  ⟨0x06, 0x06, .enum8, .ro, (.val 0), .any, 1, false⟩,
  ⟨0x07, 0x07, .u64, .ro, (.val 0), .any, 8, false⟩]⟩

/-- Object 0x9040 (17_host_endpoint.md R552). -/
def obj_win : Obj := ⟨0x9040, 256, 0x07, [
  ⟨0x01, 0x01, .bool, .rw, (.val 0), (.range 0 1 []), 1, false⟩,
  ⟨0x02, 0x02, .u8, .rw, (.val 0), (.range 0 1 []), 1, false⟩,
  ⟨0x03, 0x03, .enum8, .rw, (.val 0), (.range 0 1 []), 1, false⟩,
  ⟨0x04, 0x04, .u8, .rw, (.val 0), .any, 1, false⟩,
  ⟨0x05, 0x05, .u64, .rw, (.val 0), (.step 0 1099511627775 4096), 8, false⟩,
  ⟨0x06, 0x06, .u32, .rw, (.val 268435456), (.step 4096 268435456 4096), 4, false⟩,
  ⟨0x07, 0x07, .bool, .rw, (.val 0), (.range 0 1 []), 1, false⟩]⟩

/-- Object 0xA000 (05_tables_and_lookups.md R206). -/
def obj_tenant : Obj := ⟨0xA000, 4096, 0x03, [
  ⟨0x01, 0x01, .enum8, .ro, (.val 1), .any, 1, false⟩,
  ⟨0x02, 0x02, .enum8, .wo, .dash, (.range 1 3 []), 1, false⟩,
  ⟨0x03, 0x03, .u64, .ro, (.val 0), .any, 8, false⟩]⟩

/-- Object 0xA010 (05_tables_and_lookups.md R206). -/
def obj_tquota : Obj := ⟨0xA010, 4096, 0x09, [
  ⟨0x01, 0x01, .u32, .stp, (.val 0), .any, 4, false⟩,
  ⟨0x02, 0x02, .u32, .ro, (.val 0), .any, 4, false⟩,
  ⟨0x03, 0x03, .u32, .stp, (.val 0), .any, 4, false⟩,
  ⟨0x04, 0x04, .u32, .ro, (.val 0), .any, 4, false⟩,
  ⟨0x05, 0x05, .u32, .stp, (.val 0), .any, 4, false⟩,
  ⟨0x06, 0x06, .u32, .ro, (.val 0), .any, 4, false⟩,
  ⟨0x07, 0x07, .u32, .stp, (.val 0), .any, 4, false⟩,
  ⟨0x08, 0x08, .u32, .ro, (.val 0), .any, 4, false⟩,
  ⟨0x09, 0x09, .u64, .ro, (.val 0), .any, 8, false⟩]⟩

/-- Object 0xA020 (07_central_store.md R277). -/
def obj_tstore : Obj := ⟨0xA020, 4096, 0x06, [
  ⟨0x01, 0x01, .u32, .cmt, (.val 0), .any, 4, false⟩,
  ⟨0x02, 0x02, .s32, .cmt, (.val 3), (.srange (-7) (3)), 4, false⟩,
  ⟨0x03, 0x03, .s32, .cmt, (.val 3), (.srange (-7) (3)), 4, false⟩,
  ⟨0x04, 0x04, .u32, .ro, (.val 0), .any, 4, false⟩,
  ⟨0x05, 0x05, .u32, .ro, (.val 0), .any, 4, false⟩,
  ⟨0x06, 0x06, .u64, .ro, (.val 0), .any, 8, false⟩]⟩

/-- Object 0xA030 (09_traffic_management.md R320). -/
def obj_tlimit : Obj := ⟨0xA030, 4096, 0x06, [
  ⟨0x01, 0x01, .bool, .stp, (.val 0), (.range 0 1 []), 1, false⟩,
  ⟨0x02, 0x02, .u32, .stp, (.val 0), .any, 4, false⟩,
  ⟨0x03, 0x03, .u32, .stp, (.val 0), .any, 4, false⟩,
  ⟨0x04, 0x04, .u32, .stp, (.val 0), .any, 4, false⟩,
  ⟨0x05, 0x05, .u32, .stp, (.val 0), .any, 4, false⟩,
  ⟨0x06, 0x06, .u64, .ro, (.val 0), .any, 8, false⟩]⟩

/-- Object 0xA040 (16_telemetry.md R519). -/
def obj_ttel : Obj := ⟨0xA040, 4096, 0x05, [
  ⟨0x01, 0x01, .u16, .rw, (.val 0), .special, 2, false⟩,
  ⟨0x02, 0x02, .bool, .rw, (.val 0), (.range 0 1 []), 1, false⟩,
  ⟨0x03, 0x03, .bool, .rw, (.val 0), (.range 0 1 []), 1, false⟩,
  ⟨0x04, 0x04, .u64, .ro, (.val 0), .any, 8, false⟩,
  ⟨0x05, 0x05, .u64, .ro, (.val 0), .any, 8, false⟩]⟩

/-- Objects, part 1. -/
def objects1 : List Obj := [obj_ident, obj_svc, obj_commit, obj_gen, obj_princ, obj_chip, obj_lane, obj_ltest, obj_fec, obj_board, obj_d2d, obj_port, obj_pcnt, obj_i2c, obj_grp, obj_ipipe, obj_epipe, obj_gcnt, obj_dropI, obj_dropE, obj_img, obj_trap, obj_trapc, obj_tbl, obj_rte, obj_ceng, obj_tmnt, obj_region, obj_lgrp, obj_lring, obj_chan, obj_store, obj_qprof, obj_ptc]

/-- Objects, part 2. -/
def objects2 : List Obj := [obj_qprobe, obj_dropc, obj_markc, obj_retire, obj_mgrp, obj_rlist, obj_slots, obj_thr, obj_bcls, obj_lprof, obj_meng, obj_psch, obj_tcsch, obj_shapA, obj_shapB, obj_wheel, obj_fab, obj_idn, obj_rt, obj_link, obj_lcnt, obj_fsch, obj_pgr, obj_feq, obj_srcw, obj_reach, obj_stand, obj_linkq, obj_invar, obj_tchg, obj_refm, obj_sync, obj_ltime, obj_ptime]

/-- Objects, part 3. -/
def objects3 : List Obj := [obj_tsvc, obj_coll, obj_kind, obj_src, obj_log, obj_scrub, obj_pewter, obj_dom, obj_prst, obj_settings, obj_rail, obj_temp, obj_flash, obj_gasp, obj_strace, obj_telem, obj_gtel, obj_fring, obj_expo, obj_mirr, obj_dump, obj_pair, obj_ep, obj_ring, obj_ering, obj_win, obj_tenant, obj_tquota, obj_tstore, obj_tlimit, obj_ttel]

/-- Every object of the dictionary. -/
def objects : List Obj := objects1 ++ objects2 ++ objects3

end Sys2Proof.Machine
end

