-- ==== Sys2Proof/Machine/Defaults.lean ====
section
/-! DEFINITION. The default of every sub-index: the constants of the object tables, and the defaults that depend on the
instance ("per table", "as R283", "per R555" and so on). -/

namespace Sys2Proof.Machine

/-- The number of a sub-index of an instance, laid out as CONFLICT_REF (R39): [39:24] index, [23:8] instance, [7:0] sub. -/
def keyOf (index inst sub : Nat) : Nat := index * 0x1000000 + inst * 0x100 + sub

/-- The number of register `r` of instance `n`. -/
def key (r : Reg) (n : Nat) : Nat := keyOf r.index n r.sub

/-- Index, instance and sub-index of a key. -/
def keyIndex (k : Nat) : Nat := k / 0x1000000
def keyInst (k : Nat) : Nat := k / 0x100 % 0x10000
def keySub (k : Nat) : Nat := k % 0x100

/-- A key is of a register, of whatever instance. -/
def Reg.has (r : Reg) (k : Nat) : Bool := keyIndex k == r.index && keySub k == r.sub

/-- The object of an index, if the device has it. -/
def findObj (index : Nat) : Option Obj := objects.find? (fun o => o.index == index)

/-- The row of a sub-index within an object's rows. -/
def findRow (rows : List Row) (sub : Nat) : Option Row := rows.find? (fun r => r.lo ≤ sub && sub ≤ r.hi)

/-- KIND of a table (R166, R202). -/
def tableKind (t : Nat) : Nat :=
  if t ≤ 1 ∨ t = 4 ∨ t = 5 then 0 else if t = 2 ∨ t = 9 ∨ (10 ≤ t ∧ t ≤ 17) then 1 else if t = 3 then 2
  else if t = 6 then 4 else if t = 7 then 5 else if t = 8 then 6 else 3

/-- TIERS of a table (R166, R202): 0 NEAR, 1 TWO_TIER, 2 FAR, 3 TCAM, 4 ACCUMULATED. -/
def tableTiers (t : Nat) : Nat :=
  if t = 2 ∨ t = 3 then 1 else if t = 8 then 4 else if t = 9 then 2 else if 18 ≤ t then 3 else 0

/-- A table whose entries carry a generation mask (R166). -/
def tableVersioned (t : Nat) : Bool := t == 2 || t == 3 || (18 ≤ t && t ≤ 25)

/-- CAPACITY of a table (R166). -/
def tableCapacity (t : Nat) : Nat :=
  match t with
  | 0 => 768 | 1 => 4096 | 2 => 33554432 | 3 => 8388608 | 4 => 1048576 | 5 => 131072 | 6 => 2097152 | 7 => 524288
  | 8 => 16777216 | 9 => 8388608 | _ => if t ≤ 17 then 131072 else 32768

/-- Region defaults: owning table, stack, base and size in MiB (R170). -/
def regionDefault (i sub : Nat) : Nat :=
  let (t, base, size) :=
    if i < 8 then (2, 0, 128) else if i < 16 then (3, 128, 128) else if i < 24 then (8, 256, 32)
    else if i < 32 then (9, 288, 256) else (0xFF, 0, 0)
  match sub with
  | 1 => t | 2 => if i < 32 then i % 8 else 0 | 3 => base | 4 => size | _ => 0

/-- Words of the Babbitt slot table after reset (R283). -/
def slotWordDefault (w : Nat) : Nat :=
  if w % 4 = 0 then 0x5621421321321321 else if w % 4 = 2 then 0x0621421321321321 else 0x7621421321321321

/-- TARGET of a fixed shaper (R304, R318): VALID, KIND and index. -/
def shaperTarget (n : Nat) : Nat :=
  if n < 768 then 0x90000000 + n else if n < 6912 then 0xA0000000 + (n - 768)
  else if n < 7168 then 0xB0000000 + (n - 6912) else 0

/-- Default class of each fault kind (R555). -/
def kindClass (k : Nat) : Nat :=
  if k = 0x01 ∨ k = 0x22 then 3
  else if k = 0x05 ∨ k = 0x0B ∨ k = 0x0C ∨ k = 0x12 ∨ k = 0x14 ∨ k = 0x17 ∨ k = 0x18 ∨ k = 0x1F ∨ k = 0x20 ∨ k = 0x21
    ∨ k = 0x23 then 2
  else if k = 0x02 ∨ k = 0x03 ∨ k = 0x04 ∨ k = 0x06 ∨ k = 0x0D ∨ k = 0x16 then 0
  else if 1 ≤ k ∧ k ≤ 0x24 then 1 else 0

/-- A kind that R555 lists. -/
def kindListed (k : Nat) : Bool := 1 ≤ k && k ≤ 0x24

/-- A source that R554 lists. -/
def sourceListed (n : Nat) : Bool :=
  n ≤ 4 || (0x10 ≤ n && n ≤ 0x14) || (0x20 ≤ n && n ≤ 0x27) || (0x30 ≤ n && n ≤ 0x37) || (0x40 ≤ n && n ≤ 0x47)
    || (0x50 ≤ n && n ≤ 0x53)

/-- Default ESCALATION of a source (R566). -/
def escalationDefault (n : Nat) : Nat :=
  if 0x20 ≤ n ∧ n ≤ 0x27 then 1 else if 0x30 ≤ n ∧ n ≤ 0x37 then 1 else if 0x40 ≤ n ∧ n ≤ 0x47 then 2
  else if n = 0x12 then 3 else 0

/-- SWEEP_EPOCHS before any write of SCAN_BUCKETS (R230). -/
def sweepDefault (t : Nat) : Nat := if t = 2 then 4096 else if t = 9 then 1024 else 0

/-- Defaults that depend on the instance. -/
def instDefault (index inst sub : Nat) : Nat :=
  if index = 0x1020 then
    match sub with
    | 1 => if inst ≤ 2 then 1 else 0
    | 2 => if inst = 0 then 0x00000FFFFFFFFFF0 else if inst = 1 then 0x0000011111111110
           else if inst = 2 then 0x0000000700000310 else 0
    | 3 => if inst ≤ 3 then inst else 3
    | _ => 0
  else if index = 0x4000 then
    match sub with
    | 0x04 => tableKind inst | 0x05 => tableTiers inst | 0x06 => if tableVersioned inst then 1 else 0
    | 0x07 => tableCapacity inst | 0x0C => if inst = 3 then 6 else 1
    | 0x0D => if inst = 10 then 131072 else 0 | _ => 0
  else if index = 0x4004 then
    -- ageing sub-indices read zero for every table but HOST and FLOWTEL (R235)
    if sub = 0x08 then sweepDefault inst else 0
  else if index = 0x4008 then regionDefault inst sub
  else if index = 0x5010 then inst % 8
  else if index = 0x5080 then slotWordDefault (sub - 0x10)
  else if index = 0x5130 then shaperTarget inst
  else if index = 0x8008 then
    if kindListed inst then (if sub = 1 then kindClass inst else if inst = 0x0D ∨ inst = 0x16 then 0 else 1) else 0
  else if index = 0x8010 then escalationDefault inst
  else if index = 0x806C then if inst ≤ 8 then 100000 else 90000
  else 0

/-- The default of a key (R8): the listed value, or zero where the table lists a dash or a kept value. -/
def dictDefault (k : Nat) : Nat :=
  match findObj (keyIndex k) with
  | none => 0
  | some o =>
    if keySub k = 0 then o.highest
    else match findRow o.rows (keySub k) with
      | none => 0
      | some r =>
        -- sources that R554 does not list, and the ageing sub-indices of other tables, read zero (R576, R235)
        if o.index = 0x8010 ∧ ¬ sourceListed (keyInst k) then 0
        else if o.index = 0x4004 ∧ 3 ≤ keySub k ∧ keySub k ≤ 6 ∧ keyInst k ≠ 2 ∧ keyInst k ≠ 9 then 0
        else match r.dflt with
          | .val n => n
          | .byInst => instDefault o.index (keyInst k) (keySub k)
          | .kept => 0
          | .dash => 0

end Sys2Proof.Machine
end

