-- ==== Sys2Proof/Machine/Operands.lean ====
section
/-! DEFINITION. Operand forms: how the words, keys, offsets and numbers that commands carry are read, and which of them are well formed. -/

namespace Sys2Proof.Machine

/-! ## Rows, lengths and fast blocks (R28, R30, R65, R524) -/

/-- The row of a key's sub-index; sub-index 0x00 is a U8, RO value on every object (R28). -/
def rowOf (k : Nat) : Option Row :=
  match findObj (keyIndex k) with
  | none => none
  | some o => if keySub k = 0 then some ⟨0, 0, .u8, .ro, .val o.highest, .any, 1, false⟩ else findRow o.rows (keySub k)

/-- The length a sub-index's type gives (R30). -/
def typeLen (k : Nat) : Nat := match rowOf k with
  | none => 0
  | some r => r.len

/-- The fast block of an object's instance; objects that R524 does not name are not mapped. -/
def fastBlock (k : Nat) : Option Nat :=
  let i := keyIndex k
  let n := keyInst k
  if i = 0x1000 then some 0 else if i = 0x7000 then some 1 else if i = 0x8000 then some 2
  else if i = 0x4100 then some (16 + n) else if i = 0x8010 then some (32 + n) else if i = 0x8020 then some (160 + n) else none

/-- The object instance that a fast block maps, as the key of its sub-index 0. -/
def blockKeyOf (f : Nat) : Option Nat :=
  if f = 0 then some (keyOf 0x1000 0 0) else if f = 1 then some (keyOf 0x7000 0 0) else if f = 2 then some (keyOf 0x8000 0 0)
  else if 16 ≤ f ∧ f < 24 then some (keyOf 0x4100 (f - 16) 0) else if 32 ≤ f ∧ f < 160 then some (keyOf 0x8010 (f - 32) 0)
  else if 160 ≤ f ∧ f < 1184 then some (keyOf 0x8020 (f - 160) 0) else none

/-- The sub-index that a BAR0 offset maps, as a key (R65). -/
def fastKey (offset : Nat) : Option Nat :=
  if offset < 0x100000 ∨ 0x900000 ≤ offset then none
  else match blockKeyOf ((offset - 0x100000) / 0x1000) with
    | none => none
    | some base =>
      let k := base + offset % 0x1000 / 16
      match rowOf k with
      | some r => if r.ty = .domain && decide (16 < r.len) then none else some k
      | none => none

/-- An offset maps the upper word of a TIME sub-index. -/
def timeUpper (offset : Nat) : Bool :=
  offset % 16 == 8 && (match fastKey offset with
    | some k => (match rowOf k with
      | some r => r.ty == .time
      | none => false)
    | none => false)

/-! ## Mailbox words (R60, R62) -/

/-- Fields of a request's words 0 and 1 (R62). -/
def mbOp (w0 : Nat) : Nat := bits w0 63 56
def mbCount (w0 : Nat) : Nat := bits w0 55 48
def mbRemote (w0 : Nat) : Bool := bit w0 31
def mbTarget (w0 : Nat) : Nat := bits w0 27 16

/-- The operands of a mailbox row. -/
def mbOperandsOk (pf tag : Nat) (words : List Nat) : Bool := pf < 2 && tag < 65536 && words.length ≤ 512 && words.all (fun w => decide (w < 2 ^ 64))

/-! ## Functions (R49) -/

/-- Object index of a kind of stoppable function. -/
def fnIndex (f : Fn) : Nat :=
  match f with
  | .port => 0x2040
  | .link => 0x6040
  | .group => 0x3000
  | .chiplet => 0x2000
  | .tenant => 0xA000
  | .table => 0x4000
  | .carve => 0x5000

/-- How many functions of a kind the device has. -/
def fnCount (f : Fn) : Nat :=
  match f with
  | .port => 768
  | .link => 768
  | .group => 8
  | .chiplet => 8
  | .tenant => 4096
  | .table => 26
  | .carve => 1

/-! ## Transmit descriptors (R533, R534) -/

/-- Fields of a transmit descriptor. -/
def txLength (d : List Nat) : Nat := bits (d.getD 1 0) 63 50
def txEop (d : List Nat) : Bool := bit (d.getD 1 0) 48
def txSop (d : List Nat) : Bool := bit (d.getD 1 0) 49

/-- A descriptor keeps the rules that it can break alone: its length, and its reserved bits. -/
def txDescOk (d : List Nat) : Bool :=
  1 ≤ txLength d && txLength d ≤ 16379 && bits (d.getD 1 0) 33 0 == 0 && bits (d.getD 2 0) 15 0 == 0 && bits (d.getD 3 0) 61 0 == 0

/-- Octets that a packet's descriptors name. -/
def txTotal (descs : List (List Nat)) : Nat := descs.foldl (fun a d => a + txLength d) 0

/-- The descriptors of the first packet: those up to the first with EOP (R534). -/
def packetDescs (descs : List (List Nat)) : List (List Nat) := descs.take (descs.findIdx txEop + 1)

/-- What the descriptors from RING_HEAD on are: 0 a packet, 1 a breach of the rules, 2 the start of a packet. -/
def txCheck (descs : List (List Nat)) : Nat :=
  let sops := descs.zipIdx.all (fun x => txSop x.1 == (x.2 == 0))
  let eops := descs.zipIdx.all (fun x => txEop x.1 == (x.2 + 1 == descs.length))
  let cut := descs.all (fun d => !txEop d) && decide (descs.length < 16)
  if !descs.all txDescOk || !sops || decide (16379 < txTotal descs) then 1
  else if cut then 2
  else if !eops || decide (txTotal descs < 14) then 1
  else 0

/-! ## Queue names (R253) -/

/-- Kind and index of a queue's key, laid out as 0x5018.01 (R273). -/
def qKind (q : Nat) : Nat := q / 0x40000000
def qIndex (q : Nat) : Nat := q % 0x40000000

/-- A queue key names a queue the device has (R242). -/
def queueExists (q : Nat) : Bool :=
  (qKind q == 0 && decide (qIndex q < 1048576)) || (qKind q == 1 && decide (qIndex q < 6144))
    || (qKind q == 2 && decide (qIndex q < 256))

/-! ## Callers (R55, R217, R530, R547) -/

/-- Principal and route are numbers the device has; principal 64 stands for no principal. -/
def Accessor.ok (a : Accessor) : Bool := a.principal ≤ 64 && a.route ≤ 4

/-- OPCODE of a command word (R215). -/
def cmdOp (c : Nat) : Nat := bits c 63 56

/-- The operands of a table command's row. -/
def cmdOperandsOk (who : Accessor) (c cmd op : Nat) : Bool := who.ok && c < 65536 && cmd < 2 ^ 64 && cmdOp cmd == op

/-- A link that has trained runs at a rate and a width that the base specification defines (R520). -/
def LinkConfig.ok (c : LinkConfig) : Bool := decide (1 ≤ c.speed ∧ c.speed ≤ 6) && [1, 2, 4, 8, 16].contains c.width

/-- Vectors of a function's MSI-X table (R521). -/
def msixVectors (fn : Nat) : Nat := if fn = 0 then 1984 else 64

/-- What can stand in a function's configuration space. -/
def FnConf.ok (fn : Nat) (c : FnConf) : Bool :=
  [128, 256, 512, 1024, 2048, 4096].contains c.readSize && decide (50 ≤ c.cplTimeout ∧ c.cplTimeout ≤ 64000000) && c.bars.length == 3
    && c.vectors.all (fun e => decide (e.1 < msixVectors fn))

/-- What the endpoint's link or its host can do. -/
def LinkEvent.ok : LinkEvent → Bool
  | .trained c => c.ok
  | .configured c0 c1 => c0.ok 0 && c1.ok 1

end Sys2Proof.Machine
end

