-- ==== Sys2Proof/Machine/State.lean ====
section
/-! DEFINITION. The state of the Z1536 as plain data: everything the specification gives the machine, the queue of waiting
commands, the reasons a step stops, and the state right after reset.

The object dictionary is the one home of every setting, status and counter that the manual's object tables name
(00_scope.md R5 to R9). Each other field holds state the manual names outside the tables, grouped by chapter. -/

namespace Sys2Proof.Machine

/-! ## The dictionary service (02_object_dictionary.md) -/


/-- One RW, WO or W1C write applied in the present slot, waiting for the slot boundary (R7, R19). -/
structure SlotWrite where
  who : Nat
  key : Nat
  val : Nat
  /-- parameters a trigger took when it was accepted (R643) -/
  aux : List Nat
deriving DecidableEq, Repr

/-- An armed commit (R42): its scope mask, and its commit-at time in units of 2 to the minus 16 ns, none for COMMIT_NOW. -/
structure Armed where
  scope : Nat
  at? : Option Nat
deriving DecidableEq, Repr

/-- The BAR0 mailbox of one function (R60, R61). -/
structure Mailbox where
  busy : Bool
  done : Bool
  rejected : Bool
  tag : Nat
  request : List Word64
  /-- the request that the last accepted doorbell submitted (R61) -/
  taken : List Word64
  response : List Word64
deriving DecidableEq, Repr

/-- An empty mailbox: MB_STATUS reads 0. -/
def Mailbox.idle : Mailbox := ⟨false, false, false, 0, [], [], []⟩

/-- State of the dictionary service beside the values in effect. -/
structure Access where
  /-- RW, WO and W1C writes applied in the present slot, oldest first -/
  slotWrites : List SlotWrite
  /-- STP values written and not yet in effect (R52) -/
  stp : Dict
  /-- staged CMT values that were written and not yet committed or discarded -/
  staged : Dict
  /-- the dictionary as the last slot boundary latched it (R506) -/
  shadow : Dict
  /-- the factory, OTP and preserved values as the last reset left them (R31) -/
  kept : Dict
  armed : Option Armed
  mb0 : Mailbox
  mb1 : Mailbox
  /-- the TIME latch of PF0 and PF1: sub-index key and lower word (R66) -/
  latch0 : Option (Nat × Nat)
  latch1 : Option (Nat × Nat)
  /-- the sub-index selected over SMBus, as a key, and the status held for the next READ_VALUE (R73) -/
  smbSel : Option Nat
  smbHeld : Option Nat
  /-- the status and value the last access answered (the model's own record of the response) -/
  lastStatus : Nat
  lastValue : Nat
deriving DecidableEq, Repr

/-- The owner of an outstanding remote operation: a mailbox or a link's proxy (R64, R402). -/
inductive RemoteOwner where
  | mailbox (pf : Nat) (tag : Nat) (word0 : Nat)
  | proxy (link : Nat)
deriving DecidableEq, Repr

/-- A remote operation that waits for its response (R71). -/
structure RemoteOp where
  target : Nat
  txn : Nat
  payload : Octets
  retriesLeft : Nat
  wait : Nat
  deadline : Nat
  owner : RemoteOwner
deriving DecidableEq, Repr

/-- A request at the responder: its source device, its payload and the link it must leave by (none: by route). -/
structure RemoteReq where
  source : Nat
  payload : Octets
  link : Option Nat
deriving DecidableEq, Repr

/-- A response the responder keeps (R70). -/
structure KeptResp where
  source : Nat
  txn : Nat
  payload : Octets
  sent : Nat
deriving DecidableEq, Repr

/-- The initiating and responding ends of remote operations (R68 to R71, R402). -/
structure Remote where
  ops : List RemoteOp
  nextTxn : Dict
  queue : List RemoteReq
  kept : List KeptResp
  arrived : List (Nat × Octets)
deriving DecidableEq, Repr

/-- Stoppable functions beside their STATE (R50 to R54): keys are function keys (Ops: fnKey). -/
structure Funcs where
  /-- tick at which the function entered STOPPING -/
  stopTick : Dict
  /-- principal that requested the start in progress -/
  starter : Dict
  /-- functions whose POWER_OFF is powering them down or erasing them -/
  powering : List Nat
  /-- functions that enter FAULTED, not STOPPED, when their STOPPING ends (R566) -/
  faultAfter : List Nat
  /-- links that boot starts when their chiplet runs (R596) -/
  autoStart : List Nat
deriving DecidableEq, Repr

/-! ## Time (14_time.md, 01_architecture.md R18) -/

/-- A time change that is armed (R439): rate, step in ns, and its apply point. -/
structure TimeChange where
  rate : Nat
  step : Int
  /-- 0 COUNT, 1 TIME, 2 NEXT, 3 armed by the servo: the next boundary -/
  mode : Nat
  point : Nat
deriving DecidableEq, Repr

/-- Invar: the count, the slot in progress, the armed change. -/
structure Clock where
  /-- tclk periods since power-on; every timer of the model is kept by it -/
  ticks : Nat
  /-- the time PLL is locked and the count advances (R436) -/
  running : Bool
  /-- below 2^64, after which it wraps (R436) -/
  count : Nat
  /-- the slot in progress (R18) and the count at its boundary -/
  slot : Nat
  slotCount : Nat
  /-- the slot in progress began with an epoch boundary, and its actions have not begun yet (R21, R441) -/
  epochAt : Bool
  epochDue : Bool
  /-- the epoch whose boundary was met last -/
  epoch : Nat
  /-- tables whose scan step at this epoch boundary is still to run (R229) -/
  scans : List Nat
  change : Option TimeChange
  /-- the triple that the last change replaced: base, offset as a TIME value, rate; stamps captured before it are converted under it (R442) -/
  prior : Option (Nat × Nat × Nat)
deriving DecidableEq, Repr

/-- An exchange that a link measures (R450). -/
structure Exchange where
  t1 : Nat
  t2? : Option Nat
  sent : Nat
deriving DecidableEq, Repr

/-- References, holdover, fabric alignment, PPS (R443 to R459). -/
structure TimeSt where
  /-- epochs in a row that let each input leave its state (R447) -/
  refRun : Dict
  /-- readings of the last epochs, at most 16, the newest first: input i against Invar time at 8 i, against input j at 8 i + 1 + j (R446) -/
  refHist : Map (List Int)
  /-- a time PLL switch awaits its epoch boundary (R448) -/
  pllPending : Bool
  pllRelocking : Bool
  corePllRef : Nat
  corePllPending : Bool
  /-- reference assigned to the core PLL as standby, 7 none -/
  corePllStandby : Nat
  /-- a change has been applied since boot (R443) -/
  changed : Bool
  /-- tick of the last applied change, and of the last successful exchange -/
  lastChange : Nat
  lastSync : Nat
  syncCauseSince : Nat
  /-- exchanges in progress, by link times 16 plus SEQ -/
  exch : Map Exchange
  /-- next SEQ of each link's exchanges -/
  nextSeq : Dict
  /-- tick of each link's last TSYNC REQ -/
  reqSent : Dict
  /-- successive readings of the offset above and at or below each threshold (R452) -/
  above16 : Nat
  above48 : Nat
  below12 : Nat
  below40 : Nat
  /-- the servo's integral in units of 2 to the minus 32 ppb (R451) -/
  freqAcc : Int
  ppsOut : Bool
  /-- tick of the last PPS rise -/
  ppsRise : Nat
  ppsEpoch : Option Nat
deriving DecidableEq, Repr

/-! ## Host endpoint (17_host_endpoint.md) -/

/-- A record buffer that is open in a receive ring (R536). -/
structure OpenBuf where
  kind : Nat
  length : Nat
  records : Nat
  lastTick : Nat
deriving DecidableEq, Repr

/-- One DMA ring beside its object (R532, R533, R536, R539). -/
structure RingSt where
  prod : Nat
  head : Nat
  armed : Bool
  holdUntil : Nat
  /-- completions wait for a vector -/
  waiting : Bool
  buf : Option OpenBuf
  /-- transmit: the packet at RING_HEAD is being fetched, or waits for its ingress slot -/
  fetching : Bool
  /-- receive: octets of the packet in progress already delivered (R536) -/
  progress : Nat
  /-- PORT_DIRECT: the group of the port that the packet at RING_HEAD names, which does not run (R535) -/
  waitGroup : Option Nat
  /-- sub-indices 0x02 to 0x0F as they stood when ENABLE 1 was accepted (R643); empty: as in effect -/
  cfg : List Nat
deriving DecidableEq, Repr

/-- A ring that holds nothing. -/
def RingSt.idle : RingSt := ⟨0, 0, false, 0, false, none, false, 0, none, []⟩

/-- One event ring beside its object (R540 to R542). -/
structure EvSt where
  prod : Nat
  cons : Nat
  seq : Nat
  armed : Bool
  /-- events discarded since the last OVERFLOW -/
  lost : Nat
  /-- sub-indices 0x02 to 0x05 as they stood when ENABLE 1 was accepted (R643); empty: as in effect -/
  cfg : List Nat
deriving DecidableEq, Repr

/-- An event ring that holds nothing. -/
def EvSt.idle : EvSt := ⟨0, 0, 0, false, 0, []⟩

/-- One read outstanding on PCI Express (R538): its tag and engine (0 to 255 ring, 256 + g image, 264 board table). -/
structure ReadRec where
  tag : Nat
  engine : Nat
  since : Nat
deriving DecidableEq, Repr

/-- A read through a BAR2 window that waits for its far-tier transfers (R279, R287, R528). -/
structure WinRead where
  pf : Nat
  kind : Nat
  target : Nat
  at_ : Nat
  len : Nat
  fars : List Nat
deriving DecidableEq, Repr

/-- The endpoint. -/
structure Endpoint where
  linkUp : Bool
  perstLow : Bool
  /-- BAR0 and configuration are accepted (R593, R594) -/
  accepting : Bool
  /-- configuration space of PF0 and PF1 (R521) -/
  conf0 : FnConf
  conf1 : FnConf
  /-- the pending bits that are set, each a function and a vector (R530) -/
  pendingBits : List (Nat × Nat)
  inta : Bool
  /-- abnormal completions that AER recorded, newest first (R545) -/
  aer : List Nat
  rings : Map RingSt
  events : Map EvSt
  reads : List ReadRec
  /-- address and length of the reads that an engine's request still has to issue (R538) -/
  later : Map (List (Nat × Nat))
  /-- BAR2 reads in progress, by number -/
  winReads : Map WinRead
  /-- the link has been up since the device's reset -/
  upOnce : Bool
  /-- the link returned and no RESUME was written yet (R547) -/
  returned : Bool
  /-- rings frozen when the link went -/
  frozenRings : Nat
  /-- the engine served next when reads wait for a tag (R538) -/
  rrEngine : Nat
deriving DecidableEq, Repr

/-! ## Faults and the management complexes (18_faults.md) -/

/-- A message that a source holds (R553, R556). -/
structure Msg where
  kind : Nat
  addr : Nat
  forced : Bool
  since : Nat
deriving DecidableEq, Repr

/-- A record of the fault log, four words (R562). -/
structure LogRec where
  w0 : Nat
  w1 : Nat
  w2 : Nat
  w3 : Nat
deriving DecidableEq, Repr

/-- One Pewter beside its object (R570). -/
structure PewterSt where
  /-- ticks of the last heartbeat, none before the first of this boot -/
  lastBeat : Option Nat
  /-- held in reset -/
  held : Bool
  /-- tick of the release it boots from -/
  released : Option Nat
  everBooted : Bool
  /-- flash slot it booted from, 0 A, 1 B, 2 none, and the FW_VERSION and FEATURE_LEVEL of what it booted -/
  slot : Nat
  version : Nat
  level : Nat
deriving DecidableEq, Repr

/-- A Pewter that is off. -/
def PewterSt.off : PewterSt := ⟨none, true, none, false, 2, 0, 0⟩

/-- The collector, the reaction unit, the ALIVE_OUT driver. -/
structure Coll where
  held : Map (List Msg)
  rrNext : Nat
  /-- AON edge, plus 1, at which the last message was taken: one is taken in each clock period (R556) -/
  takenAt : Nat
  /-- window start E0 of each source (R558) -/
  winStart : Dict
  /-- reaction countdown of each source (R564) -/
  countdown : Dict
  /-- the message kind and address that started each reaction, as kind times 2 to the 40 plus address -/
  reactMsg : Dict
  /-- newest first -/
  log : List LogRec
  alive : Bool
  aliveSince : Nat
  /-- a heartbeat has arrived since boot -/
  started : Bool
  /-- complementary pairs that read wrong (R559) -/
  badPairs : List Nat
  mgmtLost : Bool
  pewterA : PewterSt
  pewterB : PewterSt
deriving DecidableEq, Repr

/-! ## Power, reset, boot, persistence (19_power_reset_boot.md) -/

/-- A request at the power sequencer (R581): domain, on or off, OFF_CAUSE. -/
structure SwitchReq where
  dom : Nat
  on : Bool
  cause : Nat
deriving DecidableEq, Repr

/-- MRAM contents (R605 to R609): a section is none when it fails its check. -/
structure Mram where
  incA : Option Nat
  incB : Option Nat
  saveSeq : Nat
  /-- section 1: seconds, rate, time reference, TIME_STATE, HOLD_CAUSE -/
  time : Option (List Nat)
  /-- section 2: retired pages, stack times 2 to the 22 plus page, oldest first -/
  retired : List Nat
  /-- section 3: sequence and the newest 256 fault records, newest first -/
  faults : Option (Nat × List LogRec)
  /-- section 4: sequence and the last 4,096 trace records, newest first -/
  traces : Option (Nat × List LogRec)
  saves : Nat
  lastSaveUs : Nat
deriving DecidableEq, Repr

/-- A last gasp in progress (R606, R608): its start, and the sections staged for the save; a section is none when it is
written as absent or not written. -/
structure Gasp where
  since : Nat
  seq : Nat
  retired : List Nat
  time : Option (List Nat)
  faults : Option (List LogRec)
  traces : Option (List LogRec)
deriving DecidableEq, Repr

/-- The always-on island. -/
structure Power where
  switching : Option SwitchReq
  queue : List SwitchReq
  /-- device held in reset (R590) -/
  inReset : Bool
  /-- RESET_N is low as sampled -/
  pinLow : Bool
  resetSince : Nat
  /-- internal reset in progress: its start, until the 1 ms hold ends (R591) -/
  internal : Option Nat
  /-- the domains are still to be switched off by the internal reset in progress (R591) -/
  dropping : Bool
  cause : Nat
  thermalHold : Bool
  /-- reset is released and BOOT has not run -/
  bootDue : Bool
  gasp : Option Gasp
  otp : List Nat
  /-- tick of the last OTP_UNLOCK, and the generation being programmed with its 2,048 bits (R604) -/
  unlock : Option Nat
  programming : Option (Nat × Nat)
  mram : Mram
  /-- boot flash: octets that are not 0xFF -/
  flash : Map Octet
  /-- flash command in progress: opcode, address, and the octets to program -/
  flashCmd : Option (Nat × Nat × Octets)
  avsTick : Nat
  coreOnTick : Nat
  /-- sensors whose TEMP_HIGH has been sent and not yet re-armed -/
  hotSent : List Nat
  /-- rails whose RAIL_OUT has been sent and not yet re-armed -/
  railSent : List Nat
  /-- what the monitors have read since power-on: rail n as n, sensor n as 32 + n -/
  measured : List Nat
  /-- ticks since which a rail's readings have been in band again, of those that have read out of it (R584) -/
  bandSince : Map Nat
  /-- sections of MRAM whose restore completed in this life -/
  restored : List Nat
deriving DecidableEq, Repr

/-! ## What the device puts out -/

/-- What a lane or the port above it transmits (R334, R339, R360): nothing, its training or idle pattern, remote fault sequences, idle,
frames and idle, blocks and cells of a Xanla Link, a test pattern, or the recovered receive data. -/
inductive LineSignal where
  | quiet | training | remoteFault | idle | frames | cells | pattern | recovered
deriving DecidableEq, Repr

/-- One thing the device emits on a pin, a link, a bus or PCI Express. -/
inductive Out where
  /-- the value returned by a BAR or SMBus read -/
  | reply (pf : Nat) (words : List Word64)
  /-- the completion of a BAR2 read: status (0 Successful Completion, 4 Completer Abort), the EP bit, and the data -/
  | completion (pf status : Nat) (poisoned : Bool) (bytes : Octets)
  /-- octets returned on SMBus; a NACK is an empty list with false -/
  | smbus (bytes : Octets) (acked : Bool)
  /-- a posted write to host memory: function, bus address, 64-bit words -/
  | hostWrite (fn addr : Nat) (words : List Word64)
  /-- a posted write of octets to host memory -/
  | hostBytes (fn addr : Nat) (bytes : Octets)
  /-- octets written into the receive buffer in slot `slot` of a DMA ring, from an offset on -/
  | ringData (ring slot offset : Nat) (bytes : Octets)
  /-- a descriptor's status word written back: ring, slot, word -/
  | ringStatus (ring slot word : Nat)
  /-- a non-posted read of host memory: function, address, octets, tag -/
  | hostRead (fn addr len tag : Nat)
  | msix (fn vector : Nat)
  | inta (asserted : Bool)
  /-- a frame begun on a port: octets to FCS, whether stomped, STAMP of its start in 2 to the minus 16 ns -/
  | frame (port : Nat) (bytes : Octets) (stomped : Bool) (stamp : Nat)
  /-- a frame ended by an error block -/
  | frameError (port : Nat)
  /-- a control block or train on a Xanla Link: the type of its first block, and the 7 payload octets of each block (R380) -/
  | block (link type : Nat) (payload : Octets)
  /-- a cell on a Xanla Link: header octets and payload octets -/
  | cell (link seq vl : Nat) (header payload : Octets)
  /-- symbols a lane transmits under test, bits in the NRZ modes (R338, R339) -/
  | lane (lane : Nat) (symbols : List Nat)
  /-- the answer to a tap request of the link partner: applied, or at its limit (R335) -/
  | tapAnswer (lane : Nat) (applied : Bool)
  /-- what a port transmits from now on (R360) -/
  | portSends (port : Nat) (what : LineSignal)
  /-- a negative acknowledgement on a die-to-die link: direction, the flit that failed (R343) -/
  | flitNak (chip : Nat) (toCore : Bool) (seq : Nat)
  /-- flits that the sender of a die-to-die link replays: the first, and how many (R343) -/
  | flitReplay (chip : Nat) (toCore : Bool) (first count : Nat)
  /-- a pin: 0 ALIVE_OUT, 1 PPS_OUT, 2 VID -/
  | pin (which level : Nat)
  /-- an I2C bus operation: bus, operation, octets -/
  | i2c (bus op : Nat) (bytes : Octets)
  /-- a boot-flash operation: operation, address, octets -/
  | flash (op addr : Nat) (bytes : Octets)
deriving DecidableEq, Repr

/-- What a transaction on PCI Express carries in its header's attributes. -/
structure TlpAttr where
  noSnoop : Bool
  idOrdering : Bool
  relaxed : Bool
deriving DecidableEq, Repr

/-! ## The central store (07_central_store.md) -/

/-- What goes to the host with a punted packet (R108, R154): reason, metadata words, and the trap frame of a packet that ran an
ingress handler from the park buffer. -/
structure Punt where
  reason : Nat
  copy : Bool
  egress : Bool
  /-- pipeline that punted, 0 to 31, and the transmitting port of an egress punt -/
  pipe : Nat
  port : Nat
  mds : List Nat
  trap : Option Octets
deriving DecidableEq, Repr

/-- One packet of the store with its descriptor (R238, R246, R248). -/
structure Pkt where
  /-- the frame from destination address to FCS -/
  frame : Octets
  /-- the words of the bridged block (R102) -/
  words : List Nat
  tc : Nat
  gen : Nat
  hash : Nat
  /-- fabric port address, or the multicast group -/
  dest : Nat
  /-- STAMP48 of a timed launch (R111) -/
  launch : Option Nat
  /-- tail-marked bad (R266) -/
  bad : Bool
  /-- the tail has arrived and every cell is written -/
  tailIn : Bool
  /-- rate of the ingress port in Gb/s, 0 for a source that is never cut through (R15) -/
  rate : Nat
  cells : Nat
  /-- pool charged: 0 port minimum, 1 headroom, 2 tenant minimum, 3 host reserve, 4 shared, 5 none -/
  pool : Nat
  inPt : Option Nat
  tenant : Option Nat
  /-- near-tier references of each cell -/
  refs : List Nat
  /-- replicas in the store, and 1 while replication is pending -/
  links : Nat
  /-- SOURCE the egress parser sees: 0 local, 3 fabric (R91) -/
  source : Nat
  /-- taken in by an export stream of flow telemetry, or by PORT_DIRECT: no ingress port-TC (R252) -/
  direct : Bool
  punt : Option Punt
  /-- hops spent in the fabric, for a packet of fabric cells -/
  hops : Nat
  /-- number of the frame whose tail is still arriving, 0 for none -/
  fid : Nat
  /-- ECN mark that its cells carried (R260) -/
  mark : Bool
  /-- recirculations so far (R94) -/
  recircs : Nat
  /-- slot in which the device began to hold it, plus 1; 0 for a packet that is not held in the sense of R478 -/
  born : Nat
  /-- mark reasons under which it has been counted (R265) -/
  marked : List Nat
deriving DecidableEq, Repr

/-- A page of a queue's middle (R253 to R255). -/
structure Page where
  /-- stack times 2 to the 22 plus page number -/
  page : Nat
  /-- 0 spill write in flight, 1 resident, 2 fill read in flight, 3 filled and waiting to join, 4 abandoned by its stack -/
  state : Nat
  /-- near-tier state of its 16 cells as they stood when they were spilled -/
  near : List Nat
  /-- cells of it that are poisoned (R267) -/
  poisoned : List Nat
  /-- an uncorrectable word was found: the page retires when it is freed -/
  retire : Bool
  /-- the contents went with the stack's domain (R12) -/
  lost : Bool
  /-- its fill has waited for the fill reserve, and is counted (R255) -/
  waited : Bool
deriving DecidableEq, Repr

/-- A replica in a queue (R245, R246). -/
structure QEnt where
  pid : Nat
  repl : Nat
  /-- TC of this replica -/
  tc : Nat
  mark : Bool
  /-- depth of the queue before the replica joined (MD5 QDEPTH) -/
  depth : Nat
  /-- discarded while behind others, and still in its place -/
  dead : Bool
  /-- STAMP48 at which it was linked (R495) -/
  stamp : Nat
  /-- fabric port address of this replica -/
  dest : Nat
  /-- words of its stored octets that a fill wrote back as zero (R267) -/
  zeroed : List Nat
deriving DecidableEq, Repr

/-- No replica. -/
def QEnt.none : QEnt := ⟨0, 0, 0, false, 0, false, 0, 0, []⟩

/-- A queue (R242, R253). A near cell is 0 its own, 1 filled from a page, 2 filled and poisoned, 3 gone with its stack. -/
structure Queue where
  ents : List QEnt
  head : List Nat
  pages : List Page
  tail : List Nat
  /-- stack of the previous page, 8 for none -/
  lastStack : Nat
  stalled : Bool
  drops : Nat
  marks : Nat
deriving DecidableEq, Repr

/-- An empty queue. -/
def Queue.empty : Queue := ⟨[], [], [], [], 8, false, 0, 0⟩

/-- A packet that awaits replication (R246). -/
structure Repl where
  pid : Nat
  /-- port-TC it came in on, by TC 0, and its tenant -/
  port : Nat
  tenant : Nat
  group : Nat
  started : Bool
  /-- valid list entries left, as they stood when its replication began (R245): each with its position in the run, its REPLICA_ID -/
  left : List (Nat × Nat)
deriving DecidableEq, Repr

/-- The store. Queues are keyed as 0x5018.01 names them: 0 VOQ, 1 egress, 2 host in [31:30], index in [19:0]. -/
structure Store where
  pkts : Map Pkt
  nextPid : Nat
  queues : Map Queue
  /-- cells in use of each port minimum and tenant minimum -/
  portMinUsed : Dict
  tenantMinUsed : Dict
  sharedUsed : Nat
  fillUsed : Nat
  /-- shared cells, cells of port minimums, headroom and tenant minimums (by `minKey`), fill cells and pages released since the last
  boundary: they count as free from the next (R249, R258) -/
  freed : Nat
  freedMin : Dict
  fillFreed : Nat
  pagesFreed : List Nat
  /-- packet pages in use -/
  pagesUsed : List Nat
  /-- pages held back: retired, or bad with no place on the list (R268) -/
  withheld : List Nat
  /-- pages of lists that software cleared: they return at the next START of the carve (R275) -/
  cleared : List Nat
  /-- the queue manager's 16-bit register (R259) -/
  lfsr : Nat
  /-- replication queue of each group -/
  repl : Map (List Repl)
  /-- bit k: the queue manager has seen the probe written in this slot, per 0x5018 instance -/
  probes : List Nat
deriving DecidableEq, Repr

/-! ## Babbitt (08_babbitt_arbiter.md) -/

/-- What a far-tier access is for (R278). -/
inductive Acc2 where
  /-- a spill write of a queue's page -/
  | spill (q page : Nat)
  | fill (q page : Nat)
  /-- one read of an open walk for one tag -/
  | walk (group id tag : Nat)
  /-- a command channel's access -/
  | chan (c : Nat)
  /-- a counter flush: pair, packets, bytes (R194) -/
  | flush (pair packets bytes : Nat)
  /-- a HIT and AGE_STAMP refresh: location, stamp (R228) -/
  | refresh (loc stamp : Nat)
  /-- reads and removals of the ageing scanner of a table -/
  | scan (table : Nat)
  /-- a write that nothing waits for: the repair of a bad word, a BAR2 write, a refresh that has become void -/
  | posted
  /-- a read through a BAR2 window, by its number -/
  | window (n : Nat)
  | telem
  | scrub
deriving DecidableEq, Repr

/-- One 64-byte transfer waiting in a class queue (R281). -/
structure Xfer where
  unit : Nat
  write : Bool
  /-- time of entry, in 16 bits of 16 ns, and the first transfer slot it contends in -/
  stamp : Nat
  first : Nat
  acc : Nat
  cls : Nat
  /-- its age has saturated -/
  old : Bool
deriving DecidableEq, Repr

/-- A transfer that Babbitt accepted and that is not complete (R279, R282): its channel and its end in 0.64 ns slots. -/
structure Taken where
  x : Xfer
  stack : Nat
  channel : Nat
  slot : Nat
deriving DecidableEq, Repr

/-- An access of one or more transfers. -/
structure FarAcc where
  owner : Acc2
  stack : Nat
  left : Nat
deriving DecidableEq, Repr

/-- Babbitt. -/
structure Bab where
  /-- waiting transfers of each stack, by arrival -/
  waiting : Map (List Xfer)
  taken : List Taken
  accs : Map FarAcc
  nextAcc : Nat
  /-- next transfer slot of each channel, as stack times 24 plus channel -/
  next : Dict
deriving DecidableEq, Repr

/-! ## Tables (05_tables_and_lookups.md, 06_table_maintenance.md) -/

/-- How a walk ended (R136, R142). -/
inductive WalkEnd where
  /-- result words from T0 on; the HOST location that was found; the leaf block that was read, as address and words -/
  | hit (words : List Nat) (loc : Option Nat) (leaf : Option (Nat × List Nat))
  | miss (leaf : Option (Nat × List Nat))
  /-- trap kind, detail, address -/
  | trap (kind detail addr : Nat)
deriving DecidableEq, Repr

/-- The walk issued for one generation tag of an open walk (R142, R196, R197). -/
structure TagWalk where
  since : Nat
  /-- the reference the next read follows (ROUTE) -/
  ref : Nat
  depth : Nat
  visited : List Nat
  /-- the walk has read all it needs: its end -/
  read : Option WalkEnd
  /-- the entry was written after it was read (R183) -/
  stale : Bool
  returned : Bool
deriving DecidableEq, Repr

/-- A packet on the list of an open walk: its pipeline, sequence number and tag; `done` once it completed the microword. -/
structure Waiter where
  pipe : Nat
  seq : Nat
  tag : Nat
deriving DecidableEq, Repr

/-- An open walk of a group (R142, R143). -/
structure Walk where
  handle : Nat
  table : Nat
  key : Octets
  /-- address reported in TS3: the choice-0 bucket, or the reference -/
  addr : Nat
  tag0 : Option TagWalk
  tag1 : Option TagWalk
  /-- in order of arrival -/
  waiters : List Waiter
deriving DecidableEq, Repr

/-- A command channel at work (R217): the command word, its principal and arguments as they stood, and how far it has come. -/
structure Chan where
  cmd : Nat
  who : Nat
  arg0 : Nat
  arg1 : Nat
  data : List Nat
  /-- 0 accepted, 1 reading, 2 writing -/
  phase : Nat
  /-- reference, depth and visited addresses of a SEARCH walk -/
  ref : Nat
  depth : Nat
  visited : List Nat
  /-- CODE, LOCATION, RESULT, DATA of a command that only waits for its writes -/
  code : Nat
  loc : Nat
  result : Nat
  out : List Nat
deriving DecidableEq, Repr

/-- A record in the learn holdoff filter (R226). -/
structure Held where
  type : Nat
  key : Octets
  since : Nat
deriving DecidableEq, Repr

/-- Table memory and what works on it. A memory word is 64 bits; a word no entry names reads zero. -/
structure Tables where
  /-- near-tier table memory by byte address div 8 (R167) -/
  near : Dict
  /-- far-tier table memory by far-tier table address (R168) div 8 -/
  far : Dict
  /-- TCAM words by ((group × 32,768) + index) × 8 + word -/
  tcam : Dict
  /-- leaf blocks that commands wrote: far address to words (R202, R203) -/
  leafBlocks : Map Nat
  /-- reference bits of each host-cache set (R182) -/
  refBits : Dict
  /-- leaf-cache lines in use: line number to the address of its leaf block and the block's words (R185, R167) -/
  leaf : Map (Nat × List Nat)
  /-- memory errors: near address, 2^40 + far address, 2^41 + TCAM entry, or 2^42 + microcode store word, to 1 correctable, 2 uncorrectable or parity -/
  upsets : Dict
  /-- open walks by group × 512 + number -/
  walks : Map Walk
  chans : Map Chan
  /-- records the holdoff filter holds, by its index (R226) -/
  holdoff : Map Held
  learnTokens : Nat
  learnTick : Nat
  /-- AGE_NOW of the last refresh by location [15:0], plus 1 (R228) -/
  refreshed : Dict
  /-- next bucket of each table's ageing scanner (R229) -/
  scanAt : Dict
  /-- tick at which the scrubber's pass of the far tier began, plus 1; 0 before the first -/
  scrubSince : Nat
  /-- write-backs the scrubber deferred while its table is locked (R213): address keys as in `upsets` -/
  deferred : List Nat
deriving DecidableEq, Repr

/-! ## Microcode and pipelines (03_packet_pipeline.md, 04_microcode.md) -/

/-- What a group's stores hold (R124, R158, R159). Micro-store keys are (direction × 16 + stage) × 2,048 + address; nano-store
keys (direction × 16 + stage) × 512 + address. -/
structure Ucode where
  micro : Dict
  nano : Dict
  /-- C0 to C15 and the key masks of a store, by direction × 16 + stage -/
  consts : Map (List Nat)
  masks : Map (List Nat)
  /-- ENTRY_PC and HANDLER_PC, in the header's order -/
  entry : List Nat
  handler : List Nat
  limitCode : Nat
  trapCode : Nat
  bridgeMin : Nat
  tcamMap : Octets
  tcamWide : Nat
  pairs : List (Nat × Nat)
  /-- handle to table number: 64 places, 0xFF for unbound -/
  bind : List Nat
  /-- PARSE and DEPARSE sections of each direction -/
  parse : List Octets
  deparse : List Octets
deriving DecidableEq, Repr

/-- A group with no image. -/
def Ucode.empty : Ucode := ⟨[], [], [], [], [], [], 0, 0, 1, [], 0, [], [], [], []⟩

/-- A packet on its way to an ingress parser: from a port, the host, or recirculation (R83). -/
structure InPkt where
  /-- frame from destination address to FCS -/
  frame : Octets
  /-- SOURCE: 0 ETH, 1 HOST, 2 RECIRC -/
  source : Nat
  port : Nat
  stamp : Nat
  sw : Bool
  tailIn : Bool
  bad : Bool
  rate : Nat
  /-- fields a recirculated packet keeps (R94): GEN_TAG, TRACE_TAG, TENANT, FLOW_HASH, USER0, FEATURES_SNAP, RECIRC_COUNT -/
  kept : List Nat
  /-- number of the port frame it is, for its tail; 0 for none -/
  fid : Nat
  /-- error its tail brings: 0 none, 1 PCS, 2 rate slip, 3 runt, 4 oversize, 5 FCS -/
  err : Nat
  /-- the trap frame of a packet that entered a handler from the park buffer (R154) -/
  trapFrame : Option Octets
  /-- slot in which the device began to hold it, plus 1 (R478) -/
  born : Nat
  /-- octets of a port frame as delimited, of which it holds MAX_FRAME at most (R363) -/
  wire : Nat
deriving DecidableEq, Repr

/-- A parked packet (R138, R156). -/
structure Parked where
  pipe : Nat
  seq : Nat
  pkt : InPkt
  hv : Octets
  /-- fields region as the parser left it, for checksums -/
  orig : Octets
  kind : Nat
  detail : Nat
  stage : Nat
  pc : Nat
  traps : Nat
  stamp : Nat
  colour : Nat
  meterDone : Bool
  fence : Bool
  addr : Nat
  walk : Option Nat
  handle : Nat
  crcC : Nat
  crcR : Nat
  assists : List Nat
  assistDone : Bool
  /-- the trap of a walk's end that a waiter took over (R143), or its result -/
  ended : Option WalkEnd
  /-- tick at which it parked -/
  since : Nat
  /-- order in which it became eligible, 0 while it is not (R149) -/
  eligible : Nat
  /-- trace records of the pass so far (R503) -/
  trace : List LogRec
deriving DecidableEq, Repr

/-- A raised fence of an ingress pipeline (R146): its flow and its members that have not completed their microword. -/
structure FenceSt where
  hash : Nat
  members : List Nat
deriving DecidableEq, Repr

/-- One ingress pipeline. -/
structure PipeSt where
  seq : Nat
  /-- slots of the round given so far, and the shares used (R83) -/
  pos : Nat
  usedRe : Nat
  usedRec : Nat
  usedHost : Nat
  /-- weighted round robin of ports: the port served last and its remaining weight (R24) -/
  lastPort : Nat
  credit : Nat
  recirc : List InPkt
  host : List (Nat × InPkt)
  fences : List FenceSt
  lfsr : Nat
  /-- the egress pipeline's weighted round robin of ports: the port served last and its remaining weight (R303) -/
  egPort : Nat
  egCredit : Nat
deriving DecidableEq, Repr

/-- A pair of pipelines IPj and EPj that hold nothing. -/
def PipeSt.idle : PipeSt := ⟨0, 0, 0, 0, 0, 0, 0, [], [], [], 1, 0, 0⟩

/-- A packet dequeued toward an egress pipeline: its replica, packet, the near states of its cells. -/
structure Leaving where
  ent : QEnt
  pkt : Pkt
  near : List Nat
  /-- the store found an uncorrectable error in a cell of it as it was dequeued: the pipeline does not see it (R266, R267) -/
  late : Bool
deriving DecidableEq, Repr

/-- Pipelines: stores, parked packets and pipelines. -/
structure Pipes where
  ucode : Map Ucode
  parked : Map (List Parked)
  pipes : Map PipeSt
  nextEligible : Nat
  /-- loads in progress by group, and 8 for the board table: LENGTH, ADDRESS and SOURCE as they stood (R161, R332) -/
  loading : Map (Nat × Nat × Nat)
  /-- a packet dequeued toward an egress pipeline (PORT_SELECT to EGRESS_PASS), per port -/
  atEgress : Map (List Leaving)
deriving DecidableEq, Repr

/-! ## Metering, scheduling and shaping (09_traffic_management.md) -/

/-- A shaper's bucket: tokens as of M `last`, and the due time of one that waits on the wheel (R305, R306). -/
structure Shaper where
  tokens : Int
  last : Nat
  due : Option Nat
  /-- on the coarse level -/
  coarse : Bool
deriving DecidableEq, Repr

/-- A pause received from a link partner (R312): its end in ticks. -/
structure PauseRec where
  until_ : Nat
deriving DecidableEq, Repr

/-- Traffic management. -/
structure Traffic where
  shapers : Map Shaper
  /-- next fine slot and next coarse slot to begin, as M and M div 4,096 -/
  wheelM : Nat
  coarseM : Nat
  /-- shapers carried past a full fine slot, oldest first (R307) -/
  carried : List Nat
  /-- queues whose `fresh` is false, DRR pointers by port × 4 + group (R301) -/
  stale : List Nat
  pointer : Dict
  /-- received pauses by port × 16 + priority, 8 for IEEE 802.3x (R312) -/
  paused : Map PauseRec
  /-- ports with a pause frame to send (R309), and what each port last signalled: its TCs in XOFF times 256, plus their priorities -/
  pauseDue : List Nat
  signalled : Dict
  /-- tick of the last pause frame of a port -/
  pauseSent : Dict
  /-- next meter of the sweeper (R295) -/
  sweep : Nat
deriving DecidableEq, Repr

/-! ## Ethernet ports and I2C (11_ethernet_ports.md) -/

/-- A frame in the MAC that waits for its transmission or for the end of a pause (R312, R365). -/
structure MacFrame where
  fid : Nat
  /-- octets from destination address to the stored FCS, as the deparser emitted them -/
  frame : Octets
  bad : Bool
  tailIn : Bool
  tc : Nat
  /-- launch time in ns of a timed launch (R461) -/
  launch : Option Nat
  /-- the egress header vector as it stood at the end of E9 -/
  hv : Octets
  /-- STAMP48 of the link to the egress queue, and words of the bridged block (R495) -/
  linked : Nat
  words : Nat
  /-- time the egress parser took the packet -/
  parsed : Nat
  /-- the frame may be cut short by cells of the fabric that come late (R365) -/
  fabric : Bool
  trace : List LogRec
  /-- slot in which the device began to hold it, plus 1 (R478) -/
  born : Nat
deriving DecidableEq, Repr

/-- A command that an I2C controller is running (R373): opcode, the ADDR and DATA words as they stood, SEQ, and its start. -/
structure I2cCmd where
  op : Nat
  seq : Nat
  addr : Nat
  data : Octets
  since : Nat
  /-- the bus was STUCK when the command began (R374) -/
  stuck : Bool
deriving DecidableEq, Repr

/-- Ports beside their objects. -/
structure Ports where
  /-- frames of each port's input buffer, oldest first (R82) -/
  inbuf : Map (List InPkt)
  /-- frames past their ingress slot whose tail is still arriving: port, number, octets, error -/
  arriving : List (Nat × Nat × Nat × Nat)
  nextFid : Nat
  /-- frames waiting in each MAC -/
  mac : Map (List MacFrame)
  /-- tick at which the transmission in progress of a port ends -/
  txEnd : Dict
  /-- generation tag, and slot plus 1 in which its holding began, of the frame in transmission (R478) -/
  sending : Map (Nat × Nat)
  /-- octets of the frame in transmission -/
  txLen : Dict
  /-- frames to come on each port that an uncorrectable codeword overlaps (R356) -/
  spoilt : Dict
  /-- epochs in a row at the degrade limit, and uncorrectable codewords of this epoch (R361) -/
  degraded : Dict
  uncorr : Dict
  /-- tick of the last PFC_HOLD frame of a port (R114) -/
  holdSent : Dict
  /-- I2C commands running by bus (R373) -/
  i2c : Map I2cCmd
deriving DecidableEq, Repr

/-! ## Telemetry (16_telemetry.md) -/

/-- One flow's deltas: a line of the flow accumulator, or a flush (R497). -/
structure FlowLine where
  key : Octets
  tenant : Nat
  hash : Nat
  packets : Nat
  bytes : Nat
  maxQ : Nat
  latMax : Nat
  latMin : Nat
  hist : List Nat
  first : Nat
  last : Nat
deriving DecidableEq, Repr

/-- A mirror copy (R109): its session, side, octets, metadata, and the length of the frame it was taken from. -/
structure MirrorCopy where
  session : Nat
  egress : Bool
  bytes : Octets
  mds : List Nat
  len : Nat
  srcDevice : Nat
deriving DecidableEq, Repr

/-- A mirror session beside its object (R504): sampling register, bucket in units of 2^-32 records and its last tick. -/
structure MirrorSt where
  lfsr : Nat
  tokens : Nat
  last : Nat
deriving DecidableEq, Repr

/-- An export packet that is open (R493): kind, record octets, and the tick of its first record. -/
structure ExportPkt where
  kind : Nat
  records : List Octets
  since : Nat
deriving DecidableEq, Repr

/-- A dump that is being written (R508): its number, its buffer, header words and values; of a COUNTER set its pairs, which the pass reads, and
whether another pass was running as it fell due (R507, R509). -/
structure DumpJob where
  number : Nat
  buf : Nat
  counter : Bool
  header : List Nat
  values : List Nat
  first : Nat
  count : Nat
  late : Bool
deriving DecidableEq, Repr

/-- The value of a pair as the central reader read it (R507). -/
structure PairValue where
  packets : Nat
  bytes : Nat
  part : Bool
deriving DecidableEq, Repr

/-- A line of the divert store: a pair and what was posted to it (R507). -/
structure DivertLine where
  pair : Nat
  packets : Nat
  bytes : Nat
deriving DecidableEq, Repr

/-- The telemetry unit. -/
structure Telem where
  /-- lines of the flow accumulator by CRC-32C[17:0], and the sweeper's next line -/
  lines : Map FlowLine
  sweep : Nat
  flushes : List FlowLine
  /-- mirror copies that await the unit, by group -/
  copies : Map (List MirrorCopy)
  sessions : Map MirrorSt
  exports : Map ExportPkt
  /-- packets sent on each export channel -/
  seq : Dict
  /-- lengths of the records of each far ring from TAIL on -/
  far : Map (List Nat)
  /-- the last 4,096 trace records sent, newest first (R503) -/
  history : List LogRec
  /-- records held in each group's trace buffer, and records it dropped since the last LOST -/
  held : Dict
  lost : Dict
  /-- next dump number of each set, and dumps in progress -/
  dumpNo : Dict
  dumps : Map DumpJob
  /-- sets whose TRIGGER takes effect at this boundary, with sub-indices 0x01 to 0x0E as the trigger took them (R643), and dumps due at the last one with the values of its snapshot -/
  triggered : Map (List Nat)
  due : Map DumpJob
  /-- the pairs of the running pass that the reader has read, and the divert store of 262,144 lines (R507) -/
  passRead : Map PairValue
  divert : Map DivertLine
  /-- pair reads waiting for the next boundary -/
  pairs : List Nat
  /-- STAMP48 at which a group went off, plus 1 (R510) -/
  offAt : Dict
deriving DecidableEq, Repr

/-! ## Lanes and PHY chiplets (10_lanes.md) -/

/-- A reference switch of a chiplet that has begun (R327): its epoch and tick, and the lanes that have yet to reach READY. -/
structure ChipSwitch where
  chip : Nat
  epoch : Nat
  since : Nat
  waiting : List Nat
deriving DecidableEq, Repr

/-- A die-to-die link beside its object (R343 to R346), by direction 0 toward the core, 1 toward the chiplet. -/
structure D2d where
  next0 : Nat
  next1 : Nat
  /-- flits sent in each direction and not yet delivered: the replay buffer's and those in flight -/
  held0 : Nat
  held1 : Nat
  /-- failures in a row of the next flit of each direction -/
  fails0 : Nat
  fails1 : Nat
  /-- retrains that failed in a row -/
  failed : Nat
  /-- RETRIES of this epoch -/
  retries : Nat
deriving DecidableEq, Repr

/-- A link that has carried nothing. -/
def D2d.idle : D2d := ⟨0, 0, 0, 0, 0, 0, 0, 0⟩

/-- A lane's pattern generator and checker (R338, R340): the generator's register; the bits left of the blocks that take an error, and what
says where in a block it lies; the checker's register, the bits it was seeded with, error-free bits in a row; and while it is LOCKED
which of its last 256 bits were in error, and how many. -/
structure LaneTest where
  gen : Nat
  inject : Nat
  spot : Nat
  chk : Nat
  fill : Nat
  good : Nat
  window : Nat
  wrong : Nat
deriving DecidableEq, Repr

/-- A lane that is not under test. -/
def LaneTest.none : LaneTest := ⟨0, 0, 0, 0, 0, 0, 0, 0⟩

/-- Lanes beside their objects. -/
structure Lanes where
  /-- the held board table: words 0 and 1 of each record (R329, R330) -/
  board : Option (List (Nat × Nat))
  /-- chiplets with a pending switch: 1 from its reference, 2 from SWITCH_NOW (R327) -/
  pendingSw : Dict
  switching : Option ChipSwitch
  /-- tick at which each lane's training began, plus 1 -/
  trainSince : Dict
  /-- word 1 of the record each lane took as it began to train, plus 1; none of a lane that took the default record (R333) -/
  bounds : Dict
  /-- first slot whose adaptation at a bound each lane has not counted (R335) -/
  hitFrom : Dict
  tests : Map LaneTest
  /-- FEC instances that have posted FEC_MARGIN in this epoch, and the highest bin each reached in it (R342) -/
  margin : List Nat
  epochBin : Dict
  d2d : Map D2d
deriving DecidableEq, Repr

/-! ## The fabric (12_fabric.md, 13_fabric_scheduling.md) -/

/-- A cell as its header names it (R382): KIND 0 DATA, 1 MGMT, 2 SCHED. -/
structure FabCell where
  kind : Nat
  dest : Nat
  port : Nat
  tc : Nat
  vl : Nat
  gen : Nat
  sop : Bool
  eop : Bool
  badTail : Bool
  ecn : Bool
  hash : Nat
  src : Nat
  tag : Nat
  index : Nat
  count : Nat
  hops : Nat
  payload : Octets
deriving DecidableEq, Repr

/-- Where a cell of a link queue comes from: built here with no place of the store (MGMT, SCHED); in transit, from a link and VL to
which its credit returns (R387, R424); released from a packet of the store, one of its cells with its near state (R418). -/
inductive Origin where
  | built
  | transit (link vl : Nat)
  | stored (pid cell near : Nat) (last : Bool)
deriving DecidableEq, Repr

/-- A cell in a link queue or a replay buffer: VL it came in on, how often it was resent, and the slot in which the device began to
hold its packet, plus 1. -/
structure QCell where
  cell : FabCell
  origin : Origin
  inVl : Nat
  resent : Nat
  born : Nat
deriving DecidableEq, Repr

/-- A Xanla Link beside its objects (R385 to R398, R424). -/
structure LinkSt where
  /-- next SEQ to send, and the cells sent and not acknowledged, oldest first -/
  txSeq : Nat
  replay : List (Nat × QCell)
  /-- SEQs to send again, in order -/
  resend : List Nat
  /-- tick of the last progress of acknowledgement -/
  progress : Nat
  /-- retrains in a row that did not help -/
  failed : Nat
  /-- next SEQ expected, and the tick of a NAK that has not been answered -/
  rxSeq : Nat
  nakAt : Option Nat
  /-- per VL: cumulative credits received, credits charged, credits returned, and what the last CREDIT block said -/
  granted : List Nat
  charged : List Nat
  returned : List Nat
  said : List Nat
  creditAt : Nat
  /-- last valid hello, its tick, the tick of the last hello sent, serials that NEIGHBOUR_NEW named -/
  hello : Option Hello
  helloAt : Nat
  helloSent : Nat
  announced : List Nat
  /-- the identity entry of the neighbour's claim was written (R397) -/
  recheck : Bool
  /-- trains that ASSIGN has sent, and its parameters as they stood (R643): serial, incarnation, ID -/
  trains : Nat
  assign : Nat × Nat × Nat
  /-- link queues of VL 0 to VL 3, and the data VL served last -/
  queues : List (List QCell)
  lastVl : Nat
  /-- FILLER blocks received and deleted, and blocks deleted and inserted, in this epoch; the last two of the ending epoch -/
  fillRx : Nat
  fillDel : Nat
  deleted : Nat
  inserted : Nat
  lastDeleted : Nat
  lastInserted : Nat
deriving DecidableEq, Repr

/-- A link that has carried nothing. -/
def LinkSt.idle : LinkSt :=
  { txSeq := 0, replay := [], resend := [], progress := 0, failed := 0, rxSeq := 0, nakAt := none
    granted := [0, 0, 0, 0], charged := [0, 0, 0, 0], returned := [0, 0, 0, 0], said := [0, 0, 0, 0], creditAt := 0
    hello := none, helloAt := 0, helloSent := 0, announced := [], recheck := false, trains := 0, assign := (0, 0, 0)
    queues := [[], [], [], []], lastVl := 2, fillRx := 0, fillDel := 0, deleted := 0, inserted := 0, lastDeleted := 0, lastInserted := 0 }

/-- An open reassembly context (R384), keyed SRC_DEVICE times 4,096 plus PACKET_TAG: its SOP cell, next CELL_INDEX, octets so far,
marks, tick of its last cell, and the packet of the store when its dequeue may begin before its end (R421). -/
structure Reasm where
  sop : FabCell
  next : Nat
  bytes : Octets
  bad : Bool
  ecn : Bool
  since : Nat
  born : Nat
  /-- number by which its later cells find the packet that is already linked; 0 for none -/
  fid : Nat
  /-- the packet was dropped and the rest of its cells go with it -/
  dropped : Bool
deriving DecidableEq, Repr

/-- A VOQ at the source (R413, R414). -/
structure VoqSt where
  rq : Nat
  /-- slot of the last grant -/
  granted : Nat
  reset : Bool
  /-- destination port that requests name, plus 1 -/
  port : Nat
deriving DecidableEq, Repr

/-- A scheduler message that was received and waits for its DUE slot (R410, R412). -/
structure SchedMsg where
  src : Nat
  word : Nat
  due : Nat
deriving DecidableEq, Repr

/-- A grant that this source accepted and that still holds packets back (R417). -/
structure HeldGrant where
  voq : Nat
  due : Nat
  packets : Nat
deriving DecidableEq, Repr

/-- A packet released before its tail was stored (R420, R422): its cells from `next` on are still to come; the slot in which its first cell
left. -/
structure Stream where
  pid : Nat
  next : Nat
  since : Nat
  tag : Nat
  dest : Nat
  /-- TC and ECN mark of the replica, and whether a cell of it that has left was poisoned (R422) -/
  tc : Nat
  mark : Bool
  bad : Bool
deriving DecidableEq, Repr

/-- An entry of the request table (R414, R415): PENDING by the ITERATION of its next offer. -/
structure ReqEnt where
  src : Nat
  p1 : Nat
  p2 : Nat
  p3 : Nat
  deficit : Int
  fresh : Bool
deriving DecidableEq, Repr

/-- A grant that this destination issued (R415, R416): `accepted` is none while it is unanswered, and `assumed` tells that its figure was
assumed in place of an answer that has not come. -/
structure OutGrant where
  id : Nat
  src : Nat
  q : Nat
  cells : Nat
  iter : Nat
  due : Nat
  accepted : Option Nat
  arrived : Nat
  assumed : Bool
deriving DecidableEq, Repr

/-- A standing grant that this source holds (R419, R420): rate code, S, P, credit, next period boundary, slot of the last STANDING. -/
structure StandSrc where
  dest : Nat
  port : Nat
  tc : Nat
  rate : Nat
  cells : Nat
  period : Nat
  credit : Int
  next : Nat
  heard : Nat
deriving DecidableEq, Repr

/-- What this destination last sent for an entry of 0x6078 (R419): epoch, source, and the message without DUE. -/
structure StandDst where
  epoch : Nat
  src : Nat
  word : Nat
deriving DecidableEq, Repr

/-- The fabric. -/
structure Fabric where
  links : Map LinkSt
  /-- blocks that each IR link has sent since its last FILLER, and in this slot (R388) -/
  sinceFill : Dict
  slotBlocks : Dict
  reasm : Map Reasm
  /-- next PACKET_TAG toward each device -/
  tags : Dict
  /-- the assignment accepted in this life: NEW_ID, MANAGER_ID -/
  assigned : Option (Nat × Nat)
  /-- packets of which a cell was dropped with IN_FLIGHT_LOST: source, destination, tag as one number -/
  lost : List Nat
  voqs : Map VoqSt
  msgs : List SchedMsg
  held : List HeldGrant
  streams : List Stream
  requests : Map (List ReqEnt)
  /-- grant budgets in 1/64 cell, and the TC served last by port × 4 + group, plus 1 -/
  budgets : Dict
  lastTc : Dict
  outs : List OutGrant
  grantIds : Dict
  standSrc : List StandSrc
  standDst : Map StandDst
  /-- messages that arose in this slot: device addressed, message -/
  outbox : List (Nat × Nat)
  /-- packets in transit of which this device accepted a cell and whose last cell the next device has not acknowledged: tag of the
  generation, and slot plus 1 (R478) -/
  passing : Map (Nat × Nat)
  /-- packets in transit that an ADOPT discarded and of which cells are still to arrive (R485) -/
  retired : List Nat
  /-- cells that arrived for a source and egress queue while the answers to its grants are still to act (R416): source times 8,192 plus
  queue -/
  early : Dict
  /-- epoch in which GEN_STRAY was posted last, plus 1 -/
  strayEpoch : Nat
deriving DecidableEq, Repr

/-! ## Reasons a step stops -/

/-- Why a step stops with a fault. The specification stops the device at no command, and no command of the model stops it. -/
inductive Fault where
  /-- Raised by no command: one whose operands name a unit the device does not have has no effect, or the answer that R32 gives it. Safe. -/
  | illFormed
deriving DecidableEq, Repr

/-- Why a step is refused. -/
inductive Refusal where
  /-- Raised by the dispatch for a command that has no meaning yet. Safe. -/
  | notModelled (mnemonic : String)
deriving DecidableEq, Repr

/-! ## The state -/

/-- The state of the device. -/
structure State where
  /-- commands waiting, first in, first out -/
  pending : List Instr
  /-- what the device has put out, newest first (the model's own log) -/
  out : List Out
  /-- index of the next free value (the model's own field) -/
  freeIx : Nat
  /-- every dictionary value in effect that differs from its default -/
  dict : Dict
  acc : Access
  remote : Remote
  fns : Funcs
  clk : Clock
  time : TimeSt
  ep : Endpoint
  coll : Coll
  pwr : Power
  sto : Store
  bab : Bab
  tab : Tables
  pip : Pipes
  trf : Traffic
  prt : Ports
  tel : Telem
  lan : Lanes
  fab : Fabric
deriving DecidableEq, Repr

/-! ## The state right after reset -/

/-- The factory generation of the settings record (R602) with its CRC. The key hash, which the ordering code gives, is zero here
(DESIGN CHOICE, log entry 3). -/
def factoryRecord : Nat :=
  0x8421084219840013000000000000000000000000000000000000000000000000000000000000000000000000000000000000000000000000000000000000000000000000000000021c1084f

/-- Values fused or written at the factory (R76, R585, R601): PART_CODE, SILICON_REV, SERIAL, the references that R602 gives, and the
setpoint. The manual gives an example of the first two and no value of the others (DESIGN CHOICE, log entry 3). -/
def factoryDict : Dict :=
  [(keyOf 0x1000 0 1, 0x1445a313533362d4c4230), (keyOf 0x1000 0 2, 0x4200), (keyOf 0x1000 0 3, 1),
   (keyOf 0x8058 0 0x0B, 40), (keyOf 0x8058 0 0x0C, 40), (keyOf 0x8060 0 1, 2 ^ 2048 + factoryRecord), (keyOf 0x8060 0 2, 1)]

/-- MRAM that holds nothing: every section fails its check (R609). -/
def Mram.blank : Mram := ⟨none, none, 0, none, [], none, none, 0, 0⟩

/-- The machine right after power-on, its reset released and its first boot still to run: every object at its default, every domain
but AON off, every queue and memory empty. -/
def State.reset : State :=
  { pending := [], out := [], freeIx := 0, dict := factoryDict
    acc := { slotWrites := [], stp := [], staged := [], shadow := [], kept := factoryDict, armed := none
             mb0 := Mailbox.idle, mb1 := Mailbox.idle, latch0 := none, latch1 := none, smbSel := none, smbHeld := none
             lastStatus := 0, lastValue := 0 }
    remote := ⟨[], [], [], [], []⟩
    fns := ⟨[], [], [], [], []⟩
    clk := { ticks := 0, running := false, count := 0, slot := 0, slotCount := 0, epochAt := false, epochDue := false, epoch := 0, scans := [], change := none, prior := none }
    time := { refRun := [], refHist := [], pllPending := false, pllRelocking := false, corePllRef := 7, corePllPending := false, corePllStandby := 7
              changed := false, lastChange := 0, lastSync := 0, syncCauseSince := 0, exch := [], nextSeq := [], reqSent := []
              above16 := 0, above48 := 0, below12 := 0, below40 := 0, freqAcc := 0, ppsOut := false, ppsRise := 0, ppsEpoch := none }
    ep := { linkUp := false, perstLow := false, accepting := false, conf0 := FnConf.reset, conf1 := FnConf.reset, pendingBits := []
            inta := false, aer := [], rings := [], events := [], reads := [], later := [], winReads := []
            upOnce := false, returned := false, frozenRings := 0, rrEngine := 0 }
    coll := { held := [], rrNext := 0, takenAt := 0, winStart := [], countdown := [], reactMsg := [], log := [], alive := false, aliveSince := 0
              started := false, badPairs := [], mgmtLost := false, pewterA := PewterSt.off, pewterB := PewterSt.off }
    pwr := { switching := none, queue := [], inReset := false, pinLow := false, resetSince := 0, internal := none, dropping := false
             cause := 0, thermalHold := false, bootDue := true, gasp := none
             otp := [factoryRecord, 0, 0, 0], unlock := none, programming := none, mram := Mram.blank, flash := [], flashCmd := none
             avsTick := 0, coreOnTick := 0, hotSent := [], railSent := [], measured := [], bandSince := [], restored := [] }
    sto := { pkts := [], nextPid := 1, queues := [], portMinUsed := [], tenantMinUsed := [], sharedUsed := 0, fillUsed := 0, freed := 0, freedMin := []
             fillFreed := 0, pagesFreed := [], pagesUsed := [], withheld := [], cleared := [], lfsr := 0xACE1, repl := [], probes := [] }
    bab := { waiting := [], taken := [], accs := [], nextAcc := 0, next := [] }
    tab := { near := [], far := [], tcam := [], leafBlocks := [], refBits := [], leaf := [], upsets := [], walks := [], chans := [], holdoff := []
             learnTokens := 0, learnTick := 0, refreshed := [], scanAt := [], scrubSince := 0, deferred := [] }
    pip := { ucode := [], parked := [], pipes := [], nextEligible := 1, loading := [], atEgress := [] }
    trf := { shapers := [], wheelM := 0, coarseM := 0, carried := [], stale := [], pointer := [], paused := [], pauseDue := []
             signalled := [], pauseSent := [], sweep := 0 }
    prt := { inbuf := [], arriving := [], nextFid := 0, mac := [], txEnd := [], sending := [], txLen := [], spoilt := [], degraded := [], uncorr := [], holdSent := [], i2c := [] }
    tel := { lines := [], sweep := 0, flushes := [], copies := [], sessions := [], exports := [], seq := [], far := [], history := []
             held := [], lost := [], dumpNo := [], dumps := [], triggered := [], due := [], passRead := [], divert := [], pairs := [], offAt := [] }
    lan := { board := none, pendingSw := [], switching := none, trainSince := [], bounds := [], hitFrom := [], tests := [], margin := [], epochBin := [], d2d := [] }
    fab := { links := [], sinceFill := [], slotBlocks := [], reasm := [], tags := [], assigned := none, lost := [], voqs := [], msgs := [], held := [], streams := []
             requests := [], budgets := [], lastTc := [], outs := [], grantIds := [], standSrc := [], standDst := [], outbox := []
             passing := [], retired := [], early := [], strayEpoch := 0 } }

end Sys2Proof.Machine
end

