-- ==== Sys2Proof/Machine/Ops.lean ====
section
/-! DEFINITION. The named operations over the state that every family uses: reading and writing dictionary values, Invar time,
posting events, sending fault messages, raising outputs. -/

namespace Sys2Proof.Machine

/-! ## Dictionary values in effect -/

/-- The value in effect of a key. -/
def State.val (s : State) (k : Nat) : Nat := mget (dictDefault k) s.dict k

/-- The state with the value in effect of a key set. -/
def State.setVal (s : State) (k v : Nat) : State := { s with dict := mput (dictDefault k) s.dict k v }

/-- The value in effect of register `r` of instance `n`. -/
def State.rd (s : State) (r : Reg) (n : Nat) : Nat := s.val (key r n)

/-- The state with register `r` of instance `n` set. -/
def State.wr (s : State) (r : Reg) (n v : Nat) : State := s.setVal (key r n) v

/-- A BOOL register as a truth value. -/
def State.on (s : State) (r : Reg) (n : Nat) : Bool := s.rd r n != 0

/-- An S32 register as an integer. -/
def State.rdI (s : State) (r : Reg) (n : Nat) : Int := sext 32 (s.rd r n)

/-- The state with an S32 register set from an integer. -/
def State.wrI (s : State) (r : Reg) (n : Nat) (v : Int) : State := s.wr r n (toWord 32 v)

/-- A 64-bit counter advanced; it wraps. -/
def State.add (s : State) (r : Reg) (n by_ : Nat) : State := s.wr r n ((s.rd r n + by_) % 2 ^ 64)

/-- A 64-bit counter advanced by one. -/
def State.bump (s : State) (r : Reg) (n : Nat) : State := s.add r n 1

/-- A 32-bit counter advanced by one; it wraps. -/
def State.bump32 (s : State) (r : Reg) (n : Nat) : State := s.wr r n ((s.rd r n + 1) % 2 ^ 32)

/-- A register raised to a value when it lies below it. -/
def State.raise (s : State) (r : Reg) (n v : Nat) : State := if s.rd r n < v then s.wr r n v else s

/-- The register a run of rows gives at offset `i`. -/
def Reg.at (r : Reg) (i : Nat) : Reg := ⟨r.index, r.sub + i⟩

/-- Fold a state over a list. -/
def State.each {α : Type} (s : State) (l : List α) (f : State → α → State) : State := l.foldl f s

/-- Emit an output. -/
def State.emit (s : State) (o : Out) : State := { s with out := o :: s.out }

/-- Draw a free value of `w` bits: a value the specification leaves open. -/
def State.free (s : State) (w : Nat) : Nat × State :=
  (Config.freeValue s.freeIx % 2 ^ w, { s with freeIx := s.freeIx + 1 })

/-! ## Time (R18, R436, R437) -/

/-- Units of 2 to the minus 16 ns in a second. -/
def fracPerSecond : Nat := 1000000000 * 65536

/-- A TIME value in units of 2 to the minus 16 ns (R5). -/
def timeOf (raw : Nat) : Nat := (bits raw 127 64 * 1000000000 + bits raw 63 32) * 65536 + bits raw 31 16

/-- The TIME value of an instant in units of 2 to the minus 16 ns. -/
def timeRaw (t : Nat) : Nat :=
  t / fracPerSecond * 2 ^ 64 + t / 65536 % 1000000000 * 2 ^ 32 + t % 65536 * 65536

/-- The STAMP48 of an instant. -/
def stamp48 (t : Nat) : Nat := t / fracPerSecond % 65536 * 2 ^ 32 + t / 65536 % 1000000000

/-- Ticks from one count to a later one: the count wraps at 2^64 (R436). -/
def ticksFrom (base c : Nat) : Nat := if base ≤ c then c - base else c + 2 ^ 64 - base

/-- The signed difference of two STAMP48 values in ns, modulo 65,536 s (R450, R456). -/
def stampDiff (a b : Nat) : Int :=
  let m : Int := 65536 * 1000000000
  let ns (x : Nat) : Int := (x / 2 ^ 32 : Nat) * 1000000000 + (x % 2 ^ 32 : Nat)
  let d := (ns a - ns b) % m
  if d < m / 2 then d else d - m

/-- Invar time at a count, in units of 2 to the minus 16 ns, truncated (R437). -/
def State.timeAt (s : State) (c : Nat) : Nat :=
  timeOf (s.rd R.invar_OFFSET 0) + ticksFrom (s.rd R.invar_BASE 0) c * s.rd R.invar_RATE 0 / 2 ^ 32

/-- Invar time now. -/
def State.now (s : State) : Nat := s.timeAt s.clk.count

/-- The time of a stamp captured so many ticks ago, under the triple that was in effect at its count (R442). -/
def State.timeAgo (s : State) (age : Nat) : Nat :=
  let since := ticksFrom (s.rd R.invar_BASE 0) s.clk.count
  match s.clk.prior with
  | some (base, offset, rate) =>
    if age ≤ since then timeOf (s.rd R.invar_OFFSET 0) + (since - age) * s.rd R.invar_RATE 0 / 2 ^ 32
    else timeOf offset + (ticksFrom base s.clk.count - age) * rate / 2 ^ 32
  | none => timeOf (s.rd R.invar_OFFSET 0) + (since - age) * s.rd R.invar_RATE 0 / 2 ^ 32

/-- Invar time now in whole nanoseconds, T of R18. -/
def State.nowNs (s : State) : Nat := s.now / 65536

/-- The slot in progress. -/
def State.slotNo (s : State) : Nat := s.clk.slot

/-- The first count, from `c` on, at which Invar time reaches `t` units of 2 to the minus 16 ns. -/
def State.countAt (s : State) (c t : Nat) : Nat :=
  let off := timeOf (s.rd R.invar_OFFSET 0)
  if t ≤ s.timeAt c then c
  else c + (ceilDiv ((t - off) * 2 ^ 32) (s.rd R.invar_RATE 0) - ticksFrom (s.rd R.invar_BASE 0) c)

/-- tclk periods in a number of nanoseconds (R26: 1.25 GHz), rounded up. -/
def ticksNs (ns : Nat) : Nat := ceilDiv (ns * 5) 4

/-- tclk periods in microseconds and in milliseconds. -/
def ticksUs (us : Nat) : Nat := us * 1250
def ticksMs (ms : Nat) : Nat := ms * 1250000

/-- A timer started at `since` has run for `n` ticks. -/
def State.past (s : State) (since n : Nat) : Bool := since + n ≤ s.clk.ticks

/-! ## Power domains (R580) -/

/-- A domain is on. AON is on while VAON is present. -/
def State.domOn (s : State) (d : Nat) : Bool := d == 0 || s.rd R.dom_DOMAIN_STATE d == 1

/-- CORE is on. -/
def State.coreOn (s : State) : Bool := s.domOn 4

/-- The domain that powers a fault source (R11, R554). -/
def sourceDomain (src : Nat) : Nat :=
  if src ≤ 1 then 0 else if src = 2 then 1 else if src = 3 then 2 else if src = 4 then 3
  else if src < 0x20 then 4 else if src < 0x30 then 5 + (src - 0x20) else if src < 0x40 then 13 + (src - 0x30)
  else if src < 0x50 then 21 + (src - 0x40) else 0

/-! ## Fault messages (R553, R556) -/

/-- A block sends the collector a message: held at its source, or discarded and counted when the 16 places are full. A block
whose domain is off sends nothing. -/
def State.fault (s : State) (src kind addr : Nat) : State :=
  if s.domOn (sourceDomain src) then
    let held := mget [] s.coll.held src
    if held.length < 16 then
      { s with coll := { s.coll with
          held := mput [] s.coll.held src (held ++ [⟨kind, addr % 2 ^ 40, false, s.clk.ticks⟩]) } }
    else s.bump32 R.src_LOST src
  else s

/-! ## Event rings (R539 to R543) -/

/-- The state of the event ring of a principal. -/
def State.ev (s : State) (p : Nat) : EvSt := mget EvSt.idle s.ep.events p

/-- The state with an event ring replaced. -/
def State.setEv (s : State) (p : Nat) (e : EvSt) : State :=
  { s with ep := { s.ep with events := mput EvSt.idle s.ep.events p e } }

/-- A setting of an event ring as its ENABLE 1 took it (R643). -/
def State.evCfg (s : State) (x : Reg) (p : Nat) : Nat := ((s.ev p).cfg[x.sub - 2]?).getD (s.rd x p)

/-- The configuration space of a function. -/
def State.conf (s : State) (fn : Nat) : FnConf := if fn = 0 then s.ep.conf0 else s.ep.conf1

/-- The state with a function's configuration space replaced. -/
def State.setConf (s : State) (fn : Nat) (c : FnConf) : State :=
  { s with ep := if fn = 0 then { s.ep with conf0 := c } else { s.ep with conf1 := c } }

/-- MSI-X is enabled in a function. -/
def State.msix (s : State) (fn : Nat) : Bool := (s.conf fn).msix

/-- A function may issue DMA: the link is up, it is in D0, and Bus Master Enable is set (R546). -/
def State.masters (s : State) (fn : Nat) : Bool := s.ep.linkUp && (s.conf fn).busMaster && !(s.conf fn).d3hot

/-- A vector is masked, by its table entry or by Function Mask (R530). -/
def FnConf.hides (c : FnConf) (v : Nat) : Bool :=
  c.maskAll || (match mfind c.vectors v with
    | some e => e.masked
    | none => true)

/-- The message of a vector goes out, or its pending bit is set while it is masked (R530). -/
def State.sendMsix (s : State) (fn v : Nat) : State :=
  if (s.conf fn).hides v then
    { s with ep := { s.ep with pendingBits := (fn, v) :: s.ep.pendingBits.filter (· != (fn, v)) } }
  else s.emit (.msix fn v)

/-- The pending bits of vectors that are no longer masked send their messages (R530). -/
def State.sendPending (s : State) : State :=
  let free (x : Nat × Nat) : Bool := s.msix x.1 && !(s.conf x.1).hides x.2
  let s1 := { s with ep := { s.ep with pendingBits := s.ep.pendingBits.filter (fun x => !free x) } }
  (s.ep.pendingBits.filter free).foldl (fun (t : State) x => t.emit (.msix x.1 x.2)) s1

/-- INTA follows its condition, by message, on a change (R543). -/
def State.interruptA (s : State) : State :=
  let e := s.ev 0
  let want := !(s.conf 0).intDisable && !s.msix 0 && s.rd R.ering_STATE 0 == 1 && e.prod != e.cons
  if want = s.ep.inta then s else { s with ep := { s.ep with inta := want } }.emit (.inta want)

/-- Free entries of an event ring. -/
def State.evFree (s : State) (p : Nat) : Nat :=
  s.evCfg R.ering_ENTRIES p - ((s.ev p).prod + 2 ^ 32 - (s.ev p).cons) % 2 ^ 32

/-- The eight words of an event record (R540). -/
def State.eventWords (s : State) (p code : Nat) (payload : List Nat) : List Word64 :=
  let e := s.ev p
  let phase := 1 - e.prod / s.evCfg R.ering_ENTRIES p % 2
  [phase * 2 ^ 63 + code * 2 ^ 40 + payload.length * 2 ^ 32 + e.seq, s.slotNo]
    ++ (payload ++ List.replicate (4 - payload.length) 0) ++ [stamp48 s.now * 2 ^ 16, 0]

/-- Write one event record, W0 last, and fire the ring's vector when it is armed (R540, R542, R544). -/
def State.putEvent (s : State) (p code : Nat) (payload : List Nat) : State :=
  let e := s.ev p
  let fn := s.evCfg R.ering_LOCATION p
  let addr := s.evCfg R.ering_BASE p + e.prod % s.evCfg R.ering_ENTRIES p * 64
  let ws := s.eventWords p code payload
  let s1 := (s.emit (.hostWrite fn (addr + 8) (ws.drop 1))).emit (.hostWrite fn addr (ws.take 1))
  let fire := e.armed && s.msix fn
  let e' := { e with prod := (e.prod + 1) % 2 ^ 32, seq := (e.seq + 1) % 2 ^ 32,
                     armed := e.armed && !fire }
  let s2 := s1.setEv p e'
  (if fire then s2.sendMsix fn (s.evCfg R.ering_VECTOR p) else s2).interruptA

/-- Discard an event and count it (R542). -/
def State.dropEvent (s : State) (p : Nat) : State :=
  (s.bump R.ering_EVENTS_DISCARDED p).setEv p { s.ev p with lost := (s.ev p).lost + 1 }

/-- Post OVERFLOW when events were discarded and two entries are free (R542). -/
def State.overflow (s : State) (p : Nat) : State :=
  let e := s.ev p
  if e.lost ≠ 0 ∧ 2 ≤ s.evFree p ∧ s.rd R.ering_STATE p = 1 ∧ s.masters (s.evCfg R.ering_LOCATION p) then
    (s.putEvent p 0x0022 [e.lost % 2 ^ 32]).setEv p { (s.putEvent p 0x0022 [e.lost % 2 ^ 32]).ev p with lost := 0 }
  else s

/-- Post an event to the event ring of a principal (R541, R542). -/
def State.event (s : State) (p code : Nat) (payload : List Nat) : State :=
  let s1 := s.overflow p
  if s1.rd R.ering_STATE p ≠ 1 ∨ !s1.masters (s1.evCfg R.ering_LOCATION p) ∨ s1.evFree p = 0 ∨ (s1.ev p).lost ≠ 0 then s1.dropEvent p
  else s1.putEvent p code payload

/-- A quotient that the manual leaves unrounded. -/
def openDiv (a b : Nat) : Nat := if a % b = 0 then a / b else a / b + b2n (Config.roundUp a b)

/-! ## ALIVE_OUT (R569) -/

/-- The heartbeat of a Pewter has arrived within HB_TIMEOUT (R570). -/
def State.beatPresent (s : State) (p : PewterSt) : Bool :=
  match p.lastBeat with
  | none => false
  | some t => !s.past t (ticksUs (s.rd R.coll_HB_TIMEOUT 0))

/-- ALIVE_STATE: the first cause that holds, in the order of R569; 0 while none does. -/
def State.aliveNow (s : State) : Nat :=
  if s.pwr.inReset then 4
  else if s.coll.badPairs.contains 0 then 3
  else if s.on R.coll_FATAL_LATCHED 0 then 1
  else if s.coll.started && !(s.beatPresent s.coll.pewterA || s.beatPresent s.coll.pewterB) then 2
  else if !s.coll.started then 5 else 0

/-- While a cause holds, ALIVE_OUT is low (R569). -/
def State.aliveUpdate (s : State) : State :=
  if s.aliveNow ≠ 0 ∧ s.coll.alive then { s with coll := { s.coll with alive := false } }.emit (.pin 0 0) else s

/-! ## Outcomes -/

/-- The outputs that follow a condition of the state, brought up to date after every command and tick: INTA (R543) and ALIVE_OUT (R569). -/
def State.settleOutputs (s : State) : State := s.interruptA.aliveUpdate

/-- The outcome of a command that every sender can give: the next state. -/
def completes (s : State) : Host.Outcome State Fault Refusal := .next s.settleOutputs

/-- The outcome of a command on a state `s` that its effect takes to `t`. A command whose operands no wire, pin or unit of the device can
carry reaches nothing in it: it has no effect (log entry 8). -/
def outcome (wf : Bool) (s t : State) : Host.Outcome State Fault Refusal := completes (if wf then t else s)

/-- The time of the present hold in reset, in ms, saturating (R590). -/
def State.heldMs (s : State) : Nat := min ((s.clk.ticks - s.pwr.resetSince) / 1250000) (2 ^ 32 - 1)

end Sys2Proof.Machine
end

