-- ==== Sys2Proof/Machine/Babbitt.lean ====
section
/-! DEFINITION. Babbitt, the far-tier arbiter (08_babbitt_arbiter.md): waiting transfers, transfer slots, completions. -/

namespace Sys2Proof.Machine

/-- Requester classes (R278). -/
def clsSpill : Nat := 1
def clsFill : Nat := 2
def clsWalk : Nat := 3
def clsUpdate : Nat := 4
def clsScrub : Nat := 5
def clsHost : Nat := 6
def clsTelem : Nat := 7

/-- The stack's domain is on and trained (R288). -/
def State.stackUp (s : State) (k : Nat) : Bool := s.on R.slots_STACK_UP k

/-! ## Addresses (R168, R240, R279) -/

/-- Packet pages of a stack, before any is withheld. -/
def State.pagesPerStack (s : State) : Nat := (16384 - 128 * s.rd R.store_TABLE_SHARE_GIB 0) * 256

/-- The first 64-byte unit of a packet page. -/
def pageUnit (page : Nat) : Nat := page % 2 ^ 22 * 64

/-- The 64-byte unit of a byte offset in a stack's table share. -/
def State.shareUnit (s : State) (off : Nat) : Nat := s.pagesPerStack * 64 + off / 64

/-- The channel of a unit (R279). -/
def unitChannel (u : Nat) : Nat := u % 24

/-! ## Requests -/

/-- The transfer slot in which a request that enters now may first contend, counted over all slots (R279). -/
def State.firstContend (s : State) : Nat :=
  s.clk.slot * 100 + (s.now - s.clk.slot * 64 * 65536) * 100 / (64 * 65536) + 1

/-- The transfers that wait at a stack. -/
def State.waitingAt (s : State) (k : Nat) : List Xfer := mget [] s.bab.waiting k

/-- The time of a stamp: 16 bits of 16 ns, which is 20 ticks (R281). -/
def State.stamp16 (s : State) : Nat := s.clk.ticks / 20 % 65536

/-- Present an access to Babbitt: one transfer request for each unit, all with one arrival time (R279). The access's number. -/
def State.farAccess (s : State) (owner : Acc2) (cls stack unit n : Nat) (write : Bool) : Nat × State :=
  let a := s.bab.nextAcc
  let xs := (List.range n).map (fun i => (⟨unit + i, write, s.stamp16, s.firstContend, a, cls, false⟩ : Xfer))
  (a, { s with bab := { s.bab with
    nextAcc := a + 1
    accs := mins s.bab.accs a ⟨owner, stack, n⟩
    waiting := mput [] s.bab.waiting stack (s.waitingAt stack ++ xs) } })

/-- An access whose transfers have all completed. -/
def State.accDone (s : State) (a : Nat) : Bool :=
  match mfind s.bab.accs a with
  | some x => x.left == 0
  | none => false

/-- The accesses of an owner. -/
def State.accsOf (s : State) (p : Acc2 → Bool) : List Nat :=
  (s.bab.accs.filter (fun e => p e.2.owner)).map (·.1)

/-- Forget an access and every transfer of it that still waits. -/
def State.dropAcc (s : State) (a : Nat) : State :=
  { s with bab := { s.bab with
      accs := mdel s.bab.accs a
      waiting := s.bab.waiting.map (fun e => (e.1, e.2.filter (fun x => x.acc != a)))
      taken := s.bab.taken.filter (fun t => t.x.acc != a) } }

/-! ## Arbitration (R280 to R282) -/

/-- Age of a request in units of 16 ns, saturating. -/
def State.age (s : State) (x : Xfer) : Nat := if x.old then 32767 else min 32767 ((s.stamp16 + 65536 - x.stamp) % 65536)

/-- Ages that have saturated stay so: noted at every slot boundary, long before a stamp of 16 bits comes round. -/
def State.saturateAges (s : State) : State :=
  { s with bab := { s.bab with waiting := s.bab.waiting.map (fun (e : Nat × List Xfer) =>
      (e.1, e.2.map (fun (x : Xfer) => if 32767 ≤ s.age x then { x with old := true } else x))) } }

/-- The class that owns transfer slot `g`, counted over all slots, of a channel of a stack (R280). -/
def State.slotClass (s : State) (stack channel g : Nat) : Nat :=
  let e := (g % 1638400 + 21 * channel) % 512
  bits (s.rd (R.slots_WORD0.at (e / 16)) stack) (4 * (e % 16) + 2) (4 * (e % 16))

/-- A request may take transfer slot `g` of a channel (R279, R282). -/
def State.eligible (s : State) (stack channel g : Nat) (x : Xfer) : Bool :=
  unitChannel x.unit == channel && decide (x.first ≤ g)
    && s.bab.taken.all (fun t => t.stack != stack || t.x.unit != x.unit)

/-- Order of preference of classes of equal age (R281). -/
def clsRank (c : Nat) : Nat :=
  match c with
  | 3 => 0 | 2 => 1 | 1 => 2 | 4 => 3 | 6 => 4 | 7 => 5 | _ => 6

/-- The better of two requests in background arbitration; the first one given arrived earlier. -/
def State.older (s : State) (a b : Xfer) : Xfer :=
  if s.age a < s.age b then b
  else if s.age a = s.age b ∧ clsRank b.cls < clsRank a.cls then b else a

/-- The request that takes transfer slot `g` of a channel, and whether its class owned the slot. -/
def State.arbitrate (s : State) (stack channel g : Nat) : Option (Xfer × Bool) :=
  let c := s.slotClass stack channel g
  let xs := (s.waitingAt stack).filter (s.eligible stack channel g)
  match (if c = 0 then none else xs.find? (fun x => x.cls == c)) with
  | some x => some (x, true)
  | none => match xs with
    | [] => none
    | x :: t => some (t.foldl s.older x, false)

/-- TRANSFER_SLOT (R279 to R281): transfer slot `t` of the present slot, on one channel of one stack. A slot of a channel that
has passed is not given again. While the stack is down its table takes effect on no transfer (R287). -/
def execTransferSlot (stack channel t : Nat) (s : State) : Host.Outcome State Fault Refusal :=
  let g := s.clk.slot * 100 + t
  let c := stack * 24 + channel
  outcome (stack < 8 && channel < 24 && t < 100) s <|
    if s.stackUp stack ∧ mget 0 s.bab.next c ≤ g then
      let s0 := { s with bab := { s.bab with next := mput 0 s.bab.next c (g + 1) } }
      match s.arbitrate stack channel g with
      | none => s0.bump R.slots_IDLE_TRANSFERS stack
      | some (x, owned) =>
        { s0 with bab := { s0.bab with
            waiting := mput [] s0.bab.waiting stack (lerase (fun y => y == x) (s0.waitingAt stack))
            taken := s0.bab.taken ++ [(⟨x, stack, channel, g⟩ : Taken)] } }.bump
          (if owned then R.bcls_OWNED else R.bcls_BACKGROUND) (8 * stack + x.cls)
    else s

/-- The Invar time, in units of 2 to the minus 16 ns, at which an accepted transfer completes (R279): a write as its slot ends,
a read 40 ns later. -/
def Taken.endsAt (t : Taken) : Nat :=
  (t.slot + 1) * 64 * 65536 / 100 + (if t.x.write then 0 else 40 * 65536)

/-- The accepted transfer of a channel that completes first. -/
def State.nextTaken (s : State) (stack channel : Nat) : Option Taken :=
  match s.bab.taken.filter (fun t => t.stack == stack && t.channel == channel) with
  | [] => none
  | t :: r => some (r.foldl (fun a b => if b.endsAt < a.endsAt then b else a) t)

/-- One transfer of an access has completed. -/
def State.accStep (s : State) (a : Nat) : State :=
  match mfind s.bab.accs a with
  | none => s
  | some x => { s with bab := { s.bab with accs := mins s.bab.accs a { x with left := x.left - 1 } } }

/-! ## Starvation (R284) -/

/-- One class of one stack sampled at a slot boundary. -/
def State.sampleClass (s : State) (stack cls : Nat) : State :=
  let i := 8 * stack + cls
  let xs := (s.waitingAt stack).filter (fun x => x.cls == cls)
  let a := (xs.map s.age).foldl max 0
  let s1 := ((s.wr R.bcls_WAITING i xs.length).wr R.bcls_AGE_OLDEST i a).raise R.bcls_AGE_MAX i a
  let thr := s.rd (R.thr_PKT_SPILL.at (cls - 1)) 0
  let starved := thr != 0 && decide (thr ≤ a) && !xs.isEmpty
  let rising := starved && !(bit (s.rd R.slots_STARVED stack) cls)
  if rising then
    (((s1.wr R.slots_STARVED stack (setBit (s1.rd R.slots_STARVED stack) cls true)).bump32 R.bcls_STARVE_EVENTS i).event 0
      0x0004 [stack * 2 ^ 56 + cls * 2 ^ 48 + a * 2 ^ 32]).fault 0x011 0x15 (stack * 16 + cls)
  else s1

/-- Every class of every stack sampled at a slot boundary. -/
def State.sampleBabbitt (s : State) : State :=
  s.saturateAges.each (List.range 8) (fun t k => if t.stackUp k then t.each [1, 2, 3, 4, 5, 6, 7] (fun u c => u.sampleClass k c) else t)

end Sys2Proof.Machine
end

