-- ==== Sys2Proof/Machine/Collector.lean ====
section
/-! DEFINITION. The fault collector, its log, the reaction timers, ALIVE_OUT and the Pewters (18_faults.md R553 to R572). -/

namespace Sys2Proof.Machine

/-! ## The log (R561, R562) -/

/-- Append a record: its number follows the newest, the oldest of 1,024 is overwritten and counted. -/
def State.logRecord (s : State) (src kind cls addr : Nat) (forced promoted : Bool) : State :=
  let seq := (s.rd R.coll_LOG_NEWEST 0 + 1) % 2 ^ 32
  let rec_ : LogRec :=
    ⟨seq * 2 ^ 32 + src * 2 ^ 20 + kind * 2 ^ 14 + cls * 2 ^ 12 + b2n forced * 2 ^ 11 + b2n promoted * 2 ^ 10,
     addr % 2 ^ 40 * 2 ^ 24, s.slotNo, stamp48 s.now * 2 ^ 16⟩
  let s1 := if 1024 ≤ s.coll.log.length then s.bump R.coll_LOG_OVERWRITTEN 0 else s
  { s1.wr R.coll_LOG_NEWEST 0 seq with coll := { s1.coll with log := (rec_ :: s1.coll.log).take 1024 } }

/-- The event of a SOFT, SEVERE or FATAL record: its four words (R563). -/
def State.recordEvent (s : State) : State :=
  match s.coll.log with
  | [] => s
  | r :: _ => s.event 0 0x0100 [r.w0, r.w1, r.w2, r.w3]

/-! ## Classification (R557, R558, R564) -/

/-- A SEVERE message starts its source's reaction when none is pending (R564). -/
def State.startReaction (s : State) (src kind addr : Nat) : State :=
  if s.rd R.src_REACT_STATE src = 1 then s
  else
    let s1 := ((s.wr R.src_REACT_STATE src 1).wr R.src_PENDING_SEQ src (s.rd R.coll_LOG_NEWEST 0)).wr R.coll_PENDING_COUNT 0
      (s.rd R.coll_PENDING_COUNT 0 + 1)
    { s1 with coll := { s1.coll with
        countdown := mput 0 s1.coll.countdown src (s.rd R.src_REACT_EPOCHS src)
        reactMsg := mput 0 s1.coll.reactMsg src (kind * 2 ^ 40 + addr) } }

/-- The reaction of a source ends: REACT_STATE returns to IDLE. -/
def State.endReaction (s : State) (src : Nat) : State :=
  let s1 := (s.wr R.src_REACT_STATE src 0).wr R.coll_PENDING_COUNT 0 (s.rd R.coll_PENDING_COUNT 0 - 1)
  { s1 with coll := { s1.coll with
      countdown := mdel s1.coll.countdown src, reactMsg := mdel s1.coll.reactMsg src } }

/-- The promotion window of a source for a SOFT message in epoch `e` (R558): whether it promotes, and the state after. -/
def State.promote (s : State) (src e : Nat) : Bool × State :=
  if !s.on R.src_PROMOTE_EN src then (false, s)
  else
    let w := s.rd R.src_WINDOW_COUNT src
    let fresh := w = 0 ∨ s.rd R.src_WINDOW src ≤ e - mget 0 s.coll.winStart src
    let s1 := if fresh then { s with coll := { s.coll with winStart := mput 0 s.coll.winStart src e } } else s
    let w' := (if fresh then 0 else w) + 1
    if s.rd R.src_N_LIMIT src ≤ w' then (true, s1.wr R.src_WINDOW_COUNT src 0)
    else (false, s1.wr R.src_WINDOW_COUNT src w')

/-- The collector classifies one message: counts, promotion, log, event, reaction timer, FATAL latch. The flag tells that
FATAL_ACTION has to run (R557, R568). -/
def State.classify (s : State) (src kind addr : Nat) (forced : Bool) : Bool × State :=
  let s1 := ((s.bump R.coll_MESSAGES 0).bump R.kind_MESSAGES kind).bump R.src_MESSAGES src
  let c := s.rd R.kind_CLASS kind
  let (up, s2) := if c = 1 then s1.promote src (s.slotNo / 16384) else (false, s1)
  let cls := if up then 2 else c
  let fixedNote := kind = 0x02 ∨ kind = 0x03 ∨ kind = 0x04 ∨ kind = 0x06
  if cls = 0 then
    (false, if s.on R.kind_LOG_NOTE kind ∨ fixedNote then s2.logRecord src kind 0 addr forced false else s2)
  else
    let s3 := (s2.logRecord src kind cls addr forced up).recordEvent
    if cls = 1 then (false, s3)
    else if cls = 2 then (false, s3.startReaction src kind addr)
    else (true, s3.wr R.coll_FATAL_LATCHED 0 1)

/-- A NOTE record that the collector makes of itself (BOOT, REACT_ACK, REACT_ESCALATE, MGMT_BACK). -/
def State.noteRecord (s : State) (kind addr : Nat) : State := (s.classify 0 kind addr false).2

/-- The present AON clock edge: the AON clock has a period of 40 ns, 50 ticks (R26). -/
def State.aonEdge (s : State) : Nat := s.clk.ticks / 50

/-- The sources that hold messages eligible at this AON clock edge: a message is held from the edge at or after its arrival, and
eligible from the edge after that one; none has been taken at this edge (R556). -/
def State.eligibleSources (s : State) : List Nat :=
  if s.aonEdge < s.coll.takenAt then []
  else (s.coll.held.filter (fun e => match e.2 with
    | [] => false
    | m :: _ => decide ((m.since + 49) / 50 < s.aonEdge))).map (·.1)

/-- The source served next, in round robin from the lowest after a reset (R556). -/
def State.nextSource (s : State) : Option Nat :=
  let l := s.eligibleSources
  match l.find? (fun x => decide (s.coll.rrNext ≤ x)) with
  | some x => some x
  | none => l.head?

/-! ## The Pewters (R570 to R572) -/

/-- Pewter 0 (A) or 1 (B). -/
def State.pewter (s : State) (p : Nat) : PewterSt := if p = 0 then s.coll.pewterA else s.coll.pewterB

/-- The state with a Pewter replaced. -/
def State.setPewter (s : State) (p : Nat) (x : PewterSt) : State :=
  if p = 0 then { s with coll := { s.coll with pewterA := x } } else { s with coll := { s.coll with pewterB := x } }

/-- STATE of a Pewter moves; each change posts PEWTER_CHANGE (R563). -/
def State.pewterState (s : State) (p st : Nat) : State :=
  if s.rd R.pewter_STATE p = st then s
  else (s.wr R.pewter_STATE p st).event 0 0x0101 [p * 2 ^ 56 + st * 2 ^ 48]

/-- The header of a firmware slot in flash (R598). -/
def flashOctets (s : State) (at_ n : Nat) : Octets := (List.range n).map (fun i => mget 0xFF s.pwr.flash (at_ + i))

/-- Offset of a firmware slot (R597). -/
def fwSlot (i : Nat) : Nat := if i = 0 then 0 else 0x00800000

/-- The header of a slot is readable: MAGIC, FORMAT and IMAGE_LEN valid (R598). -/
def fwHeaderOk (s : State) (i : Nat) : Bool :=
  let h := flashOctets s (fwSlot i) 12
  fieldAt h 0 4 == 0x4D4C5646 && fieldAt h 4 2 == 1 && decide (fieldAt h 8 4 ≤ 8 * 1024 * 1024)
    && decide (320 ≤ fieldAt h 8 4)

/-- FW_VERSION and FEATURE_LEVEL of a slot (R598). -/
def fwVersion (s : State) (i : Nat) : Nat := fieldAt (flashOctets s (fwSlot i) 16) 12 4
def fwLevel (s : State) (i : Nat) : Nat := fieldAt (flashOctets s (fwSlot i) 18) 16 2

/-- Bits of the live settings record [hi:lo] (R601). -/
def State.setting (s : State) (hi lo : Nat) : Nat := bits (s.pwr.otp.getD (s.rd R.ident_SETTINGS_GEN 0) 0) hi lo

/-- PUBLIC_KEY of a signature block, and its SIG_R and SIG_S (R160). -/
def blockKey (block : Octets) : Octets := slice block 8 97
def blockSig (block : Octets) : Octets := slice block 112 96

/-- SHA-384 of the block's PUBLIC_KEY equals the key hash of the live settings record (R161 step 3, R598). -/
def keyOk (s : State) (block : Octets) : Bool :=
  beNat (Config.sha384 (blockKey block)) % 2 ^ 384 == s.setting 2047 1664

/-- The signature verifies over the digest of every octet before the block (R160). -/
def sigOk (body block : Octets) : Bool :=
  fieldAt block 0 4 == 0x4D4C5653 && fieldAt block 4 2 == 256 && fieldAt block 6 2 == 1
    && Config.signatureValid (blockKey block) (Config.sha384 body) (blockSig block)

/-- A Pewter accepts a firmware slot (R598). -/
def fwSlotOk (s : State) (i : Nat) : Bool :=
  fwHeaderOk s i &&
    (let n := fieldAt (flashOctets s (fwSlot i) 12) 8 4
     let img := flashOctets s (fwSlot i) n
     keyOk s (img.drop (n - 256)) && sigOk (img.take (n - 256)) (img.drop (n - 256)))

/-- The slot a Pewter boots from: the higher FW_VERSION first, slot A on a tie; 2 when neither is accepted (R599). -/
def fwChoice (s : State) : Nat :=
  let first := if fwHeaderOk s 1 && (!fwHeaderOk s 0 || decide (fwVersion s 0 < fwVersion s 1)) then 1 else 0
  if fwSlotOk s first then first else if fwSlotOk s (1 - first) then 1 - first else 2

/-- Release a Pewter from reset to boot as standby: BOOTING, or DOWN when no slot is accepted (R570, R599). -/
def State.bootPewter (s : State) (p : Nat) : State :=
  let c := fwChoice s
  let x := s.pewter p
  let s1 := if x.everBooted then s.bump32 R.pewter_RESTARTS p else s
  let s2 := s1.setPewter p ⟨none, c == 2, if c = 2 then none else some s.clk.ticks, true, c, fwVersion s c, fwLevel s c⟩
  (s2.wr R.pewter_FW_VERSION p 0).pewterState p (if c = 2 then 4 else 1)

/-- The versions of the active Pewter's firmware shown in the identity object (R598, R76). -/
def State.showFirmware (s : State) : State :=
  let a := s.rd R.svc_ACTIVE_PEWTER 0
  if a = 0 then s.wr R.ident_FW_VERSION 0 0
  else
    let x := s.pewter (a - 1)
    (s.wr R.ident_FW_VERSION 0 x.version).wr R.ident_FEATURE_LEVEL 0 x.level

/-- A Pewter becomes active; service returns when it declares itself ready (R570). -/
def State.makeActive (s : State) (p : Nat) : State :=
  let s1 := (s.wr R.svc_ACTIVE_PEWTER 0 (p + 1)).wr R.svc_SERVICE_STATE 0 0
  (s1.pewterState p 3).showFirmware

/-- No Pewter is active. -/
def State.noActive (s : State) : State :=
  ((s.wr R.svc_ACTIVE_PEWTER 0 0).wr R.svc_SERVICE_STATE 0 0).showFirmware

/-- A running Pewter writes its heartbeat (R570, R571): a booting one becomes standby, or active when none is; after MGMT_LOST the writer
becomes active and MGMT_BACK is logged. -/
def State.heartbeat (s : State) (p : Nat) : State :=
  if !s.domOn (1 + p) || (s.pewter p).held || s.rd R.pewter_STATE p == 0 then s
  else
    let s1 := (s.bump R.pewter_HEARTBEATS p).setPewter p { s.pewter p with lastBeat := some s.clk.ticks }
    let s2 := { s1 with coll := { s1.coll with started := true } }
    let s3 := if s.rd R.pewter_STATE p = 1 then
        (s2.wr R.pewter_FW_VERSION p (s.pewter p).version).pewterState p 2 else s2
    if s.rd R.svc_ACTIVE_PEWTER 0 = 0 then
      let s4 := s3.makeActive p
      if s.coll.mgmtLost then { s4 with coll := { s4.coll with mgmtLost := false } }.noteRecord 0x06 p else s4
    else s3

/-- PEWTER_HEARTBEAT (R570, R571). -/
def execPewterHeartbeat (p : Nat) (s : State) : Host.Outcome State Fault Refusal := outcome (p < 2) s (s.heartbeat p)

/-- A Pewter's heartbeat is missing (R570, R571): the standby takes over, the standby is restarted, or MGMT_LOST is declared; declared
too where neither Pewter runs any more, one being off, booting or DOWN. The flag tells that FATAL_ACTION has to run. -/
def State.beatMissing (s : State) (p : Nat) : Bool × State :=
  let x := s.pewter p
  let q := 1 - p
  let up (n : Nat) : Bool := s.rd R.pewter_STATE n == 2 || s.rd R.pewter_STATE n == 3
  if !up p && !up q && s.coll.started && !s.coll.mgmtLost && !s.beatPresent x && !s.beatPresent (s.pewter q) then
    let (f, s1) := s.classify 0 0x05 0 false
    (f, { s1 with coll := { s1.coll with mgmtLost := true } }.noActive)
  else if !up p || x.held || s.beatPresent x then (false, s)
  else if up q && s.beatPresent (s.pewter q) then
    let active := s.rd R.svc_ACTIVE_PEWTER 0 == p + 1
    let (f, s1) := s.classify (2 + p) 0x07 (b2n active) false
    let s2 := if active then (s1.makeActive q).bump32 R.pewter_TAKEOVERS q else s1
    (f, s2.bootPewter p)
  else
    let (f, s1) := s.classify 0 0x05 0 false
    let s2 := { s1 with coll := { s1.coll with mgmtLost := true } }.noActive
    let s3 := s2.bootPewter p
    (f, if up q then s3.bootPewter q else s3)

/-- PEWTER_READY (R570): the new active Pewter declares itself ready; SERVICE_STATE reads FULL. -/
def execPewterReady (p : Nat) (s : State) : Host.Outcome State Fault Refusal :=
  outcome (p < 2) s <|
    if s.rd R.svc_ACTIVE_PEWTER 0 = p + 1 then
      s.wr R.svc_SERVICE_STATE 0 1
    else s

/-- BOOT_TIMEOUT (R570): a released Pewter without a heartbeat is left in reset, DOWN. -/
def execBootTimeout (p : Nat) (s : State) : Host.Outcome State Fault Refusal :=
  outcome (p < 2) s <|
    match (s.pewter p).released with
    | none => s
    | some t =>
      if s.rd R.pewter_STATE p = 1 ∧ s.past t (ticksMs (s.rd R.coll_BOOT_TIMEOUT 0)) then
        (s.setPewter p { s.pewter p with held := true, released := none }).pewterState p 4
      else s

/-- A SWITCHOVER takes effect: the standby becomes active without a record, the old active restarts as standby (R572). -/
def State.switchover (s : State) (p : Nat) : State :=
  if s.rd R.pewter_STATE p = 2 ∧ s.rd R.pewter_STATE (1 - p) = 3 then
    ((s.makeActive p).bump32 R.pewter_TAKEOVERS p).bootPewter (1 - p)
  else s

/-- The domain of a Pewter goes off: OFF, with a takeover when it was active and the other's heartbeat is present (R566). -/
def State.pewterOff (s : State) (p : Nat) : State :=
  let q := 1 - p
  let s1 := (s.setPewter p { PewterSt.off with lastBeat := (s.pewter p).lastBeat, everBooted := (s.pewter p).everBooted }).pewterState p 0
  if s.rd R.svc_ACTIVE_PEWTER 0 = p + 1 then
    if s.rd R.pewter_STATE q = 2 ∧ s.beatPresent (s.pewter q) then
      (s1.makeActive q).bump32 R.pewter_TAKEOVERS q
    else s1.noActive
  else s1

/-- ALIVE_OUT_TOGGLE (R569): every 1,250 AON clock periods, while every condition holds, the driver toggles the pin. -/
def execAliveOutToggle (s : State) : Host.Outcome State Fault Refusal :=
  completes (
    if s.aliveNow = 0 ∧ s.past s.coll.aliveSince (1250 * 50) then
      { s with coll := { s.coll with alive := !s.coll.alive, aliveSince := s.clk.ticks } }.emit (.pin 0 (b2n (!s.coll.alive)))
    else s)

end Sys2Proof.Machine
end

