-- ==== Sys2Proof/Machine/Store.lean ====
section
/-! DEFINITION. The central store (07_central_store.md): pools, admission, queues, spill and fill, ECN, replication, priority flow
control, poisoned cells and retired pages. -/

namespace Sys2Proof.Machine

/-! ## Queues -/

/-- Keys of queues, laid out as 0x5018.01 (R273). -/
def voqKey (i : Nat) : Nat := i
def egKey (i : Nat) : Nat := 0x40000000 + i
def hostKey (i : Nat) : Nat := 0x80000000 + i

def State.queue (s : State) (q : Nat) : Queue := mget Queue.empty s.sto.queues q
def State.setQueue (s : State) (q : Nat) (x : Queue) : State :=
  { s with sto := { s.sto with queues := mput Queue.empty s.sto.queues q x } }

def State.pkt? (s : State) (pid : Nat) : Option Pkt := mfind s.sto.pkts pid
def State.setPkt (s : State) (pid : Nat) (p : Pkt) : State := { s with sto := { s.sto with pkts := mins s.sto.pkts pid p } }

/-- FRAME_LENGTH of a packet (R91) and its store cells (R238). -/
def Pkt.len (p : Pkt) : Nat := p.frame.length
def cellsFor (len words : Nat) : Nat := ceilDiv (len + 8 * words) 256

/-- Every cell of a queue, front first: the packet it belongs to and its number in the packet. -/
def State.cellsOf (s : State) (q : Nat) : List (Nat × Nat) :=
  (s.queue q).ents.flatMap (fun e => match s.pkt? e.pid with
    | none => []
    | some p => (List.range p.cells).map (fun i => (e.pid, i)))

/-- The same cells, each with the place of its replica in the queue. -/
def State.replicaCells (s : State) (q : Nat) : List (Nat × Nat) :=
  (s.queue q).ents.zipIdx.flatMap (fun e => match s.pkt? e.1.pid with
    | none => []
    | some p => (List.range p.cells).map (fun i => (e.2, i)))

/-- Where a cell of a queue stands: its near state, or none when only a page holds it. Cells of a page whose spill write is not
complete are near (R254), and so are those of a filled page that waits to join (R255). -/
def Page.places (p : Page) : List (Option Nat) :=
  if p.state = 0 ∨ p.state = 3 ∨ p.state = 4 then p.near.map some else List.replicate 16 none

/-- The places of a queue's cells, front first. -/
def Queue.places (x : Queue) : List (Option Nat) :=
  x.head.map some ++ x.pages.flatMap Page.places ++ x.tail.map some

/-- The near cells of a queue (R248): each with its packet and near state. -/
def State.nearCells (s : State) (q : Nat) : List ((Nat × Nat) × Nat) :=
  ((s.cellsOf q).zip (s.queue q).places).filterMap (fun x => x.2.map (fun c => (x.1, c)))

/-- A cell counts in the near tier unless it went with its stack. -/
def State.nearCount (s : State) (q : Nat) : Nat := ((s.nearCells q).filter (fun x => x.2 != 3)).length

/-- Uq: near cells of a queue charged to the shared pool (R248). -/
def State.sharedCount (s : State) (q : Nat) : Nat :=
  ((s.nearCells q).filter (fun x => x.2 == 0 && (match s.pkt? x.1.1 with
    | some p => p.pool == 4
    | none => false))).length

/-- Pq: pages written or being written and not yet freed (R248). -/
def State.pageCount (s : State) (q : Nat) : Nat :=
  ((s.queue q).pages.filter (fun p => p.state < 3 && !p.lost)).length

/-- Dq (R248). -/
def State.depth (s : State) (q : Nat) : Nat := s.nearCount q + 16 * s.pageCount q

/-! ## Pools (R247) -/

/-- A register summed over its instances, `n` of them with default `d`. -/
def State.sumReg (s : State) (r : Reg) (n d : Nat) : Nat :=
  (s.dict.filter (fun e => keyIndex e.1 == r.index && keySub e.1 == r.sub)).foldl (fun a e => a + e.2 - d) (n * d)

/-- Size of the shared pool (R247), for given figures. -/
def State.sharedSize (s : State) : Nat :=
  1572864 - s.sumReg R.ptc_PORT_MIN 6144 16 - s.sumReg R.ptc_HEADROOM 6144 0 - s.sumReg R.tstore_TENANT_MIN 4096 0
    - 256 * s.rd R.store_HOST_Q_CELLS 0 - s.rd R.store_FILL_RESERVE 0 - s.rd R.store_TRANSIT_CELLS 0

/-- Names of the pools of R247 that belong to a port-TC pair or a tenant, as `freedMin` keys them: pool 0, 1 or 2, and the instance. -/
def minKey (pool n : Nat) : Nat := pool * 2 ^ 16 + n

/-- Cells of such a pool released since the last boundary, which are not free before the next (R249). -/
def State.freedOf (s : State) (pool n : Nat) : Nat := mget 0 s.sto.freedMin (minKey pool n)

/-- Shared cells free now, the actual count (R250): a cell released during a slot counts from the next boundary on (R249). -/
def State.sharedFreeNow (s : State) : Nat := s.sharedSize - s.sto.sharedUsed - s.sto.freed

/-- Packet pages in service on a stack (R240), and those free. -/
def State.stackPages (s : State) (k : Nat) : Nat :=
  s.pagesPerStack - (s.sto.withheld.filter (fun p => p / 2 ^ 22 == k && decide (p % 2 ^ 22 < s.pagesPerStack))).length
def State.stackFree (s : State) (k : Nat) : Nat :=
  s.stackPages k - ((s.sto.pagesUsed ++ s.sto.pagesFreed).filter (fun p => p / 2 ^ 22 == k)).length
def State.farPages (s : State) : Nat := (List.range 8).foldl (fun a k => a + s.stackPages k) 0
def State.farFreeNow (s : State) : Nat := (List.range 8).foldl (fun a k => a + s.stackFree k) 0

/-- Free cells of the fill reserve. -/
def State.fillFreeNow (s : State) : Nat := s.rd R.store_FILL_RESERVE 0 - s.sto.fillUsed - s.sto.fillFreed

/-! ## Dynamic limits (R249) -/

/-- 2 to the k times n, k signed, floored. -/
def scaled (k : Int) (n : Nat) : Nat := if k < 0 then n / 2 ^ k.natAbs else n * 2 ^ k.natAbs

/-- The profile of a queue (R249). -/
def State.profile (s : State) (q : Nat) : Nat :=
  if qKind q = 0 then bits (s.rd R.store_VOQ_PROFILE_MAP 0) (5 * (q % 8) + 4) (5 * (q % 8))
  else s.rd R.ptc_EGQ_PROFILE (qIndex q)

/-- NLq and FLq, from the last boundary's samples. -/
def State.nearLimit (s : State) (q : Nat) : Nat :=
  scaled (s.rdI R.qprof_ALPHA_NEAR (s.profile q)) (s.rd R.store_SHARED_FREE 0)
def State.farLimit (s : State) (q : Nat) : Nat :=
  scaled (s.rdI R.qprof_ALPHA_FAR (s.profile q)) (s.rd R.store_FAR_FREE 0)

/-- The spill-on level and the spill backlog limit (R249). -/
def State.spillOn (s : State) (q : Nat) : Nat := s.nearLimit q * 7 / 8
def State.backlogLimit (s : State) (q : Nat) : Nat := s.nearLimit q * 5 / 4

/-! ## Ports as pairs (R261) -/

/-- A port that uses IEEE 802.3x pause is accounted as one pair, that of t = 0. -/
def State.pairOf (s : State) (pt : Nat) : Nat := if s.rd R.psch_FLOW_MODE (pt / 8) = 2 then pt / 8 * 8 else pt
def State.lossless (s : State) (pt : Nat) : Bool := s.on R.ptc_LOSSLESS (s.pairOf pt)
def State.headroomFree (s : State) (pt : Nat) : Nat :=
  s.rd R.ptc_HEADROOM (s.pairOf pt) - s.rd R.ptc_HEADROOM_USED (s.pairOf pt) - s.freedOf 1 (s.pairOf pt)

/-- Ipt as the XOFF test sums it. -/
def State.pairShared (s : State) (pt : Nat) : Nat :=
  if s.rd R.psch_FLOW_MODE (pt / 8) = 2 then
    (List.range 8).foldl (fun a t => a + s.rd R.ptc_IN_SHARED (pt / 8 * 8 + t)) 0
  else s.rd R.ptc_IN_SHARED pt

/-- The XOFF limit of a pair (R249). -/
def State.xoffLimit (s : State) (pt : Nat) : Nat :=
  scaled (s.rdI R.ptc_ALPHA_PFC (s.pairOf pt)) (s.rd R.store_SHARED_FREE 0)

/-- XOFF of one pair set or cleared at a boundary (R261). -/
def State.evalXoff (s : State) (pt : Nat) : State :=
  if s.lossless pt ∧ s.pairOf pt = pt then
    let lim := s.xoffLimit pt
    let i := s.pairShared pt
    if s.on R.ptc_XOFF pt then (if i ≤ lim - s.rd R.ptc_XON_DELTA pt then s.wr R.ptc_XOFF pt 0 else s)
    else if lim ≤ i then (s.wr R.ptc_XOFF pt 1).bump R.ptc_XOFF_COUNT pt
    else s
  else s.wr R.ptc_XOFF pt 0

/-- The pairs whose dictionary entries differ from their defaults: no other pair is lossless or asserts XOFF. -/
def State.activePairs (s : State) : List Nat :=
  ((s.dict.filter (fun e => keyIndex e.1 == 0x5010 && keySub e.1 == 3 || keyIndex e.1 == 0x5010 && keySub e.1 == 0x0A)).map
    (fun e => keyInst e.1)).eraseDups

/-! ## Drops (R263, R264) -/

/-- A packet or replica dropped by the queue manager: counted under its reason, its queue and its tenant. -/
def State.qmDrop (s : State) (reason len : Nat) (q tenant : Option Nat) : State :=
  let s1 := (s.bump R.dropc_PACKETS reason).add R.dropc_BYTES reason len
  let s2 := match q with
    | none => s1
    | some q =>
      let s1 := s1.setQueue q { s1.queue q with drops := ((s1.queue q).drops + 1) % 2 ^ 64 }
      if qKind q = 1 then s1.bump R.ptc_EGQ_DROPS (qIndex q) else s1
  match tenant with
  | some t => if reason = 4 ∨ reason = 5 then s2.bump R.tstore_DROPS t else s2
  | none => s2

/-- A packet counted under a mark reason: once per reason, also where several of its replicas are marked (R265). -/
def State.countMark (s : State) (m pid : Nat) (p : Pkt) : State :=
  if p.marked.contains m then s
  else
    let s1 := match s.pkt? pid with
      | some k => s.setPkt pid { k with marked := m :: k.marked }
      | none => s
    (s1.bump R.markc_PACKETS m).add R.markc_BYTES m p.len

/-! ## The admission decision (R250 to R252) -/

/-- How a packet comes to admission: through an ingress pipeline, from fabric cells, or from neither (R250, R251, R252). -/
inductive Entry where
  | ingress (pt tenant : Nat)
  | fabric
  | direct
deriving DecidableEq, Repr

/-- The outcome: a pool, or a drop reason. -/
inductive Verdict where
  | accept (pool : Nat)
  | drop (reason : Nat)
deriving DecidableEq, Repr

/-- The pipeline group that serves a queue's port is RUNNING; a VOQ and a host queue name no port of this device. -/
def State.groupRuns (s : State) (q : Nat) : Bool := qKind q != 1 || s.rd R.grp_STATE (qIndex q / 8 / 96) == 3

/-- Steps 9 to 15 of the decision. -/
def State.admitQueue (s : State) (q c : Nat) (tenant : Option Nat) : Verdict :=
  let u := s.sharedCount q
  if u + c ≤ s.nearLimit q then .accept 4
  else if !s.on R.qprof_SPILL_EN (s.profile q) then .drop 1
  else if s.farLimit q ≤ s.pageCount q then .drop 2
  else if s.rd R.store_FAR_FREE 0 = 0 ∨ (List.range 8).all (fun k => !s.stackUp k || s.stackFree k == 0) then .drop 3
  else if (match tenant with
      | some t => decide (scaled (s.rdI R.tstore_ALPHA_FAR t) (s.rd R.store_FAR_FREE 0) ≤ s.rd R.tstore_FAR_PAGES t)
      | none => false) then .drop 5
  else if s.backlogLimit q < u + c then .drop 1
  else .accept 4

/-- A lossless packet takes headroom, or is dropped (R250 step 5). -/
def State.admitHeadroom (s : State) (pt c : Nat) : Verdict := if c ≤ s.headroomFree pt then .accept 1 else .drop 7

/-- The admission decision. -/
def State.admission (s : State) (q c : Nat) (e : Entry) : Verdict :=
  if qKind q = 2 then (if s.nearCount q + c ≤ s.rd R.store_HOST_Q_CELLS 0 then .accept 3 else .drop 8)
  else if !s.groupRuns q then .drop 9
  else match e with
    | .fabric => if s.sharedFreeNow < c then .drop 6 else .accept 4
    | .direct => if s.sharedFreeNow < c then .drop 6 else s.admitQueue q c none
    | .ingress pt t =>
      if mget 0 s.sto.portMinUsed pt + s.freedOf 0 pt + c ≤ s.rd R.ptc_PORT_MIN pt then .accept 0
      else if mget 0 s.sto.tenantMinUsed t + s.freedOf 2 t + c ≤ s.rd R.tstore_TENANT_MIN t then .accept 2
      else if s.lossless pt ∧ s.on R.ptc_XOFF (s.pairOf pt) then s.admitHeadroom pt c
      else if s.sharedFreeNow < c then (if s.lossless pt then s.admitHeadroom pt c else .drop 6)
      else if s.lossless pt then .accept 4
      else if scaled (s.rdI R.tstore_ALPHA_NEAR t) (s.rd R.store_SHARED_FREE 0) < s.rd R.tstore_NEAR_USED t + c then .drop 4
      else s.admitQueue q c (some t)

/-! ## Charging and releasing (R248) -/

/-- The pair that a packet's cells are charged to: in headroom the one that its port-TC was accounted under as it was admitted, whatever
FLOW_MODE becomes later (R248, R261). -/
def State.chargedPair (s : State) (pool pt : Nat) : Nat := if pool = 1 then s.pairOf pt else pt

/-- Cells charged to, or released from, a pool: `f` adds or subtracts. -/
def State.chargeWith (s : State) (f : Nat → Nat) (pool : Nat) (inPt tenant : Option Nat) : State :=
  match pool with
  | 0 => match inPt with
    | some pt => { s with sto := { s.sto with portMinUsed := mput 0 s.sto.portMinUsed pt (f (mget 0 s.sto.portMinUsed pt)) } }
    | none => s
  | 1 => match inPt with
    | some pt => s.wr R.ptc_HEADROOM_USED pt (f (s.rd R.ptc_HEADROOM_USED pt))
    | none => s
  | 2 => match tenant with
    | some t => { s with sto := { s.sto with
        tenantMinUsed := mput 0 s.sto.tenantMinUsed t (f (mget 0 s.sto.tenantMinUsed t)) } }
    | none => s
  | 4 =>
    let s1 := { s with sto := { s.sto with sharedUsed := f s.sto.sharedUsed } }
    let s2 := match inPt with
      | some pt => s1.wr R.ptc_IN_SHARED pt (f (s1.rd R.ptc_IN_SHARED pt))
      | none => s1
    match tenant with
    | some t => s2.wr R.tstore_NEAR_USED t (f (s2.rd R.tstore_NEAR_USED t))
    | none => s2
  | _ => s

/-- A cell of a pool is free only from the next boundary on (R249). -/
def State.noteFreed (s : State) (pool : Nat) (inPt tenant : Option Nat) : State :=
  let later (n : Nat) : State :=
    { s with sto := { s.sto with freedMin := mput 0 s.sto.freedMin (minKey pool n) (s.freedOf pool n + 1) } }
  match pool, inPt, tenant with
  | 0, some pt, _ | 1, some pt, _ => later pt
  | 2, _, some t => later t
  | 4, _, _ => { s with sto := { s.sto with freed := s.sto.freed + 1 } }
  | _, _, _ => s

/-- A cell given back to its pool. -/
def State.giveBack (s : State) (pool : Nat) (inPt tenant : Option Nat) : State :=
  (s.chargeWith (· - 1) pool inPt tenant).noteFreed pool inPt tenant

/-- Places of the fill reserve given back: free from the next boundary on (R249). -/
def State.giveFill (s : State) (n : Nat) : State :=
  { s with sto := { s.sto with fillUsed := s.sto.fillUsed - n, fillFreed := s.sto.fillFreed + n } }

/-- One near reference to cell `i` of a packet goes; with the last, the cell's charge is released. -/
def State.releaseOwn (s : State) (pid i : Nat) : State :=
  match s.pkt? pid with
  | none => s
  | some p =>
    let r := p.refs.getD i 0
    let s1 := s.setPkt pid { p with refs := p.refs.set i (r - 1) }
    if r = 1 then s1.giveBack p.pool p.inPt p.tenant else s1

/-- A near cell leaves a queue: its own, or a place of the fill reserve. -/
def State.releaseCell (s : State) (pid i near : Nat) : State :=
  if near = 0 then s.releaseOwn pid i
  else if near = 3 then s
  else s.giveFill 1

/-- One replica of a packet has left; with the last, the packet is gone. -/
def State.unlink (s : State) (pid : Nat) : State :=
  match s.pkt? pid with
  | none => s
  | some p =>
    if p.links ≤ 1 then { s with sto := { s.sto with pkts := mdel s.sto.pkts pid } }
    else s.setPkt pid { p with links := p.links - 1 }

/-- Replication of a packet has ended: the reference that held its cells for replicas still to come goes (R246). -/
def State.endRepl (s : State) (pid : Nat) : State :=
  match s.pkt? pid with
  | none => s
  | some p => (s.each (List.range p.cells) (fun t i => t.releaseOwn pid i)).unlink pid

/-! ## Stalls (R256) -/

/-- Cells of the packet at the front of a queue. -/
def State.frontCells (s : State) (q : Nat) : Nat :=
  match (s.queue q).ents with
  | [] => 0
  | e :: _ => match s.pkt? e.pid with
    | some p => p.cells
    | none => 0

/-- The queue's next packet has a cell in a page that has not joined the head. -/
def State.stalledNow (s : State) (q : Nat) : Bool :=
  !(s.queue q).pages.isEmpty && decide ((s.queue q).head.length < s.frontCells q)

/-- STALLED and the counts of a queue brought up to date. -/
def State.restall (s : State) (q : Nat) : State :=
  let now := s.stalledNow q
  let s1 := if now ∧ ¬ (s.queue q).stalled then s.bump R.store_HEAD_STALLS 0 else s
  let s2 := s1.setQueue q { s1.queue q with stalled := now }
  if qKind q = 1 then
    let s3 := (s2.wr R.ptc_EGQ_CELLS (qIndex q) (s2.nearCount q)).wr R.ptc_EGQ_PAGES (qIndex q) (s2.pageCount q)
    -- an empty queue has no deficit (R301)
    if (s3.queue q).ents.isEmpty then s3.wr R.tcsch_DEFICIT (qIndex q) 0 else s3
  else s2

/-! ## ECN marking (R259, R260) -/

/-- The powers of x, the constant apart, in the polynomials of the 16-bit register (R259) and of the 32-bit ones (R501). -/
def lfsrTaps (w : Nat) : List Nat := if w = 16 then [16, 14, 13, 11] else [32, 22, 2, 1]

/-- One advance of a linear-feedback shift register of `w` bits under its polynomial. The manual gives the polynomial and not the form:
the feedback enters at the end (0, 1) or between the bits (2, 3), and the register shifts right (0, 2) or left (1, 3). -/
def lfsrStep (form w v : Nat) : Nat :=
  let taps := lfsrTaps w
  let parity (at_ : Nat → Nat) : Nat := (taps.filter (fun e => v.testBit (at_ e))).length % 2
  let mask (at_ : Nat → Nat) : Nat := taps.foldl (fun a e => a + 2 ^ at_ e) 0
  match form with
  | 0 => v / 2 + 2 ^ (w - 1) * parity (fun e => w - e)
  | 1 => v * 2 % 2 ^ w + parity (fun e => e - 1)
  | 2 => if v % 2 = 1 then Nat.xor (v / 2) (mask (fun e => e - 1)) else v / 2
  | _ => if v.testBit (w - 1) then Nat.xor (v * 2 % 2 ^ w) ((mask (fun e => e) + 1) % 2 ^ w) else v * 2

/-- The next value of a shift register of `w` bits (R259, R501). -/
def lfsrNext (w v : Nat) : Nat := lfsrStep (Config.lfsrForm % 4) w v

/-- Whether a packet that joins a queue of a depth is marked. -/
def State.ecn (s : State) (q depth : Nat) : Bool × State :=
  let f := s.profile q
  let lo := s.rd R.qprof_ECN_MIN f
  let hi := s.rd R.qprof_ECN_MAX f
  if qKind q = 2 ∨ !s.on R.qprof_ECN_EN f ∨ depth < lo then (false, s)
  else if hi ≤ depth then (true, s)
  else
    let v := lfsrNext 16 s.sto.lfsr
    (decide (v < 256 * s.rd R.qprof_ECN_PMAX f * (depth - lo) / (hi - lo)),
      { s with sto := { s.sto with lfsr := v } })

/-! ## Linking packets -/

/-- New cells join the tail of a queue, whatever its segments (R253). -/
def Queue.link (x : Queue) (e : QEnt) (cells : Nat) : Queue :=
  let more := List.replicate cells 0
  if x.pages.isEmpty then { x with ents := x.ents ++ [e], head := x.head ++ more }
  else { x with ents := x.ents ++ [e], tail := x.tail ++ more }

/-- A packet takes a place in the store, as one that awaits its links. -/
def State.newPkt (s : State) (p : Pkt) : Nat × State :=
  (s.sto.nextPid, { s.setPkt s.sto.nextPid p with sto := { (s.setPkt s.sto.nextPid p).sto with nextPid := s.sto.nextPid + 1 } })

/-- Admit one replica of a packet to a queue (R246, R250): dropped, or linked, charged once and marked. Whether it was linked. -/
def State.linkTo (s : State) (pid q repl tc dest : Nat) (e : Entry) : Bool × State :=
  match s.pkt? pid with
  | none => (false, s)
  | some p =>
    match s.admission q p.cells e with
    | .drop r => (false, s.qmDrop r p.len (some q) (match e with
        | .ingress _ t => some t
        | _ => none))
    | .accept pool =>
      let (inPt, tenant) := match e with
        | .ingress pt t => (some (s.chargedPair pool pt), some t)
        | _ => (none, none)
      let d := s.depth q
      let (m, s1) := s.ecn q d
      let first := p.pool == 5
      let s2 := if first then s1.chargeWith (· + p.cells) pool inPt tenant else s1
      let s3 := s2.setPkt pid { p with
        pool := if first then pool else p.pool
        inPt := if first then inPt else p.inPt
        tenant := if first then tenant else p.tenant
        refs := p.refs.map (· + 1)
        links := p.links + 1 }
      let s4 := s3.setQueue q { (s3.queue q).link ⟨pid, repl, tc, m, min d (2 ^ 24 - 1), false, stamp48 s.now, dest, []⟩ p.cells with
        marks := if m then ((s3.queue q).marks + 1) % 2 ^ 64 else (s3.queue q).marks }
      (true, ((if m then s4.countMark 1 pid p else s4)).restall q)

/-- Place a packet with one destination queue in the store (R250). Whether it was admitted. -/
def State.store1 (s : State) (p : Pkt) (q : Nat) (e : Entry) : Bool × State :=
  let (pid, s1) := s.newPkt { p with pool := 5, refs := List.replicate p.cells 0, links := 0 }
  let (ok, s2) := s1.linkTo pid q 0 p.tc p.dest e
  if ok then (true, s2) else (false, { s2 with sto := { s2.sto with pkts := mdel s2.sto.pkts pid } })

/-! ## Leaving a queue (R248, R256) -/

/-- The front packet of a queue may be dequeued: written or cut through, and not stalled. -/
def State.frontReady (s : State) (q : Nat) (cutThrough : Pkt → Bool) : Bool :=
  !s.stalledNow q && match (s.queue q).ents with
    | [] => false
    | e :: _ => match s.pkt? e.pid with
      | some p => !e.dead && (p.tailIn || cutThrough p)
      | none => false

/-- Octets from place `base` of a packet's stored octets on, with the words of a list zero. -/
def zeroWords (base : Nat) (ws : List Nat) (o : Octets) : Octets :=
  o.zipIdx.map (fun b => if ws.contains ((base + b.2) / 8) then 0 else b.1)

/-- A packet as a replica of it reads: the words that a fill wrote back as zero are zero (R267). -/
def QEnt.reads (e : QEnt) (p : Pkt) : Pkt :=
  if e.zeroed.isEmpty then p
  else { p with
    words := p.words.zipIdx.map (fun x => if e.zeroed.contains x.2 then 0 else x.1)
    frame := zeroWords (8 * p.words.length) e.zeroed p.frame }

/-- Take the front replica off a queue: its cells are released. The replica, its packet as it stood, and the near states of its
cells (R248, R267). -/
def State.dequeue (s : State) (q : Nat) : Option (QEnt × Pkt × List Nat) × State :=
  match (s.queue q).ents with
  | [] => (none, s)
  | e :: rest =>
    match s.pkt? e.pid with
    | none => (none, s.setQueue q { s.queue q with ents := rest })
    | some p =>
      let near := (s.queue q).head.take p.cells
      let s1 := s.each near.zipIdx (fun t c => t.releaseCell e.pid c.2 c.1)
      let x := s1.queue q
      let s2 := s1.setQueue q { x with ents := rest, head := x.head.drop p.cells }
      (some (e, e.reads p, near), (s2.unlink e.pid).restall q)

/-- Dead replicas that have reached the head leave it. -/
def skipDead : Nat → Nat → State → State
  | 0, _, s => s
  | n + 1, q, s =>
    match (s.queue q).ents with
    | e :: _ => if e.dead ∧ !s.stalledNow q then skipDead n q (s.dequeue q).2 else s
    | [] => s

/-- A queue brought to rest after a change: dead replicas out, counts and stalls up to date. -/
def State.settle (s : State) (q : Nat) : State := (skipDead ((s.queue q).ents.length) q s).restall q

/-- The poisoned cells a dequeue met: the packet is tail-marked bad (R266, R267, R12). -/
def badNear (near : List Nat) : Bool := near.any (fun c => c == 2 || c == 3)

/-- Mark reasons of a packet met at dequeue: 2 POISON_TAIL, 3 STACK_OFF_TAIL (R265). -/
def State.countTails (s : State) (near : List Nat) (pid : Nat) (p : Pkt) : State :=
  let s1 := if near.any (· == 2) then s.countMark 2 pid p else s
  if near.any (· == 3) then s1.countMark 3 pid p else s1

/-- Addresses of fault messages about the store (R553): space 2 with a cell's number, space 3 with a stack and a page of it. -/
def cellReport (a : Nat) : Nat := 2 * 2 ^ 37 + a % 2 ^ 21
def pageReport (page : Nat) : Nat := 3 * 2 ^ 37 + page / 2 ^ 22 % 8 * 2 ^ 34 + page % 2 ^ 22

/-- What the near tier found as it was read: 1 a correctable error, 2 an uncorrectable one, which is reported with the cell's address
(R266): the manual gives no cell a number, so the address is a free value. -/
def State.readFound (s : State) (found : Nat) : State :=
  if found = 1 then s.bump R.store_PKT_CORRECTED 0
  else if found = 2 then (let (a, u) := s.free 21; (u.bump R.store_PKT_POISONED 0).fault 0x010 0x11 (cellReport (a % 1572864)))
  else s

/-- The near states of a packet's cells with what a read of them found: an uncorrectable one is poisoned. -/
def withFound (near : List Nat) (found : Nat) : List Nat := if found = 2 then near ++ [2] else near

/-! ## Pages (R241, R268) -/

/-- A free page of a stack: the manual orders the stacks and not the pages, so a free value tells where the search starts. -/
def State.freePage (s : State) (k : Nat) : Nat × State :=
  let (f, s1) := s.free 22
  let n := s.pagesPerStack
  let busy := s.sto.pagesUsed ++ s.sto.pagesFreed ++ s.sto.withheld
  let p := ((List.range (busy.length + 1)).map (fun i => k * 2 ^ 22 + (f + i) % n)).find? (fun p => !busy.contains p)
  (p.getD (k * 2 ^ 22), s1)

/-- The stack of a queue's next page (R241). -/
def State.nextStack (s : State) (q : Nat) : Option Nat :=
  let start := if (s.queue q).lastStack = 8 then 0 else (s.queue q).lastStack + 1
  ((List.range 8).map (fun i => (start + i) % 8)).find? (fun k => s.stackUp k && s.stackFree k != 0)

/-- Withhold a bad page: appended to its stack's list, or past a full list until the next reset only (R268). -/
def State.retirePage (s : State) (page : Nat) : State :=
  let k := page / 2 ^ 22
  let s1 := { s with sto := { s.sto with withheld := page :: s.sto.withheld.filter (· != page) } }
  let onList := s.pwr.mram.retired.filter (fun p => p / 2 ^ 22 == k)
  if onList.length < 1024 then
    let s2 := { s1 with pwr := { s1.pwr with mram := { s1.pwr.mram with retired := s1.pwr.mram.retired ++ [page] } } }
    (s2.wr R.retire_RETIRED k (onList.length + 1)).wr R.retire_LAST_RETIRED k (page % 2 ^ 22)
  else (s1.bump32 R.retire_RETIRE_OVERFLOW k).fault (0x040 + k) 0x13 (pageReport page)

/-- FAR_PAGES follows the pages in service. -/
def State.recountPages (s : State) : State := s.wr R.store_FAR_PAGES 0 s.farPages

/-- The tenant that a page counts for: that of its first cell. -/
def State.pageTenant (s : State) (cells : List (Nat × Nat)) : Option Nat :=
  match cells with
  | [] => none
  | c :: _ => match s.pkt? c.1 with
    | some p => p.tenant
    | none => none

/-- Cells of the page at place `n` of a queue's middle. -/
def State.pageCells (s : State) (q n : Nat) : List (Nat × Nat) :=
  ((s.cellsOf q).drop ((s.queue q).head.length + 16 * n)).take 16

/-- Pn changed for the tenant of a page (R248). -/
def State.tenantPage (s : State) (cells : List (Nat × Nat)) (f : Nat → Nat) : State :=
  match s.pageTenant cells with
  | some t => s.wr R.tstore_FAR_PAGES t (f (s.rd R.tstore_FAR_PAGES t))
  | none => s

/-- A page leaves use: free from the next boundary on (R249). -/
def State.leavePage (s : State) (page : Nat) : State :=
  { s with sto := { s.sto with pagesUsed := s.sto.pagesUsed.filter (· != page)
                               pagesFreed := page :: s.sto.pagesFreed.filter (· != page) } }

/-- A page is freed; a bad one retires (R241, R267). -/
def State.freeThePage (s : State) (page : Nat) (bad : Bool) : State :=
  if bad then
    let s1 := { s with sto := { s.sto with pagesUsed := s.sto.pagesUsed.filter (· != page) } }
    (s1.retirePage page).recountPages
  else s.leavePage page

/-! ## Rows: spill and fill (R254, R255, R258) -/

/-- Cells of a queue that are written: a packet whose tail is still arriving has only its first cell. -/
def State.written (s : State) (c : Nat × Nat) : Bool :=
  match s.pkt? c.1 with
  | some p => p.tailIn || c.2 == 0
  | none => true

/-- Spill writes in flight of a queue. -/
def State.spillsOut (s : State) (q : Nat) : Nat := ((s.queue q).pages.filter (fun p => p.state == 0)).length

/-- The 16 oldest cells a spill may take: beyond the head's first HEAD_KEEP with no middle, in the tail with one (R254). -/
def State.spillStart (s : State) (q : Nat) : Option Nat :=
  let x := s.queue q
  let keep := s.rd R.qprof_HEAD_KEEP (s.profile q)
  let at_ := if x.pages.isEmpty then keep else x.head.length + 16 * x.pages.length
  let cs := ((s.cellsOf q).drop at_).take 16
  if cs.length = 16 ∧ cs.all s.written then some at_ else none

/-- A spill write begins for the page at place `n` of the middle: a page is allocated and its write presented. -/
def State.startSpill (s : State) (q n k : Nat) : State :=
  let (page, s1) := s.freePage k
  let s2 := { s1 with sto := { s1.sto with pagesUsed := page :: s1.sto.pagesUsed } }
  let s3 := s2.setQueue q { s2.queue q with
    lastStack := k
    pages := lmodify (s2.queue q).pages n (fun p => { p with page := page, state := 0 }) }
  let s4 := s3.tenantPage (s3.pageCells q n) (· + 1)
  (s4.farAccess (.spill q page) clsSpill k (pageUnit page) 64 true).2.restall q

/-- Make room in the middle for one more page, taking 16 cells from the head's far end or from the tail. -/
def Queue.openPage (x : Queue) (at_ : Nat) : Queue :=
  if x.pages.isEmpty then
    { x with head := x.head.take at_, pages := [⟨0, 4, (x.head.drop at_).take 16, [], false, false, false⟩],
             tail := x.head.drop (at_ + 16) }
  else { x with pages := x.pages ++ [⟨0, 4, x.tail.take 16, [], false, false, false⟩], tail := x.tail.drop 16 }

/-- A page of a queue that its stack abandoned and whose cells wait for a live stack (R287). -/
def Queue.abandoned (x : Queue) : Option Nat := x.pages.findIdx? (fun p => p.state == 4)

/-- SPILL_ISSUE (R254): a queue over its spill-on level issues one spill write of 16 cells to a newly allocated page. -/
def execSpillIssue (q : Nat) (s : State) : Host.Outcome State Fault Refusal :=
  outcome (queueExists q) s <|
    if qKind q ≠ 2 ∧ s.coreOn ∧ s.on R.qprof_SPILL_EN (s.profile q) ∧ s.spillsOut q < s.rd R.qprof_SPILL_AHEAD (s.profile q) then
      match s.nextStack q with
      | none => s
      | some k =>
        match (s.queue q).abandoned with
        | some n => s.startSpill q n k
        | none =>
          if s.spillOn q < s.sharedCount q ∧ s.pageCount q < s.farLimit q then
            match s.spillStart q with
            | none => s
            | some at_ =>
              let s1 := s.setQueue q ((s.queue q).openPage at_)
              s1.startSpill q ((s1.queue q).pages.length - 1) k
          else s
    else s

/-- The place of a page in a queue's middle. -/
def Queue.pageAt (x : Queue) (p : Page → Bool) : Option Nat := x.pages.findIdx? p

/-- The access that serves a page. -/
def State.pageAcc (s : State) (owner : Acc2) : Option Nat := (s.accsOf (fun o => o == owner)).head?

/-- SPILL_COMPLETE (R254, R258): the oldest spill write of a queue whose transfers are done releases its 16 cells. -/
def execSpillComplete (q : Nat) (s : State) : Host.Outcome State Fault Refusal :=
  outcome (queueExists q) s <|
    let x := s.queue q
    let done (p : Page) : Bool := p.state == 0 && (match s.pageAcc (.spill q p.page) with
      | some a => s.accDone a
      | none => false)
    match x.pageAt done with
    | none => s
    | some n =>
      match x.pages[n]? with
      | none => s
      | some p =>
        let cells := (s.pageCells q n).zip p.near
        let s1 := match s.pageAcc (.spill q p.page) with
          | some a => s.dropAcc a
          | none => s
        let s2 := s1.each cells (fun t c => t.releaseCell c.1.1 c.1.2 c.2)
        let bad := (p.near.zipIdx.filter (fun c => c.1 == 2 || c.1 == 3)).map (·.2)
        let s3 := s2.setQueue q { s2.queue q with
          pages := lmodify (s2.queue q).pages n (fun p => { p with state := 1, near := [], poisoned := bad }) }
        (s3.bump R.store_SPILLED_PAGES 0).restall q

/-- Pages at the front of the middle that are filled join the head, in order; pages whose contents or place are still near join
too; with the last page, head and tail become one (R255). -/
def joinHead : Nat → Queue → Queue
  | 0, x => x
  | n + 1, x =>
    match x.pages with
    | [] => { x with head := x.head ++ x.tail, tail := [] }
    | p :: rest =>
      if p.state = 3 then joinHead n { x with head := x.head ++ p.near, pages := rest }
      else if p.state = 4 then joinHead n { x with head := x.head ++ p.near, pages := rest }
      else x

/-- The filled pages of a queue joined. -/
def State.join (s : State) (q : Nat) : State :=
  (s.setQueue q (joinHead ((s.queue q).pages.length + 1) (s.queue q))).settle q

/-- Near-tier states of the cells of a page that was filled: all poisoned when the page had an uncorrectable word (R267), else those that
were poisoned as they were spilled. -/
def filledCells (poisoned bad : List Nat) : List Nat :=
  (List.range 16).map (fun i => if !bad.isEmpty || poisoned.contains i then 2 else 1)

/-- Words of a page that read as zero from now on, noted at the replicas whose cells they lie in: 32 words make a cell (R267). -/
def zeroReplicas (cells : List (Nat × Nat)) (bad : List Nat) (ents : List QEnt) : List QEnt :=
  let at_ := bad.filterMap (fun b => (cells[b / 32]?).map (fun c => (c.1, 32 * c.2 + b % 32)))
  ents.zipIdx.map (fun e => { e.1 with zeroed := e.1.zeroed ++ (at_.filter (fun z => z.1 == e.2)).map (·.2) })

/-- A page whose contents went with its stack passes without a read: its packets are tail-marked bad (R12, R287). -/
def State.passLost (s : State) (q n : Nat) : State :=
  match (s.queue q).pages[n]? with
  | none => s
  | some p =>
    let s1 := s.tenantPage (s.pageCells q n) (· - 1)
    let s2 := s1.setQueue q { s1.queue q with
      pages := lmodify (s1.queue q).pages n (fun p => { p with state := 3, near := List.replicate 16 3 }) }
    (s2.freeThePage p.page p.retire).join q

/-- FILL_ISSUE (R255): a queue keeps its head and its pages in fill at FILL_LEVEL; the oldest unfilled page is read first, once
its spill write is complete and the fill reserve has 16 cells. -/
def execFillIssue (q : Nat) (s : State) : Host.Outcome State Fault Refusal :=
  outcome (queueExists q) s <|
    let x := s.queue q
    let filling := (x.pages.filter (fun p => p.state == 2 || p.state == 3)).length
    match x.pageAt (fun p => p.state == 0 || p.state == 1 || p.state == 4) with
    | none => s
    | some n =>
      if s.rd R.qprof_FILL_LEVEL (s.profile q) ≤ x.head.length + 16 * filling then s
      else match x.pages[n]? with
        | none => s
        | some p =>
          if p.state = 4 then s.join q
          else if p.lost then s.passLost q n
          else if p.state = 0 ∨ !s.stackUp (p.page / 2 ^ 22) then s
          else if s.fillFreeNow < 16 then
            if p.waited then s
            else (s.bump R.store_FILL_WAITS 0).setQueue q { x with
              pages := lmodify x.pages n (fun p => { p with waited := true }) }
          else
            let s1 := { s with sto := { s.sto with fillUsed := s.sto.fillUsed + 16 } }
            let s2 := s1.setQueue q { x with pages := lmodify x.pages n (fun p => { p with state := 2 }) }
            (s2.farAccess (.fill q p.page) clsFill (p.page / 2 ^ 22) (pageUnit p.page) 64 false).2

/-- FILL_COMPLETE (R255, R267): the oldest fill read of a queue whose transfers are done. The page is freed, and joins the head
after every earlier page. The memory found `corrected` correctable errors, and the words of `bad`, of the page's 512, uncorrectable. -/
def execFillComplete (q corrected : Nat) (bad : List Nat) (s : State) : Host.Outcome State Fault Refusal :=
  outcome (queueExists q && bad.all (· < 512)) s <|
    let x := s.queue q
    let done (p : Page) : Bool := p.state == 2 && (match s.pageAcc (.fill q p.page) with
      | some a => s.accDone a
      | none => false)
    match x.pageAt done with
    | none => s
    | some n =>
      match x.pages[n]? with
      | none => s
      | some p =>
        let s0 := s.tenantPage (s.pageCells q n) (· - 1)
        let s1 := match s0.pageAcc (.fill q p.page) with
          | some a => s0.dropAcc a
          | none => s0
        let cells := (s1.replicaCells q).drop ((s1.queue q).head.length + 16 * n)
        let s2 := s1.setQueue q { s1.queue q with
          ents := zeroReplicas cells bad (s1.queue q).ents
          pages := lmodify (s1.queue q).pages n (fun p => { p with state := 3, near := filledCells p.poisoned bad }) }
        let s3 := (s2.bump R.store_FILLED_PAGES 0).add R.store_PKT_CORRECTED 0 corrected
        let s4 := if bad.isEmpty then s3 else (s3.bump R.store_PKT_POISONED 0).fault 0x010 0x11 (pageReport p.page)
        -- every uncorrectable word is written back as zero, as a fill of the page's class (R267, R278)
        let s5 := s4.each bad (fun t c => (t.farAccess (.fill q p.page) clsFill (p.page / 2 ^ 22) (pageUnit p.page + c / 8) 1 true).2)
        let s6 := s5.each (s5.accsOf (fun o => o == .fill q p.page)) (fun t a =>
          { t with bab := { t.bab with accs := match mfind t.bab.accs a with
            | some y => mins t.bab.accs a { y with owner := .scrub }
            | none => t.bab.accs } })
        (s6.freeThePage p.page (p.retire || !bad.isEmpty)).join q

/-- PAGE_RETIRE_CLEAR takes effect (R268, R275): a stack's list is empty; the pages return at the next START of the carve. -/
def State.clearRetired (s : State) (k : Nat) : State :=
  let (gone, stay) := s.pwr.mram.retired.partition (fun p => p / 2 ^ 22 == k)
  let s1 := { s with
    pwr := { s.pwr with mram := { s.pwr.mram with retired := stay } }
    sto := { s.sto with cleared := s.sto.cleared ++ gone } }
  (s1.wr R.retire_RETIRED k 0)

/-- The pages on the retirement lists are withheld before the first page is allocated (R268). -/
def State.withholdRetired (s : State) : State := { s with sto := { s.sto with withheld := s.pwr.mram.retired } }

/-- The register of R259 is seeded from the low half of SERIAL, or with 0xACE1. -/
def ecnSeed (serial : Nat) : Nat := if serial % 65536 = 0 then 0xACE1 else serial % 65536

/-- The store begins with its domain: the pages of the retirement lists withheld, the register of R259 seeded. -/
def State.startStore (s : State) : State :=
  { s.withholdRetired with sto := { s.withholdRetired.sto with lfsr := ecnSeed (s.rd R.ident_SERIAL 0) } }.recountPages

/-- Pages of lists that were cleared return to service (R275). -/
def State.returnPages (s : State) : State :=
  { s with sto := { s.sto with withheld := s.sto.withheld.filter (fun p => !s.sto.cleared.contains p), cleared := [] } }

/-! ## Discarding (R54, R266, R269) -/

/-- Release everything a queue holds, without counting its packets. -/
def State.emptyQueue (s : State) (q : Nat) : State :=
  let x := s.queue q
  let s1 := s.each (s.nearCells q) (fun t c => t.releaseCell c.1.1 c.1.2 c.2)
  let s2 := s1.each x.pages.zipIdx (fun t e =>
    if e.1.state < 3 then t.tenantPage (s.pageCells q e.2) (· - 1) else t)
  let s3 := s2.each (x.pages.filter (fun p => p.state < 3)) (fun t p =>
    let t1 := t.each (t.accsOf (fun o => o == .spill q p.page || o == .fill q p.page)) State.dropAcc
    let t2 := if p.state = 2 then t1.giveFill 16 else t1
    t2.freeThePage p.page p.retire)
  let s4 := s3.each x.ents (fun t e => t.unlink e.pid)
  (s4.setQueue q { (s4.queue q) with ents := [], head := [], pages := [], tail := [] }).restall q

/-- Discard a whole queue with a reason, each packet counted (R264). -/
def State.discardQueue (s : State) (q reason : Nat) : State :=
  let lens := ((s.queue q).ents.filter (fun e => !e.dead)).map (fun e => match s.pkt? e.pid with
    | some p => p.len
    | none => 0)
  (s.emptyQueue q).each lens (fun t n => t.qmDrop reason n (some q) none)

/-- An uncorrectable error in the link or descriptor memory of a queue: the whole queue goes with FLUSHED, and QM_LINK is reported with
[21:20] 0 for a VOQ, 1 for an egress queue, 2 for a host queue and [19:0] its number (R266). -/
def State.linkBad (s : State) (q : Nat) : State :=
  (s.discardQueue q 0x10).fault 0x010 0x12 (qKind q * 2 ^ 20 + qIndex q % 2 ^ 20)

/-- Discard the packets of a queue that meet a test, keeping the others in order. -/
def State.discardIf (s : State) (q reason : Nat) (test : QEnt → Pkt → Bool) : State :=
  let x := s.queue q
  let keep := x.ents.filter (fun e => !e.dead && (match s.pkt? e.pid with
    | some p => !test e p
    | none => false))
  if keep.length = x.ents.length then s
  else if keep.isEmpty then s.discardQueue q reason
  else
    -- their replicas stay in place as dead ones, counted now, and give up their cells as they reach the head
    let dying := x.ents.filter (fun e => !e.dead && !keep.contains e)
    let s1 := s.setQueue q { x with ents := x.ents.map (fun e => if keep.contains e then e else { e with dead := true }) }
    let s2 := s1.each dying (fun t e => t.qmDrop reason (match s.pkt? e.pid with
      | some p => p.len
      | none => 0) (some q) none)
    s2.settle q

end Sys2Proof.Machine
end

