-- ==== Sys2Proof/Machine/Tables.lean ====
section
/-! DEFINITION. Tables (05_tables_and_lookups.md): memory, entries, hashing, the host cache, the trie, TCAM, meters' and counters'
homes, and what a lookup finds. -/

namespace Sys2Proof.Machine

/-! ## Table memory (R167, R168) -/

/-- A near-tier word and a far-tier word by byte address. -/
def State.near (s : State) (a : Nat) : Nat := mget 0 s.tab.near (a / 8)
def State.far (s : State) (a : Nat) : Nat := mget 0 s.tab.far (a / 8)

/-- Keys of memory errors. -/
def farKey (a : Nat) : Nat := 2 ^ 40 + a / 8 * 8
def tcamKey (e : Nat) : Nat := 2 ^ 41 + e
def nearKey (a : Nat) : Nat := a / 8 * 8

/-- The error at a key: 0 none, 1 correctable, 2 uncorrectable or parity (R231). -/
def State.upset (s : State) (k : Nat) : Nat := mget 0 s.tab.upsets k
def State.setUpset (s : State) (k v : Nat) : State := { s with tab := { s.tab with upsets := mput 0 s.tab.upsets k v } }

/-- Memory errors that strike: pairs of a key and a severity. -/
def State.strike (s : State) (errs : List (Nat × Nat)) : State := s.each errs (fun t e => t.setUpset e.1 (min e.2 2))

/-- ADDRESS of a fault report (R553): near-tier table memory is space 1, the TCAM space 4 (group, block and entry). -/
def nearReport (a : Nat) : Nat := 2 ^ 37 + a
def tcamReport (e : Nat) : Nat := 2 ^ 39 + e

/-- A word written; good check bits are written with it. -/
def State.putNear (s : State) (a w : Nat) : State :=
  { s with tab := { s.tab with near := mput 0 s.tab.near (a / 8) (w % 2 ^ 64), upsets := mdel s.tab.upsets (nearKey a) } }
def State.putFar (s : State) (a w : Nat) : State :=
  { s with tab := { s.tab with far := mput 0 s.tab.far (a / 8) (w % 2 ^ 64), upsets := mdel s.tab.upsets (farKey a) } }

/-- Words read and written in sequence. -/
def State.nearWords (s : State) (a n : Nat) : List Nat := (List.range n).map (fun i => s.near (a + 8 * i))
def State.farWords (s : State) (a n : Nat) : List Nat := (List.range n).map (fun i => s.far (a + 8 * i))
def State.putNears (s : State) (a : Nat) (ws : List Nat) : State := s.each ws.zipIdx (fun t w => t.putNear (a + 8 * w.2) w.1)
def State.putFars (s : State) (a : Nat) (ws : List Nat) : State := s.each ws.zipIdx (fun t w => t.putFar (a + 8 * w.2) w.1)

/-- The worst error among words of a memory. -/
def State.nearErr (s : State) (a n : Nat) : Nat := ((List.range n).map (fun i => s.upset (nearKey (a + 8 * i)))).foldl max 0
def State.farErr (s : State) (a n : Nat) : Nat := ((List.range n).map (fun i => s.upset (farKey (a + 8 * i)))).foldl max 0

/-- Areas of the near tier (R167). -/
def nodeBase : Nat := 0x2000000
def nexthopBase : Nat := 0x3400000
def groupBase : Nat := 0x4400000
def memberBase : Nat := 0x4500000
def meterBase : Nat := 0x4D00000
def lineBase : Nat := 0x5500000
def auxBase : Nat := 0x5D00000
def tenantBase : Nat := 0x5F00000
def portBase : Nat := 0x5F40000

/-- Bytes of the node part of the route area. -/
def State.nodeBytes (s : State) : Nat := s.rd R.rte_ROUTE_NODE_MIB 0 * 1048576

/-- A member of the pool: two lie in one word, the even one in its low half. -/
def State.member (s : State) (m : Nat) : Nat := let w := s.near (memberBase + 4 * m); if m % 2 = 0 then w % 2 ^ 32 else w / 2 ^ 32
def State.putMember (s : State) (m v : Nat) : State :=
  let a := memberBase + 4 * m
  s.putNear a (if m % 2 = 0 then setBits (s.near a) 31 0 v else setBits (s.near a) 63 32 v)

/-! ## Regions (R168 to R170) -/

/-- The regions of a table: stack, base and size in bytes. -/
def State.regions (s : State) (t : Nat) : List (Nat × Nat × Nat) :=
  ((List.range 64).filter (fun i => s.rd R.region_TABLE i == t && s.rd R.region_SIZE_MIB i != 0)).map
    (fun i => (s.rd R.region_STACK i, s.rd R.region_BASE_MIB i * 1048576, s.rd R.region_SIZE_MIB i * 1048576))

/-- The base of an interleaved table's region on a stack. -/
def State.regionBase (s : State) (t k : Nat) : Nat :=
  match (s.regions t).find? (fun r => r.1 == k) with
  | some r => r.2.1
  | none => 0

/-- A far-tier table address of a stack and an offset. -/
def farAddr (stack off : Nat) : Nat := stack * 2 ^ 34 + off
def farStack (a : Nat) : Nat := a / 2 ^ 34 % 8
def farOff (a : Nat) : Nat := a % 2 ^ 34

/-- Bytes of a stack's table share lie in a page that is withheld: a retired page that a change of the share has taken in stays out of
service (R268). -/
def State.withheldHere (s : State) (k off n : Nat) : Bool :=
  s.sto.withheld.any (fun p => p / 2 ^ 22 == k &&
    (let first := p % 2 ^ 22 * 4096
     let share := s.pagesPerStack * 4096
     decide (first < share + off + n) && decide (share + off < first + 4096)))

/-- A read of `n` bytes lies within one region of a table, in memory that is in service (R197, R268). -/
def State.inRegion (s : State) (t a n : Nat) : Bool :=
  a < 2 ^ 37 && (s.regions t).any (fun r => r.1 == farStack a && decide (r.2.1 ≤ farOff a) && decide (farOff a + n ≤ r.2.1 + r.2.2))
    && !s.withheldHere (farStack a) (farOff a) n

/-- A table access in the far tier presented to Babbitt, by table address and bytes. -/
def State.tableAccess (s : State) (owner : Acc2) (cls a bytes : Nat) (write : Bool) : State :=
  let u := s.shareUnit (farOff a)
  let n := (farOff a % 64 + bytes + 63) / 64
  (s.farAccess owner cls (farStack a) u n write).2

/-! ## Hashed tables (R176, R177) -/

/-- A table is one of AUX0 to AUX7, or of the TCAMs. -/
def isAux (t : Nat) : Bool := 10 ≤ t && t ≤ 17
def isTcam (t : Nat) : Bool := 18 ≤ t && t ≤ 25
def isHash (t : Nat) : Bool := t == 2 || t == 9 || isAux t

/-- Buckets of one half. -/
def State.halfBuckets (s : State) (t : Nat) : Nat :=
  if t = 2 then 2 ^ 22 else if t = 9 then 2 ^ 20 else s.rd R.tbl_ENTRY_COUNT t / 8

/-- The hash units over a key (R176). -/
def State.hashC (s : State) (t : Nat) (key : Octets) : Nat := crc32c (s.rd R.tbl_SEED_C t) key
def State.hashR (s : State) (t : Nat) (key : Octets) : Nat := crc32 (s.rd R.tbl_SEED_R t) key

/-- Locations of candidates 0 and 4 of a key. -/
def State.loc0 (s : State) (t : Nat) (key : Octets) : Nat := s.hashC t key % max 1 (s.halfBuckets t) * 4
def State.loc4 (s : State) (t : Nat) (key : Octets) : Nat := s.halfBuckets t * 4 + s.hashR t key % max 1 (s.halfBuckets t) * 4

/-- The eight candidate locations of a key, lowest candidate first; a table with no slots has none (R180). -/
def State.candidates (s : State) (t : Nat) (key : Octets) : List Nat :=
  if s.halfBuckets t = 0 then [] else (List.range 4).map (s.loc0 t key + ·) ++ (List.range 4).map (s.loc4 t key + ·)

/-- Locations of a hashed table. -/
def State.locations (s : State) (t : Nat) : Nat := 8 * s.halfBuckets t

/-- The first slot of an auxiliary table in the pool: the tables follow each other in table order, each with its ENTRY_COUNT in effect
(DESIGN CHOICE, log entry 69: the manual gives the size of the pool and not its division). -/
def State.auxFirst (s : State) (t : Nat) : Nat :=
  (List.range (t - 10)).foldl (fun a i => a + s.rd R.tbl_ENTRY_COUNT (10 + i)) 0

/-- Words of an entry (R210, R178, R189, R193 to R195). -/
def entryWords (t : Nat) : Nat :=
  if t ≤ 1 then 8 else if t = 2 then 4 else if t = 4 ∨ t = 7 ∨ t = 8 then 2 else if t = 5 ∨ t = 6 then 1
  else if t = 9 then 32 else if isAux t then 2 else 7

/-- The far-tier address of a location of HOST or FLOWTEL (R177). -/
def State.slotAddr (s : State) (t loc : Nat) : Nat :=
  let half := 4 * s.halfBuckets t
  let h := loc / half
  let i := loc % half / 4
  let size := if t = 2 then 128 else 1024
  farAddr (i % 8) (s.regionBase t (i % 8) + (h * (half / 4 / 8) + i / 8) * size + loc % 4 * (size / 4))

/-- The location of a HOST or FLOWTEL entry that holds a far-tier address. -/
def State.farLoc (s : State) (t a : Nat) : Nat :=
  let size := if t = 2 then 128 else 1024
  let off := farOff a - s.regionBase t (farStack a)
  let perHalf := s.halfBuckets t / 8
  let b := off / size
  (b / perHalf) * (4 * s.halfBuckets t) + (b % perHalf * 8 + farStack a) * 4 + off % size / (size / 4)

/-- The near-tier address of an entry of a near table. -/
def State.nearAddr (s : State) (t i : Nat) : Nat :=
  match t with
  | 0 => portBase + 64 * i
  | 1 => tenantBase + 64 * i
  | 4 => nexthopBase + 16 * i
  | 5 => groupBase + 8 * i
  | 6 => memberBase + 4 * i
  | 7 => meterBase + 16 * i
  | _ => auxBase + 16 * (s.auxFirst t + i)

/-- The words of an entry of a table. -/
def State.entry (s : State) (t i : Nat) : List Nat :=
  if t = 2 ∨ t = 9 then s.farWords (s.slotAddr t i) (entryWords t)
  else if t = 6 then [s.member i]
  else if isTcam t then (List.range 7).map (fun w => mget 0 s.tab.tcam (((t - 18) * 32768 + i) * 8 + w))
  else s.nearWords (s.nearAddr t i) (entryWords t)

/-- The worst memory error of an entry. -/
def State.entryErr (s : State) (t i : Nat) : Nat :=
  if t = 2 ∨ t = 9 then s.farErr (s.slotAddr t i) (entryWords t)
  else if isTcam t then s.upset (tcamKey ((t - 18) * 32768 + i))
  else s.nearErr (s.nearAddr t i) (if t = 6 then 1 else entryWords t)

/-- The table address that reports name for an entry (R231, R553). -/
def State.entryAddr (s : State) (t i : Nat) : Nat :=
  if t = 2 ∨ t = 9 then s.slotAddr t i else if isTcam t then tcamReport ((t - 18) * 32768 + i) else nearReport (s.nearAddr t i)

/-- Reports of the table maintenance object (R231, R235). -/
def State.reportBad (s : State) (t src kind addr : Nat) : State := (s.wr R.tmnt_LAST_POISON t addr).fault src kind addr
def State.reportCorrected (s : State) (t src addr : Nat) : State := (s.bump R.tmnt_CORRECTED t).fault src 0x0D addr

/-- W0 of an entry by its place. -/
def w (ws : List Nat) (i : Nat) : Nat := ws.getD i 0

/-- Fields of a HOST entry (R178). -/
def hostValid (ws : List Nat) : Bool := bit (w ws 0) 63
def hostMask (ws : List Nat) : Nat := bits (w ws 0) 62 61
def hostGroups (ws : List Nat) : Nat := bits (w ws 0) 60 58
def hostStatic (ws : List Nat) : Bool := bit (w ws 0) 57
def hostPoisoned (ws : List Nat) : Bool := bit (w ws 0) 56
def hostOwned (ws : List Nat) : Bool := bit (w ws 0) 52
def hostOwner (ws : List Nat) : Nat := bits (w ws 0) 51 40
def hostOctets (ws : List Nat) : Octets := toBE 8 (w ws 1) ++ toBE 8 (w ws 2) ++ toBE 4 (w ws 3 / 2 ^ 32)

/-- VALID and POISONED of an entry of any table (R178, R180, R189, R191 to R193, R195). -/
def entryValid (t : Nat) (ws : List Nat) : Bool :=
  if t = 6 then bit (w ws 0) 31 else if t = 7 then w ws 0 != 0 else bit (w ws 0) 63
def entryPoisoned (t : Nat) (ws : List Nat) : Bool := if t = 2 then bit (w ws 0) 56 else if t = 9 then bit (w ws 0) 62 else false

/-- An entry occupies its slot: it is valid, or it is poisoned, which counts as VALID (R219, R232). -/
def entryHeld (t : Nat) (ws : List Nat) : Bool := entryValid t ws || entryPoisoned t ws

/-- The tenant field of a FLOWTEL entry (R195). An entry whose W0 was lost names no owner: 0xFFF with every other field zero (R232). -/
def flowTenant (ws : List Nat) : Nat := bits (w ws 0) 51 40
def lostFlow (ws : List Nat) : Bool := w ws 0 == 2 ^ 63 + 2 ^ 62 + 0xFFF * 2 ^ 40

/-- The stored key of a hashed entry, as the octets the hash runs over. -/
def storedKey (t : Nat) (ws : List Nat) : Octets :=
  if t = 2 then (hostOctets ws).take (4 * hostGroups ws)
  else if t = 9 then ((ws.drop 1).take 5).flatMap (toBE 8)
  else (toBE 8 (w ws 1)).take (4 * bits (w ws 0) 62 60)

/-- KEY_GROUPS of a hashed entry (R178, R180); a FLOWTEL key is 40 bytes (R195). -/
def storedGroups (t : Nat) (ws : List Nat) : Nat := if t = 2 then hostGroups ws else if t = 9 then 10 else bits (w ws 0) 62 60

/-- A hashed entry holds a key: KEY_GROUPS and every key byte are equal (R179). -/
def holdsKey (t : Nat) (ws : List Nat) (key : Octets) : Bool := 4 * storedGroups t ws == key.length && storedKey t ws == key

/-- GEN_MASK of a hashed entry; a plain table's entries belong to both generations. -/
def storedMask (t : Nat) (ws : List Nat) : Nat := if t = 2 then hostMask ws else 3

/-- A tenant is RUNNING. -/
def State.tenantRuns (s : State) (t : Nat) : Bool := s.rd R.tenant_STATE t == 3

/-- A hashed entry matches a key, a tag and, for HOST, its owner (R179, R180). -/
def State.matches (s : State) (t : Nat) (ws : List Nat) (key : Octets) (tag : Nat) (owner : Bool) : Bool :=
  entryValid t ws && !entryPoisoned t ws && holdsKey t ws key && bit (storedMask t ws) tag
    && (!owner || t != 2 || !hostOwned ws || s.tenantRuns (hostOwner ws))

/-- The lowest candidate whose entry matches. A slot with an uncorrectable word never matches (R198). -/
def State.findEntry (s : State) (t : Nat) (key : Octets) (tag : Nat) (owner : Bool) : Option Nat :=
  (s.candidates t key).find? (fun l => s.entryErr t l < 2 && s.matches t (s.entry t l) key tag owner)

/-- T0 to T15 of a HASH hit (R172). -/
def hashResult (t : Nat) (ws : List Nat) (loc : Nat) : List Nat :=
  [w ws 0 % 2 ^ 32, if t = 2 then w ws 3 % 65536 else 0, (if t = 2 then hostMask ws * 2 ^ 30 else 0) + loc]

/-! ## The host cache (R181 to R183) -/

/-- The set of a key, and the address of a slot. -/
def State.cacheSet (s : State) (key : Octets) : Nat := s.hashC 2 key / 2 ^ 14
def cacheSlot (set slot : Nat) : Nat := set * 128 + slot * 16

/-- Slot `i` of a set is the second half of a pair. -/
def State.isPairTail (s : State) (set i : Nat) : Bool :=
  i % 2 == 1 && bit (s.near (cacheSlot set (i - 1))) 63 && bit (s.near (cacheSlot set (i - 1))) 57

/-- A cached entry at slot `i` of a set. -/
def State.cached (s : State) (set i : Nat) : Option Nat :=
  let a := s.near (cacheSlot set i)
  if bit a 63 && !s.isPairTail set i then some a else none

/-- The key octets of a cached entry. -/
def State.cachedKey (s : State) (set i : Nat) : Octets :=
  let a := s.near (cacheSlot set i)
  let k0 := toBE 8 (s.near (cacheSlot set i + 8))
  let more := if bit a 57 then toBE 8 (s.near (cacheSlot set (i + 1))) ++ toBE 4 (s.near (cacheSlot set (i + 1) + 8) / 2 ^ 32) else []
  (k0 ++ more).take (4 * bits a 60 58)

/-- The slot of a set whose cached entry matches, the lower candidate first (R179, R182). -/
def State.cacheFind (s : State) (key : Octets) (tag : Nat) : Option Nat :=
  let set := s.cacheSet key
  let hits := (List.range 8).filter (fun i => match s.cached set i with
    | none => false
    | some a => 4 * bits a 60 58 == key.length && s.cachedKey set i == key && bit (bits a 62 61) tag
        && (let ws := s.entry 2 (bits a 56 32); !hostOwned ws || s.tenantRuns (hostOwner ws)))
  match hits with
  | [] => none
  | i :: rest => some (rest.foldl (fun a b =>
      if bits (s.near (cacheSlot set b)) 56 32 < bits (s.near (cacheSlot set a)) 56 32 then b else a) i)

/-- A slot, with its pair, made invalid. -/
def State.cacheDrop (s : State) (set i : Nat) : State :=
  let a := s.near (cacheSlot set i)
  let s1 := (s.putNear (cacheSlot set i) 0).putNear (cacheSlot set i + 8) 0
  if bit a 63 && bit a 57 then (s1.putNear (cacheSlot set (i + 1)) 0).putNear (cacheSlot set (i + 1) + 8) 0 else s1

/-- Reference bits of a set. -/
def State.setRef (s : State) (set v : Nat) : State := { s with tab := { s.tab with refBits := mput 0 s.tab.refBits set v } }

/-- The slot a fill takes: invalid slots first; otherwise the first slot or aligned pair whose reference bits are clear; when all
are set, all are cleared and the first is taken (R182). -/
def State.cacheVictim (s : State) (set : Nat) (pair : Bool) : Nat × State :=
  let slots := if pair then [0, 2, 4, 6] else List.range 8
  let free (i : Nat) : Bool := !bit (s.near (cacheSlot set i)) 63 && !s.isPairTail set i
  let okFree (i : Nat) : Bool := free i && (!pair || free (i + 1))
  let r := mget 0 s.tab.refBits set
  let clear (i : Nat) : Bool := !bit r i && (!pair || !bit r (i + 1))
  match slots.find? okFree with
  | some i => (i, s)
  | none => match slots.find? clear with
    | some i => (i, s)
    | none => if r = 255 then (0, s.setRef set 0) else
        -- no aligned pair is clear and not every bit is set: as when every bit is set
        (0, s.setRef set 0)

/-- A cached entry that covers slot `i` is dropped. -/
def State.cacheEvict (s : State) (set i : Nat) : State := s.cacheDrop set (if s.isPairTail set i then i - 1 else i)

/-- The cached copies of a location, as set and slot. -/
def State.cacheCopies (s : State) (loc : Nat) : List (Nat × Nat) :=
  (s.tab.near.filter (fun e => decide (e.1 * 8 < nodeBase) && e.1 % 2 == 0 && bit e.2 63 && bits e.2 56 32 == loc
    && !s.isPairTail (e.1 / 16) (e.1 % 16 / 2))).map (fun e => (e.1 / 16, e.1 % 16 / 2))

/-- Every cached copy of a location made invalid (R183, R212). -/
def State.dropCopies (s : State) (loc : Nat) : State := s.each (s.cacheCopies loc) (fun u c => u.cacheDrop c.1 c.2)

/-- Fill the cache with the far entry at a location (R182); a copy that an earlier walk left is replaced. The reference bits of the slots
that it takes are cleared, those of an invalid slot too (DESIGN CHOICE, log entry 69: a bit marks a hit of the entry in the slot). -/
def State.cacheFill (s : State) (key : Octets) (loc : Nat) : State :=
  let s := s.dropCopies loc
  let ws := s.entry 2 loc
  let set := s.cacheSet key
  let pair := decide (2 < hostGroups ws) || w ws 3 % 65536 != 0
  let (i, s1) := s.cacheVictim set pair
  let s2 := s1.cacheEvict set i
  let s3 := if pair then s2.cacheEvict set (i + 1) else s2
  let head := 2 ^ 63 + hostMask ws * 2 ^ 61 + hostGroups ws * 2 ^ 58 + b2n pair * 2 ^ 57 + loc * 2 ^ 32 + w ws 0 % 2 ^ 32
  let s4 := (s3.putNear (cacheSlot set i) head).putNear (cacheSlot set i + 8) (w ws 1)
  let s5 := if pair then (s4.putNear (cacheSlot set (i + 1)) (w ws 2)).putNear (cacheSlot set (i + 1) + 8)
      (w ws 3 / 2 ^ 32 * 2 ^ 32 + w ws 3 % 65536) else s4
  s5.setRef set (setBit (if pair then setBit (mget 0 s5.tab.refBits set) (i + 1) false else mget 0 s5.tab.refBits set) i false)

/-- Walk results for which `f` holds were read before a write and are not filled (R183). -/
def State.staleWalks (s : State) (f : WalkEnd → Bool) : State :=
  let mark (tw : TagWalk) : TagWalk := match tw.read with
    | some e => if f e then { tw with stale := true } else tw
    | none => tw
  { s with tab := { s.tab with walks := s.tab.walks.map (fun e =>
      (e.1, { e.2 with tag0 := e.2.tag0.map mark, tag1 := e.2.tag1.map mark })) } }

/-- Refreshes of a location that was rewritten since the hit write nothing (R228). -/
def State.voidRefresh (s : State) (loc : Nat) : State :=
  { s with bab := { s.bab with accs := s.bab.accs.map (fun e => match e.2.owner with
      | .refresh l _ => if l = loc then (e.1, { e.2 with owner := .posted }) else e
      | _ => e) } }

/-- Write a HOST far entry: its cached copy is invalidated before the write is complete (R183). -/
def State.putHost (s : State) (loc : Nat) (ws : List Nat) : State :=
  let s1 := s.dropCopies loc
  ((s1.putFars (s1.slotAddr 2 loc) ws).staleWalks (fun e => match e with
    | .hit _ (some l) _ => l == loc
    | _ => false)).voidRefresh loc

/-! ## The leaf cache (R185, R203) -/

/-- Lines the leaf cache has. -/
def State.leafLines (s : State) : Nat := (20 - s.rd R.rte_ROUTE_NODE_MIB 0) * 4096

/-- The near-tier address of a leaf-cache line (R167). -/
def State.leafLine (s : State) (n : Nat) : Nat := nodeBase + s.nodeBytes + 256 * n

/-- The line that holds a leaf block: its number and the block's words. -/
def State.leafFind (s : State) (a : Nat) : Option (Nat × List Nat) :=
  (s.tab.leaf.find? (fun e => e.2.1 == a)).map (fun e => (e.1, e.2.2))

/-- A line made invalid. -/
def State.leafDrop (s : State) (n : Nat) : State := { s with tab := { s.tab with leaf := mdel s.tab.leaf n } }

/-- A line takes a leaf block, with good check bits. -/
def State.leafPut (s : State) (n a : Nat) (ws : List Nat) : State :=
  let b := s.leafLine n
  { s with tab := { s.tab with leaf := mins s.tab.leaf n (a, ws),
                               upsets := s.tab.upsets.filter (fun e => !(decide (b ≤ e.1) && decide (e.1 < b + 256))) } }

/-- A leaf block enters the cache: in the line that holds it, else in the lowest invalid line. The manual does not say which line
goes when all are taken: a free value tells. -/
def State.leafFill (s : State) (a : Nat) (ws : List Nat) : State :=
  let s1 := match s.leafFind a with
    | some (n, _) => s.leafPut n a ws
    | none =>
      let gap := s.tab.leaf.foldl (fun (n : Nat) (e : Nat × Nat × List Nat) => if e.1 = n then n + 1 else n) 0
      if gap < s.leafLines then s.leafPut gap a ws
      else let (f, s1) := s.free 32; s1.leafPut (f % max 1 s1.leafLines) a ws
  s1.bump R.rte_LEAF_FILLS 0

/-- A leaf block of at most 256 bytes meets `n` bytes at an address. -/
def leafMeets (a n block : Nat) : Bool := decide (block < a + n) && decide (a < block + 256)

/-- Leaf-cache lines that a far write of `n` bytes touches are invalidated, and no walk fills what it read before (R212, R218). -/
def State.leafTouched (s : State) (a n : Nat) : State :=
  ({ s with tab := { s.tab with leaf := s.tab.leaf.filter (fun e => !leafMeets a n e.2.1) } }).staleWalks (fun e => match e with
    | .hit _ _ (some l) => leafMeets a n l.1
    | .miss (some l) => leafMeets a n l.1
    | _ => false)

/-! ## The trie (R184 to R187) -/

/-- Fields of a trie reference. -/
def refKind (r : Nat) : Nat := bits r 63 62
def refFar (r : Nat) : Bool := bit r 61
def refStride (r : Nat) : Nat := bits r 60 56
def refDepth (r : Nat) : Nat := bits r 55 49
def refAddr (r : Nat) : Nat := bits r 39 0
def refChunks (r : Nat) : Nat := bits r 60 56

/-- A malformed reference (R184). A near node that begins below the route area is as malformed as one that runs past its node part
(DESIGN CHOICE, log entry 69). -/
def State.malformed (s : State) (r : Nat) : Bool :=
  if refKind r = 1 then
    refStride r == 0 || decide (16 < refStride r) || decide (128 < refDepth r + refStride r) || refAddr r % 64 != 0
      || (!refFar r && (decide (refAddr r < nodeBase) ||
        decide (nodeBase + s.nodeBytes < refAddr r + 8 * 2 ^ refStride r)))
  else if refKind r = 2 then refChunks r == 0 || decide (4 < refChunks r) || refAddr r % 64 != 0
  else false

/-- The slot of a node for an address of 128 bits. -/
def nodeSlot (r addr : Nat) : Nat := refAddr r + 8 * (addr / 2 ^ (128 - refDepth r - refStride r) % 2 ^ refStride r)

/-- One prefix of a leaf block: 128-bit prefix, length, GEN_MASK, next hop. -/
structure Prefix where
  bits : Nat
  len : Nat
  mask : Nat
  hop : Nat
deriving DecidableEq, Repr

/-- Words of one entry of a leaf family. A block of FAMILY 3, which R186 does not list, holds no prefixes (DESIGN CHOICE, log entry 69). -/
def leafStride (family : Nat) : Nat := if family = 0 then 1 else if family = 1 then 2 else if family = 2 then 4 else 0

/-- The prefixes of a leaf block (R186): those within COUNT and within the block's words. -/
def leafPrefixes (ws : List Nat) : List Prefix :=
  let h := w ws 0
  let f := bits h 55 54
  let n := leafStride f
  if n = 0 then []
  else ((List.range (bits h 63 56)).filter (fun i => decide (1 + (i + 1) * n ≤ ws.length))).map (fun i =>
    let e := ws.drop (1 + i * n)
    if f = 0 then ⟨w e 0 / 2 ^ 32 * 2 ^ 96, bits (w e 0) 31 26, bits (w e 0) 25 24, bits (w e 0) 19 0⟩
    else if f = 1 then ⟨w e 0 * 2 ^ 64, bits (w e 1) 63 57, bits (w e 1) 56 55, bits (w e 1) 19 0⟩
    else ⟨w e 0 * 2 ^ 64 + w e 1, bits (w e 2) 63 56, bits (w e 2) 55 54, bits (w e 2) 19 0⟩)

/-- A prefix covers an address under a tag (R187). A LEN beyond its family's range is taken as it stands, the bits that the entry lacks
being zero; one above 128 covers nothing (DESIGN CHOICE, log entry 69). -/
def Prefix.covers (p : Prefix) (addr tag : Nat) : Bool :=
  bit p.mask tag && decide (p.len ≤ 128) && p.bits / 2 ^ (128 - p.len) == addr / 2 ^ (128 - p.len)

/-- The longest match, the first of equal length (R187), as a RESULT reference. -/
def leafMatch (ws : List Nat) (addr tag : Nat) : Option Nat :=
  match (leafPrefixes ws).filter (fun p => p.covers addr tag) with
  | [] => none
  | p :: rest =>
    let b := rest.foldl (fun a b => if a.len < b.len then b else a) p
    some (3 * 2 ^ 62 + b.len * 2 ^ 54 + b.hop)

/-- T0 and T1 of a reference. -/
def refResult (r : Nat) : List Nat := [r / 2 ^ 32, r % 2 ^ 32]

/-- Units of one prefix, and long-pool prefixes: (units, long) (R166, R186, R200). -/
def prefixUnits (family : Nat) (p : Prefix) : Nat × Nat :=
  if p.mask = 0 then (0, 0)
  else if family = 0 then (1, 0) else if p.len ≤ 64 then (2, 0) else (0, 1)

/-- Units and long prefixes that a leaf block counts. -/
def leafUnits (ws : List Nat) : Nat × Nat :=
  (leafPrefixes ws).foldl (fun a p => let u := prefixUnits (bits (w ws 0) 55 54) p; (a.1 + u.1, a.2 + u.2)) (0, 0)

/-! ## TCAM (R98, R99, R189, R190) -/

/-- Byte b of TCAM_MAP of a group. -/
def State.tcamByte (s : State) (g b : Nat) : Nat := (domOctets (s.rd R.grp_TCAM_MAP g)).getD b 0

/-- Blocks assigned to a stage: direction 1 egress. -/
def State.tcamBlocks (s : State) (g dir stage : Nat) : List Nat :=
  (List.range 16).filter (fun b => bit (s.tcamByte g b) 7 && b2n (bit (s.tcamByte g b) 6) == dir && s.tcamByte g b % 16 == stage)

/-- The stage searches at 640 bits. -/
def State.tcamWide (s : State) (g dir stage : Nat) : Bool := bit (s.rd R.grp_TCAM_WIDE g) (16 * dir + stage)

/-- An entry's words, VALUE and MASK of 160 bits. -/
def tcamValue (ws : List Nat) : Nat := w ws 2 * 2 ^ 96 + w ws 3 * 2 ^ 32 + w ws 4 / 2 ^ 32
def tcamMask (ws : List Nat) : Nat := w ws 4 % 2 ^ 32 * 2 ^ 128 + w ws 5 * 2 ^ 64 + w ws 6

/-- 160 bits of a key match an entry. -/
def tcamBits (ws : List Nat) (key : Nat) : Bool := Nat.land (Nat.xor key (tcamValue ws)) (tcamMask ws) == 0

/-- The index that a search of a group's stage finds (R190): key of 160 or 640 bits. -/
def State.tcamFind (s : State) (g dir stage : Nat) (key tag : Nat) : Option Nat :=
  let live (i : Nat) : Bool := let e := s.entry (18 + g) i; bit (w e 0) 63 && bit (bits (w e 0) 62 61) tag
  -- only entries that hold a word can be VALID: the search runs over those, lowest first
  let held := ((s.tab.tcam.filter (fun e => e.1 / 8 / 32768 == g && e.1 % 8 == 0)).map (fun e => e.1 / 8 % 32768))
  let blocks := s.tcamBlocks g dir stage
  if s.tcamWide g dir stage then
    (held.filter (fun i => i / 2048 % 4 == 0 && blocks.contains (i / 2048))).find? (fun i => live i
      && (List.range 4).all (fun j => tcamBits (s.entry (18 + g) (i + 2048 * j)) (key / 2 ^ (160 * (3 - j)) % 2 ^ 160)))
  else (held.filter (fun i => blocks.contains (i / 2048))).find? (fun i => live i && tcamBits (s.entry (18 + g) i) (key / 2 ^ 480))

/-! ## Writing entries -/

/-- ENTRIES follows the validity of an entry. -/
def State.countEntry (s : State) (t : Nat) (old new : Bool) : State :=
  if old = new then s else if new then s.wr R.tbl_ENTRIES t (s.rd R.tbl_ENTRIES t + 1)
  else s.wr R.tbl_ENTRIES t (s.rd R.tbl_ENTRIES t - 1)

/-- Usage of a tenant changed. -/
def State.useTenant (s : State) (r : Reg) (t : Nat) (f : Nat → Nat) : State := s.wr r t (f (s.rd r t) % 2 ^ 32)

/-- HOST_USED follows the owner of an entry (R200, R220). -/
def State.countOwner (s : State) (old new : List Nat) : State :=
  let s1 := if hostValid old && hostOwned old then s.useTenant R.tquota_HOST_USED (hostOwner old) (· - 1) else s
  if hostValid new && hostOwned new then s1.useTenant R.tquota_HOST_USED (hostOwner new) (· + 1) else s1

/-- POISONED of the maintenance object follows an entry. -/
def State.countPoison (s : State) (t : Nat) (old new : List Nat) : State :=
  let a := entryPoisoned t old
  let b := entryPoisoned t new
  if a = b then s else s.wr R.tmnt_POISONED t (if b then s.rd R.tmnt_POISONED t + 1 else s.rd R.tmnt_POISONED t - 1)

/-- Bits of word `wd` of an entry that its layout reserves (R178, R180, R189, R192, R193, R195). PORT, TENANT and NEXTHOP hold what the
image makes of them (R191): no bit of theirs is reserved to the device. -/
def reservedBits (t wd : Nat) : Nat :=
  if t = 2 then (if wd = 0 then 0x60 * 2 ^ 48 + 0xFF * 2 ^ 32 else 0)
  else if t = 5 then 0x70 * 2 ^ 56 + (2 ^ 29 - 1) * 2 ^ 21
  else if t = 6 then 0x7FF * 2 ^ 20
  else if t = 7 then (if wd = 0 then 1 else 0)
  else if t = 9 then (if wd = 0 then 0x3FF * 2 ^ 52 + 0xFF * 2 ^ 32 else if 20 ≤ wd then 2 ^ 64 - 1 else 0)
  else if isAux t then (if wd = 0 then (2 ^ 28 - 1) * 2 ^ 32 else 0)
  else if isTcam t then (if wd = 0 then 2 ^ 61 - 1 else 0)
  else 0

/-- Words of an entry as they are stored: what is written to reserved bits is ignored, and they read zero (R3). -/
def cleanWords (t : Nat) (ws : List Nat) : List Nat :=
  ws.zipIdx.map (fun e => Nat.land (e.1 % 2 ^ 64) (2 ^ 64 - 1 - reservedBits t e.2))

/-- A word with some bits cleared. -/
def without (v m : Nat) : Nat := Nat.land v (2 ^ 64 - 1 - m)

/-- A trie reference as it is stored: the reserved bits of its form read zero (R184). -/
def cleanRef (r : Nat) : Nat :=
  without r (match refKind r with
    | 1 => 0x1FF * 2 ^ 40
    | 2 => 2 ^ 61 + 0xFFFF * 2 ^ 40
    | 3 => (2 ^ 34 - 1) * 2 ^ 20
    | _ => 0)

/-- A leaf block as it is stored: the reserved bits of its header and of its family's entries read zero (R186). -/
def cleanLeaf (ws : List Nat) : List Nat :=
  let f := bits (w ws 0) 55 54
  ws.zipIdx.map (fun e => without e.1 (
    if e.2 = 0 then 3 * 2 ^ 52 + (2 ^ 39 - 1)
    else if f = 0 then 0xF * 2 ^ 20
    else if f = 1 then (if e.2 % 2 = 0 then (2 ^ 35 - 1) * 2 ^ 20 else 0)
    else if f = 2 then (if e.2 % 4 = 3 then (2 ^ 34 - 1) * 2 ^ 20 else if e.2 % 4 = 0 then 2 ^ 64 - 1 else 0)
    else 0))

/-- The words of an entry stored, with nothing counted. -/
def State.storeEntry (s : State) (t i : Nat) (ws0 : List Nat) : State :=
  let ws := cleanWords t ws0
  if t = 2 then s.putHost i ws
  else if t = 9 then s.putFars (s.slotAddr 9 i) ws
  else if t = 6 then s.putMember i (w ws 0)
  else if isTcam t then
    let k := ((t - 18) * 32768 + i) * 8
    let s1 := s.each ws.zipIdx (fun u e => { u with tab := { u.tab with tcam := mput 0 u.tab.tcam (k + e.2) (e.1 % 2 ^ 64) } })
    { s1 with tab := { s1.tab with upsets := mdel s1.tab.upsets (tcamKey ((t - 18) * 32768 + i)) } }
  else s.putNears (s.nearAddr t i) ws

/-- An entry written whole, with its counts (R200, R202, R220, R232). `owners`: whether the write counts for quotas. -/
def State.putEntry (s : State) (t i : Nat) (ws0 : List Nat) (owners : Bool) : State :=
  let ws := cleanWords t ws0
  let old := s.entry t i
  let s1 := ((s.storeEntry t i ws).countEntry t (entryHeld t old) (entryHeld t ws)).countPoison t old ws
  if t = 2 ∧ owners then s1.countOwner old ws
  else if t = 9 then
    let s2 := if entryValid 9 old && !lostFlow old then s1.useTenant R.tquota_FLOW_USED (flowTenant old) (· - 1) else s1
    if entryValid 9 ws && !lostFlow ws then s2.useTenant R.tquota_FLOW_USED (flowTenant ws) (· + 1) else s2
  else s1

/-- A hashed far entry poisoned (R232): uncorrectable words rewritten with valid check bits. -/
def State.poisonEntry (s : State) (t i : Nat) : State :=
  let a := s.slotAddr t i
  let old := s.entry t i
  let lostW0 := s.upset (farKey a) == 2
  let w0 := if t = 2 then
      (if lostW0 then 2 ^ 63 + 2 ^ 56 + 0xFFF * 2 ^ 40 else setBit (w old 0) 56 true)
    else (if lostW0 then 2 ^ 63 + 2 ^ 62 + 0xFFF * 2 ^ 40 else setBit (w old 0) 62 true)
  let ws := old.zipIdx.map (fun e => if e.2 = 0 then w0 else if s.upset (farKey (a + 8 * e.2)) = 2 then 0 else e.1)
  ((s.storeEntry t i ws).countEntry t (entryHeld t old) true).countPoison t old ws

/-- An uncorrectable far slot met by a walk, a command, a window or the telemetry unit: poisoned and reported (R231). The entry's rewrite
passes Babbitt in the class of the block that makes it (R278). -/
def State.poisonSeen (s : State) (t i src cls : Nat) : State :=
  ((s.poisonEntry t i).tableAccess .posted cls (s.slotAddr t i) (8 * entryWords t) true).reportBad t src 0x0E (s.slotAddr t i)

/-- Every bad candidate slot of a key poisoned, every correctable error reported (R198, R231); an auxiliary slot with bad parity is
reported and stays. -/
def State.checkCandidates (s : State) (t : Nat) (key : Octets) (src cls : Nat) : State :=
  s.each (s.candidates t key) (fun u l =>
    if u.entryErr t l = 2 then (if isAux t then u.reportBad t src 0x0F (u.entryAddr t l) else u.poisonSeen t l src cls)
    else if u.entryErr t l = 1 then u.reportCorrected t src (u.entryAddr t l) else u)

/-! ## Counters (R194) -/

/-- The home of a counter pair (R194). -/
def State.homeAddr (s : State) (i : Nat) : Nat := farAddr (i % 8) (s.regionBase 8 (i % 8) + i / 8 * 16)

/-- The accumulator line of a pair. -/
def lineAddr (i : Nat) : Nat := lineBase + 8 * (i % 1048576)

/-- Deltas that a line holds: tag, packets, bytes. -/
def State.line (s : State) (i : Nat) : Nat × Nat × Nat :=
  let v := s.near (lineAddr i); (bits v 63 60, bits v 59 40, bits v 39 0)
def State.setLine (s : State) (i pk by_ : Nat) : State := s.putNear (lineAddr i) (i / 1048576 % 16 * 2 ^ 60 + pk * 2 ^ 40 + by_)

/-- Accesses that wait to write deltas home. -/
def State.flushes (s : State) : List Nat := s.accsOf (fun o => match o with
  | .flush _ _ _ => true
  | _ => false)

/-- A delta discarded (R194, R287). -/
def State.loseFlush (s : State) (pair pk : Nat) : State := (s.add R.ceng_LOST_PACKETS 0 pk).fault 0x013 0x10 pair

/-- A line's delta leaves for its home, or is lost when the queue is full (R194) or the home's stack is off (R287). -/
def State.flushLine (s : State) (pair pk by_ : Nat) : State :=
  if pk = 0 ∧ by_ = 0 then s
  else if 4096 ≤ s.flushes.length ∨ ¬ s.stackUp (farStack (s.homeAddr pair)) then s.loseFlush pair pk
  else
    let s1 := s.tableAccess (.flush pair pk by_) clsUpdate (s.homeAddr pair) 16 true
    s1.wr R.ceng_FLUSH_QUEUED 0 s1.flushes.length

/-- Packets and bytes join the line of a counter pair (R194); a line that holds another pair is flushed first, and one that grows full after. -/
def State.accumulate (s : State) (i dp db : Nat) : State :=
  let (tag, pk, by_) := s.line i
  let mine := tag == i / 1048576 % 16
  let s1 := if mine then s else s.flushLine (tag * 1048576 + i % 1048576) pk by_
  let pk1 := (if mine then pk else 0) + dp
  let by1 := (if mine then by_ else 0) + db
  if 2 ^ 19 ≤ pk1 ∨ 2 ^ 39 ≤ by1 then (s1.flushLine i pk1 by1).setLine i 0 0 else s1.setLine i pk1 by1

/-! ## Pair reads and the divert store (R194, R507) -/

/-- One word of a pair's home as the reader finds it: an uncorrectable word is rewritten as zero (R231), in the reader's class (R278). -/
def State.homeWord (s : State) (a : Nat) : Nat × State :=
  if s.upset (farKey a) = 2 then (0, ((s.putFar a 0).tableAccess .posted clsTelem a 8 true).reportBad 8 0x013 0x0E a) else (s.far a, s)

/-- Deltas of a pair that have left its line and wait to be written home (R194). -/
def State.queuedDelta (s : State) (i : Nat) : Nat × Nat :=
  s.bab.accs.foldl (fun a e => match e.2.owner with
    | .flush p pk by_ => if p = i then (a.1 + pk, a.2 + by_) else a
    | _ => a) (0, 0)

/-- Packets and bytes of a pair: its home plus its pending delta, or the delta alone where its stack is off, which makes the result
PARTIAL (R507). -/
def State.readPair (s : State) (i : Nat) : PairValue × State :=
  let (tag, pk, by_) := s.line i
  let (lp, lb) := if tag = i / 1048576 % 16 then (pk, by_) else (0, 0)
  let (qp, qb) := s.queuedDelta i
  if s.stackUp (i % 8) then
    let a := s.homeAddr i
    let (hp, s1) := (s.tableAccess .telem clsTelem a 16 false).homeWord a
    let (hb, s2) := s1.homeWord (a + 8)
    (⟨(hp + qp + lp) % 2 ^ 64, (hb + qb + lb) % 2 ^ 64, false⟩, s2)
  else (⟨(qp + lp) % 2 ^ 64, (qb + lb) % 2 ^ 64, true⟩, s)

/-- A pair belongs to a COUNTER dump that has fallen due or is being written. -/
def State.passHas (s : State) (i : Nat) : Bool :=
  let has (e : Nat × DumpJob) : Bool := e.2.counter && !e.2.late && decide ((i + 16777216 - e.2.first) % 16777216 < e.2.count)
  s.tel.due.any has || s.tel.dumps.any has

/-- The running pass has yet to read a pair: its bit is clear. -/
def State.unread (s : State) (i : Nat) : Bool := s.passHas i && (mfind s.tel.passRead i).isNone

/-- What the divert store holds of a pair. -/
def State.diverted (s : State) (i : Nat) : Nat × Nat :=
  match mfind s.tel.divert (i % 262144) with
  | some d => if d.pair = i then (d.packets, d.bytes) else (0, 0)
  | none => (0, 0)

/-- The reader reads a pair: its value is kept for the pass, and what was diverted from it joins the accumulators. -/
def State.readOut (s : State) (i : Nat) : State :=
  let (v, s1) := s.readPair i
  let s2 := { s1 with tel := { s1.tel with passRead := mins s1.tel.passRead i v } }
  match mfind s2.tel.divert (i % 262144) with
  | some d =>
    if d.pair = i then ({ s2 with tel := { s2.tel with divert := mdel s2.tel.divert (i % 262144) } }).accumulate i d.packets d.bytes else s2
  | none => s2

/-- A post to a pair that the pass has yet to read goes to its line of the divert store; a line that holds another pair has that pair read out of
order first (R507). -/
def State.divertPost (s : State) (i bytes : Nat) : State :=
  let s1 := match mfind s.tel.divert (i % 262144) with
    | some d => if d.pair = i then s else s.readOut d.pair
    | none => s
  let (pk, by_) := s1.diverted i
  { s1 with tel := { s1.tel with divert := mins s1.tel.divert (i % 262144) ⟨i, pk + 1, by_ + bytes⟩ } }

/-- One post to a counter pair (R132, R194, R507). The table that is not RUNNING discards it (R209). -/
def State.post (s : State) (i bytes : Nat) : State :=
  let i := i % 16777216
  if s.rd R.tbl_STATE 8 ≠ 3 then s.add R.ceng_LOST_PACKETS 0 1
  else if s.unread i then s.divertPost i bytes
  else s.accumulate i 1 bytes

/-- A flush reaches its home (R194). An uncorrectable word of the home is rewritten as zero first (R231). -/
def State.landFlush (s : State) (pair pk by_ : Nat) : State :=
  let a := s.homeAddr pair
  let s1 := if s.upset (farKey a) = 2 then (s.putFar a 0).reportBad 8 0x013 0x0E a else s
  let s2 := if s1.upset (farKey (a + 8)) = 2 then (s1.putFar (a + 8) 0).reportBad 8 0x013 0x0E (a + 8) else s1
  (((s2.putFar a (s2.far a + pk)).putFar (a + 8) (s2.far (a + 8) + by_)).bump R.ceng_FLUSHES 0)

end Sys2Proof.Machine
end

