-- ==== Sys2Proof/Machine/Meters.lean ====
section
/-! DEFINITION. Counted lengths, meters and shapers (09_traffic_management.md R291 to R299, R304 to R308). -/

namespace Sys2Proof.Machine

/-- Counted length of a frame of `len` bytes under a profile (R291). -/
def State.counted (s : State) (len profile : Nat) : Nat := (max 1 ((len : Int) + s.rdI R.lprof_OVERHEAD profile)).toNat

/-- M: the count divided by 10 (R293). -/
def State.m (s : State) : Nat := s.clk.count / 10

/-- The credit function (R294): bytes at M for a rate in b/s, and for a rate in kb/s. -/
def creditBits (rate m : Nat) : Nat := m * rate / 1000000000
def creditKbits (rate m : Nat) : Nat := m * rate / 1000000

/-! ## Meters (R295, R296) -/

/-- A meter's colours: 0 green, 1 yellow, 2 red. -/
def green : Nat := 0
def yellow : Nat := 1
def red : Nat := 2

/-- Rates and caps of a meter from W0 (R193). -/
def meterCir (w0 : Nat) : Nat := bits w0 55 44 * 2 ^ bits w0 60 56
def meterEir (w0 : Nat) : Nat := bits w0 38 27 * 2 ^ bits w0 43 39
def meterCbs (w0 : Nat) : Nat := bits w0 26 14 * 128
def meterEbs (w0 : Nat) : Nat := bits w0 13 1 * 128

/-- Both buckets after crediting from M `last` to M `now` (R296). -/
def meterCredit (w0 last now tc te : Nat) : Nat × Nat :=
  let dc := creditBits (meterCir w0) now - creditBits (meterCir w0) last
  let de := creditBits (meterEir w0) now - creditBits (meterEir w0) last
  let alg := bits w0 63 62
  if alg = 0 then
    let tc' := min (meterCbs w0) (tc + dc)
    (tc', min (meterEbs w0) (te + (tc + dc - tc')))
  else (min (meterCbs w0) (tc + dc), min (meterEbs w0) (te + de))

/-- The colour of a packet of B bytes and the tokens left (R296); `input` 0 green or blind, 1 yellow, 2 red. -/
def meterColour (alg tc te b input : Nat) : Nat × Nat × Nat :=
  if alg = 3 then (red, tc, te)
  else if alg = 1 then
    if input = 2 ∨ te < b then (red, tc, te)
    else if input = 1 ∨ tc < b then (yellow, tc, te - b)
    else (green, tc - b, te - b)
  else
    if input = 2 then (red, tc, te)
    else if input = 1 then (if b ≤ te then (yellow, tc, te - b) else (red, tc, te))
    else if b ≤ tc then (green, tc - b, te)
    else if b ≤ te then (yellow, tc, te - b)
    else (red, tc, te)

/-- One update of a meter's words at M `now` by a packet of `b` bytes; b = 0 is the sweeper's update, which colours nothing. -/
def meterStep (w0 w1 now b input : Nat) : Nat × Nat :=
  let delta := (now % 2 ^ 24 + 2 ^ 24 - bits w1 63 40) % 2 ^ 24
  let (tc, te) := meterCredit w0 (now - delta) now (bits w1 39 20) (bits w1 19 0)
  let (c, tc', te') := if b = 0 then (green, tc, te) else meterColour (bits w0 63 62) tc te b input
  (c, now % 2 ^ 24 * 2 ^ 40 + tc' * 2 ^ 20 + te')

/-- W1 of a meter that is filled (R298). -/
def meterFull (w0 now : Nat) : Nat := now % 2 ^ 24 * 2 ^ 40 + meterCbs w0 * 2 ^ 20 + meterEbs w0

/-- A tenant's guard refuses an index (R299): its range starts at `first`, of `count`. -/
def State.guarded (s : State) (tenant : Nat) (first count : Reg) (i : Nat) : Bool :=
  s.on R.tlimit_GUARD tenant
    && !(decide (s.rd first tenant ≤ i) && decide (i < s.rd first tenant + s.rd count tenant))

/-- A guard's refusal is counted (R299). -/
def State.violation (s : State) (tenant : Nat) : State := (s.bump R.meng_GUARD_VIOLATIONS 0).bump R.tlimit_VIOLATIONS tenant

/-- A packet's meter update at an index (R296, R299, R209): its colour. While the table is not RUNNING the colour stays. -/
def State.meter (s : State) (i b colour tenant : Nat) : Nat × State :=
  let input := if colour = 3 then 2 else colour
  if s.guarded tenant R.tlimit_METER_FIRST R.tlimit_METER_COUNT i then (red, (s.violation tenant).bump R.meng_RED_OUT 0)
  else if s.rd R.tbl_STATE 7 ≠ 3 then (colour, s)
  else
    let a := meterBase + 16 * i
    let w0 := s.near a
    let (c, w1) := meterStep w0 (s.near (a + 8)) s.m b (if bit w0 61 then input else 0)
    (c, (s.putNear (a + 8) w1).bump (if c = 0 then R.meng_GREEN_OUT else if c = 1 then R.meng_YELLOW_OUT else R.meng_RED_OUT) 0)

/-- The sweeper's 32 meters of one slot (R295). -/
def State.sweepMeters (s : State) : State :=
  if s.rd R.tbl_STATE 7 ≠ 3 then s
  else
    let p := s.trf.sweep
    let s1 := s.each (List.range 32) (fun t i =>
      let a := meterBase + 16 * (p + i)
      t.putNear (a + 8) (meterStep (t.near a) (t.near (a + 8)) t.m 0 0).2)
    let p' := (p + 32) % 524288
    let s2 := { s1 with trf := { s1.trf with sweep := p' } }
    if p' = 0 then s2.bump R.meng_SWEEPS 0 else s2

/-- A START of the METER table fills every bucket of every meter, with LAST_UPDATE at M (R298). -/
def State.fillMeters (s : State) : State :=
  s.each (List.range 524288) (fun t i => t.putNear (meterBase + 16 * i + 8) (meterFull (t.near (meterBase + 16 * i)) t.m))

/-- A counter post with the tenant's guard (R299). -/
def State.postGuarded (s : State) (tenant i bytes : Nat) : State :=
  if s.guarded tenant R.tlimit_COUNTER_FIRST R.tlimit_COUNTER_COUNT (i % 16777216) then s.violation tenant else s.post i bytes

/-! ## Shapers (R304 to R308) -/

/-- The register of shaper `n`: 0x5130 for the first 65,536, 0x5131 for the others. -/
def shaperReg (sub n : Nat) : Reg × Nat := if n < 65536 then (⟨0x5130, sub⟩, n) else (⟨0x5131, sub⟩, n - 65536)
def State.shRd (s : State) (sub n : Nat) : Nat := let (r, i) := shaperReg sub n; s.rd r i
def State.shWr (s : State) (sub n v : Nat) : State := let (r, i) := shaperReg sub n; s.wr r i v
def State.shRate (s : State) (n : Nat) : Nat := s.shRd 1 n
def State.shBurst (s : State) (n : Nat) : Nat := s.shRd 2 n
def State.shProfile (s : State) (n : Nat) : Nat := s.shRd 3 n

/-- A shaper's bucket; before anything has charged or set it it holds 0 tokens, as TOKENS reads (R318). -/
def State.shaper (s : State) (n : Nat) : Shaper := (mfind s.trf.shapers n).getD ⟨0, 0, none, false⟩
def State.setShaper (s : State) (n : Nat) (x : Shaper) : State := { s with trf := { s.trf with shapers := mins s.trf.shapers n x } }

/-- Tokens at M `now` (R294, R305). -/
def State.tokensAt (s : State) (n now : Nat) : Int :=
  let x := s.shaper n
  let c := creditKbits (s.shRate n) now - creditKbits (s.shRate n) x.last
  min (s.shBurst n : Int) (x.tokens + c)

/-- A shaper holds tokens of zero or more; one that waits on the wheel does not until the wheel releases it (R306). -/
def State.shaperOk (s : State) (n : Nat) : Bool :=
  s.shRate n == 0 || ((s.shaper n).due.isNone && !s.trf.carried.contains n && decide (0 ≤ s.tokensAt n s.m))

/-- The least M at which the credit of a rate repays D bytes from M `now` (R306). -/
def dueTime (rate now d : Nat) : Nat := ceilDiv ((creditKbits rate now + d) * 1000000) rate

/-- A shaper below zero enters the wheel (R306). -/
def State.toWheel (s : State) (n : Nat) (tokens : Int) : State :=
  let e := dueTime (s.shRate n) s.m tokens.natAbs
  s.setShaper n ⟨tokens, s.m, some e, decide (4096 ≤ e - s.m)⟩

/-- Charge a shaper with a packet's counted length under its profile (R302, R305). -/
def State.charge (s : State) (n len : Nat) : State :=
  if s.shRate n = 0 then s
  else
    let t := s.tokensAt n s.m - s.counted len (s.shProfile n)
    if t < 0 then s.toWheel n t else s.setShaper n ⟨t, s.m, none, false⟩

/-- A change of RATE or BURST takes effect with the tokens as they stand, capped at the new BURST (R305): `f` writes it. -/
def State.reshape (s : State) (n : Nat) (f : State → State) : State :=
  let t := if s.shRate n = 0 then (s.shaper n).tokens else s.tokensAt n s.m
  let s1 := f s
  -- a shaper without a limit holds tokens of zero or more
  let t' := if s1.shRate n = 0 then max 0 (min t (s1.shBurst n : Int)) else min t (s1.shBurst n : Int)
  let s2 := { s1 with trf := { s1.trf with carried := s1.trf.carried.filter (· != n) } }
  if s1.shRate n = 0 ∨ 0 ≤ t' then s2.setShaper n ⟨t', s.m, none, false⟩ else s2.toWheel n t'

/-- Shapers on a level of the wheel that are due at or before a time. -/
def State.dueShapers (s : State) (coarse : Bool) (f : Nat → Bool) : List Nat :=
  (s.trf.shapers.filter (fun e => e.2.coarse == coarse && (match e.2.due with
    | some d => f d
    | none => false))).map (·.1)

/-- A shaper of a fine slot is credited: released at zero or more, back to the wheel otherwise. -/
def State.creditShaper (s : State) (n : Nat) : State :=
  let t := s.tokensAt n s.m
  if t < 0 then s.toWheel n t else s.setShaper n ⟨t, s.m, none, false⟩

/-- Every coarse slot that has come begins: its entries move to the fine level. -/
def State.coarseSlots (s : State) : State :=
  if s.trf.coarseM ≤ s.m / 4096 then
    let s1 := (s.dueShapers true (fun d => d / 4096 ≤ s.m / 4096)).foldl (fun t n => t.setShaper n { t.shaper n with coarse := false }) s
    { s1 with trf := { s1.trf with coarseM := s.m / 4096 + 1 } }
  else s

/-- The next fine slot that has shapers of its own or carried to it: the slots before it, from `wheelM` on, release nothing. M + 1 when no
slot that has come has any. -/
def State.fineSlot (s : State) : Nat :=
  if !s.trf.carried.isEmpty then s.trf.wheelM
  else
    let due := s.trf.shapers.filterMap (fun e => if e.2.coarse then none else e.2.due)
    (due.map (fun d => max d s.trf.wheelM)).foldl min (s.m + 1)

/-- Shapers of a fine slot in the order of its releases: those carried to it, then its own. -/
def State.fineShapers (s : State) (slot : Nat) : List Nat :=
  s.trf.carried ++ (s.dueShapers false (fun d => d ≤ slot)).filter (fun n => !s.trf.carried.contains n)

/-- A fine slot begins: its shapers are credited, and up to 64 are released; the others are carried to the next. -/
def State.fineRelease (s : State) (slot : Nat) : State :=
  let mine := s.fineShapers slot
  let s1 := ((mine.take 64).foldl State.creditShaper s).add R.wheel_WHEEL_SLIPS 0 (mine.drop 64).length
  { s1 with trf := { s1.trf with carried := mine.drop 64, wheelM := slot + 1 } }

/-- WHEEL_FINE_SLOT (R306, R307): the next fine slot that has come, and has a shaper, begins; a coarse slot that has come with it begins
first. -/
def execWheelFineSlot (s : State) : Host.Outcome State Fault Refusal :=
  completes (
    if s.trf.wheelM ≤ s.m then
      let t := s.coarseSlots
      if t.fineSlot ≤ t.m then t.fineRelease t.fineSlot else { t with trf := { t.trf with wheelM := t.m + 1 } }
    else s)

/-- WHEEL_COARSE_SLOT (R306): a coarse slot that has come begins: its entries move to the fine level. -/
def execWheelCoarseSlot (s : State) : Host.Outcome State Fault Refusal := completes s.coarseSlots

/-- The registers that follow the shapers at a slot boundary (R318, R319). -/
def State.sampleShapers (s : State) : State :=
  let s1 := s.each s.trf.shapers (fun t e =>
    let n := e.1
    let v := if t.shRate n = 0 then e.2.tokens else t.tokensAt n t.m
    let t1 := t.shWr 5 n (toWord 32 v)
    if t.shRate n ≠ 0 ∧ v < 0 then
      let (r, i) := shaperReg 6 n
      let t2 := t1.bump r i
      if n < 768 then t2.bump R.psch_SHAPED_SLOTS n else t2
    else t1)
  let on (c : Bool) : Nat := (s.trf.shapers.filter (fun e => e.2.due.isSome && e.2.coarse == c)).length
  (s1.wr R.wheel_FINE_ENTRIES 0 (on false)).wr R.wheel_COARSE_ENTRIES 0 (on true)

/-- The shaper attached to a VOQ (R304). -/
def State.voqShaper (s : State) (v : Nat) : Option Nat :=
  (s.dict.find? (fun e => (keyIndex e.1 == 0x5130 || keyIndex e.1 == 0x5131) && keySub e.1 == 4 && e.2 == 2 ^ 31 + v)).map
    (fun e => if keyIndex e.1 = 0x5130 then keyInst e.1 else 65536 + keyInst e.1)

/-- A VOQ's shaper admits it (R308). -/
def State.voqShaperOk (s : State) (v : Nat) : Bool := match s.voqShaper v with
  | some n => s.shaperOk n
  | none => true

end Sys2Proof.Machine
end

