-- ==== Sys2Proof/Machine/Rings.lean ====
section
/-! DEFINITION. DMA rings, event rings and outstanding reads of the host endpoint (17_host_endpoint.md R531 to R547). -/

namespace Sys2Proof.Machine

/-- The state of a DMA ring. -/
def State.ring (s : State) (r : Nat) : RingSt := mget RingSt.idle s.ep.rings r

/-- The state with a DMA ring replaced. -/
def State.setRing (s : State) (r : Nat) (x : RingSt) : State :=
  { s with ep := { s.ep with rings := mput RingSt.idle s.ep.rings r x } }

/-- A setting of a DMA ring as its ENABLE 1 took it (R643). -/
def State.ringCfg (s : State) (x : Reg) (r : Nat) : Nat := ((s.ring r).cfg[x.sub - 2]?).getD (s.rd x r)

/-- Descriptors the host has given a ring and the device has not completed (R533). -/
def State.ringLeft (s : State) (r : Nat) : Nat := ((s.ring r).prod + 2 ^ 32 - (s.ring r).head) % 2 ^ 32

/-- A ring is RUNNING (R532). -/
def State.ringRuns (s : State) (r : Nat) : Bool := s.rd R.ring_RING_STATE r == 1

/-- Fire a ring's vector, or post RING_ATTENTION while MSI-X is disabled (R539). -/
def State.fireRing (s : State) (r : Nat) : State :=
  let fn := s.ringCfg R.ring_FUNCTION r
  let s1 := s.setRing r { s.ring r with
    armed := false, waiting := false, holdUntil := s.clk.ticks + ticksUs (s.ringCfg R.ring_INT_HOLDOFF r) }
  if s.msix fn then s1.sendMsix fn (s.ringCfg R.ring_VECTOR r) else s1.event fn 0x0021 [r * 2 ^ 56]

/-- Fire when the ring runs and is armed, completions wait and the holdoff has passed (R539); no other ring issues DMA (R532, R546). -/
def State.tryFire (s : State) (r : Nat) : State :=
  let x := s.ring r
  if s.ringRuns r && s.masters (s.ringCfg R.ring_FUNCTION r) && x.armed && x.waiting && decide (x.holdUntil ≤ s.clk.ticks) then s.fireRing r else s

/-- One descriptor completed: its status word written, RING_HEAD advanced, the vector fired when armed (R539, R544). -/
def State.completeDesc (s : State) (r word : Nat) : State :=
  let x := s.ring r
  let s1 := s.emit (.ringStatus r (x.head % s.ringCfg R.ring_ENTRIES r) word)
  (s1.setRing r { x with head := (x.head + 1) % 2 ^ 32, waiting := true }).tryFire r

/-! ## Record buffers (R536) -/

/-- Close the open record buffer of a receive ring; it begins and ends no packet, so SOP and EOP are clear. -/
def State.closeBuf (s : State) (r : Nat) : State :=
  match (s.ring r).buf with
  | none => s
  | some b =>
    (s.setRing r { s.ring r with buf := none }).completeDesc r
      (2 ^ 63 + b.kind * 2 ^ 57 + b.length * 2 ^ 42 + b.records * 2 ^ 26)

/-- The open buffer of a ring can take one more record of a kind and length. -/
def State.bufTakes (s : State) (r kind len : Nat) : Bool :=
  match (s.ring r).buf with
  | none => false
  | some b => b.kind == kind && decide (b.length + len ≤ s.ringCfg R.ring_BUF_SIZE r)

/-- A tag that no outstanding read holds. -/
def State.freeTag (s : State) : Nat :=
  ((List.range (s.ep.reads.length + 1)).find? (fun t => s.ep.reads.all (fun x => x.tag != t))).getD 0

/-- The receive descriptor at RING_HEAD is read: its W0 is the address of the buffer that is written next (R536). Host memory holds it, so
the octets written name the buffer by its slot. -/
def State.readDesc (s : State) (r : Nat) : State :=
  s.emit (.hostRead (s.ringCfg R.ring_FUNCTION r)
    (s.ringCfg R.ring_BASE r + (s.ring r).head % s.ringCfg R.ring_ENTRIES r * 16) 16 s.freeTag)

/-- Write a record into a receive ring; false when it found no buffer or a ring that is not RUNNING (R491, R537). One that comes between two
buffers of a packet takes the next buffer, and the packet goes on after it. -/
def State.record (s : State) (r kind : Nat) (bytes : Octets) : Bool × State :=
  if !s.ringRuns r || s.ringCfg R.ring_DIRECTION r != 1 || !s.masters (s.ringCfg R.ring_FUNCTION r) then (false, s)
  else
    let s1 := if s.bufTakes r kind bytes.length then s else s.closeBuf r
    match (s1.ring r).buf with
    | some b =>
      let s2 := s1.emit (.ringData r ((s1.ring r).head % s.ringCfg R.ring_ENTRIES r) b.length bytes)
      (true, s2.setRing r { s1.ring r with
        buf := some ⟨kind, b.length + bytes.length, b.records + 1, s.clk.ticks⟩ })
    | none =>
      if s1.ringLeft r = 0 ∨ s.ringCfg R.ring_BUF_SIZE r < bytes.length then (false, s1)
      else
        let s2 := (s1.readDesc r).emit (.ringData r ((s1.ring r).head % s.ringCfg R.ring_ENTRIES r) 0 bytes)
        (true, s2.setRing r { s1.ring r with buf := some ⟨kind, bytes.length, 1, s.clk.ticks⟩ })

/-! ## Reads (R538) -/

/-- The identity that both functions report in configuration space (R522): vendor ID, device ID, class code. -/
def functionIdentity : Nat × Nat × Nat := (Config.vendorId % 2 ^ 16, Config.deviceId % 2 ^ 16, 0x028000)

/-- The attributes of a transaction the device emits (R522, R544): never No Snoop, never ID-based ordering; Relaxed Ordering only on
packet and record data, and only while the function that owns the ring has Enable Relaxed Ordering set. -/
def State.tlpAttr (s : State) : Out → TlpAttr
  | .ringData r _ _ _ => ⟨false, false, (s.conf (s.ringCfg R.ring_FUNCTION r)).relax⟩
  | _ => ⟨false, false, false⟩

/-- TAGS_OUT and TAGS_HWM follow the reads outstanding (R549). -/
def State.countTags (s : State) : State :=
  (s.wr R.ep_TAGS_OUT 0 s.ep.reads.length).raise R.ep_TAGS_HWM 0 s.ep.reads.length

/-- Tags available to a function: 4,096 with 14-bit tags enabled, 768 with 10-bit tags, 256 otherwise (R538). -/
def State.tagPool (s : State) (fn : Nat) : Nat := if (s.conf fn).tag14 then 4096 else if (s.conf fn).tag10 then 768 else 256

/-- The reads that an engine may still issue: a ring holds at most READ_CREDITS, the other engines 64 together, and the pool has an end. -/
def State.readRoom (s : State) (engine fn : Nat) : Nat :=
  let own := (s.ep.reads.filter (fun x => if engine < 256 then x.engine == engine else decide (256 ≤ x.engine))).length
  min (s.tagPool fn - s.ep.reads.length) ((if engine < 256 then s.ringCfg R.ring_READ_CREDITS engine else 64) - own)

/-- The reads that fetch some octets, none longer than Max_Read_Request_Size and none beyond a multiple of it (R538). -/
def readParts (size addr len : Nat) : List (Nat × Nat) :=
  if len = 0 then []
  else (List.range ((addr + len - 1) / size - addr / size + 1)).map (fun i =>
    let from_ := if i = 0 then addr else (addr / size + i) * size
    (from_, min (addr + len) ((addr / size + i + 1) * size) - from_))

/-- One read of an engine goes out and is outstanding. -/
def State.issueOne (s : State) (engine fn : Nat) (part : Nat × Nat) : State :=
  let t := s.freeTag
  ({ s with ep := { s.ep with reads := s.ep.reads ++ [(⟨t, engine, s.clk.ticks⟩ : ReadRec)], rrEngine := engine + 1 } }).emit
    (.hostRead fn part.1 part.2 t)

/-- Issue the reads of an engine that has none outstanding: as many as it may have at once, the others as these complete; 0 to 255 is a
ring, 256 to 263 the image of a group, 264 the board table. -/
def State.issueRead (s : State) (engine fn addr len : Nat) : State :=
  let n := s.readRoom engine fn
  if n ≠ 0 ∧ s.ep.reads.all (fun x => x.engine != engine) then
    let parts := readParts (s.conf fn).readSize addr len
    let s1 := (s.each (parts.take n) (fun t x => t.issueOne engine fn x)).countTags
    { s1 with ep := { s1.ep with later := mput [] s1.ep.later engine (parts.drop n) } }
  else s

/-- A transmit ring has a packet to fetch: RUNNING, descriptors given, none in progress, and its pipeline group RUNNING; a PORT_DIRECT
packet's group is known once its descriptor has been read (R115, R534, R535). -/
def State.wantsFetch (s : State) (r : Nat) : Bool :=
  s.ringRuns r && s.ringCfg R.ring_DIRECTION r == 0 && s.ringLeft r != 0 && !(s.ring r).fetching && s.masters (s.ringCfg R.ring_FUNCTION r)
    && (match (if s.ringCfg R.ring_TX_MODE r = 1 then (s.ring r).waitGroup else some (s.ringCfg R.ring_TX_PIPE r / 4)) with
      | some g => s.rd R.grp_STATE g == 3
      | none => true)

/-- Begin the fetch of the packet at RING_HEAD of a transmit ring. -/
def State.startFetch (s : State) (r : Nat) : State :=
  if s.wantsFetch r ∧ s.readRoom r (s.ringCfg R.ring_FUNCTION r) ≠ 0 then
    (s.setRing r { s.ring r with fetching := true }).issueRead r (s.ringCfg R.ring_FUNCTION r)
      (s.ringCfg R.ring_BASE r + (s.ring r).head % s.ringCfg R.ring_ENTRIES r * 32) 32
  else s

/-- A load from the host that has no read outstanding issues its reads. -/
def State.startLoadRead (s : State) (g : Nat) : State :=
  match mfind s.pip.loading g with
  | some (len, addr, 0) => s.issueRead (256 + g) 0 addr len
  | _ => s

/-- Serve the transmit rings that wait for a read, in round robin, and the loads (R538). -/
def State.pumpReads (s : State) : State :=
  let rs := s.ep.rings.map (·.1)
  (s.each (rs.filter (fun r => decide (s.ep.rrEngine ≤ r)) ++ rs.filter (fun r => decide (r < s.ep.rrEngine)))
    State.startFetch).each (s.pip.loading.map (·.1)) State.startLoadRead

/-- Retire the reads an engine holds. -/
def State.retireReads (s : State) (engine : Nat) : State :=
  ({ s with ep := { s.ep with reads := s.ep.reads.filter (fun x => x.engine != engine), later := mdel s.ep.later engine } }).countTags

/-- The reads of an engine have all completed: those it still had to issue went out as the others came back. -/
def State.completeReads (s : State) (engine fn : Nat) : State :=
  (s.each (mget [] s.ep.later engine) (fun t x => t.emit (.hostRead fn x.1 x.2 t.freeTag))).retireReads engine

/-- The reads of a transmit packet beyond that of its first descriptor: its other descriptors and its buffers (R534, R538). As the packet is
fetched whole, they have all completed; TAGS_HWM counts those that were outstanding at once. -/
def State.readBuffers (s : State) (r : Nat) (descs : List (List Nat)) : State :=
  let fn := s.ringCfg R.ring_FUNCTION r
  let at_ (i : Nat) : Nat := s.ringCfg R.ring_BASE r + ((s.ring r).head + i) % 2 ^ 32 % s.ringCfg R.ring_ENTRIES r * 32
  let parts := (List.range (descs.length - 1)).map (fun i => (at_ (i + 1), 32))
    ++ descs.flatMap (fun d => readParts (s.conf fn).readSize (d.getD 0 0) (txLength d))
  let n := max 1 (min parts.length (s.readRoom r fn))
  let tags := ((List.range (s.ep.reads.length + n)).filter (fun t => s.ep.reads.all (fun x => x.tag != t))).take n
  (s.each parts.zipIdx (fun t x => t.emit (.hostRead fn x.1.1 x.1.2 (tags.getD (x.2 % n) 0)))).raise R.ep_TAGS_HWM 0
    (s.ep.reads.length + n)

/-! ## Ring states (R532, R545, R546) -/

/-- A packet of a transmit ring that waits for its ingress slot is discarded: its descriptors are not completed, and RESUME reads
it again (R532). -/
def State.dropHost (s : State) (r : Nat) : State :=
  { s with pip := { s.pip with pipes := s.pip.pipes.map (fun (e : Nat × PipeSt) =>
      (e.1, { e.2 with host := e.2.host.filter (fun x => x.1 % 256 != r) })) } }

/-- The packet that a receive ring has begun to deliver is discarded (R532). -/
def State.dropProgress (s : State) (r : Nat) : State :=
  if (s.ring r).progress = 0 then s else ((s.dequeue (hostKey r)).2).settle (hostKey r)

/-- A ring stops with a cause and posts RING_STOPPED; its indices stay, and a receive buffer that was not completed is written again from
its start (R532, R545). -/
def State.stopRing (s : State) (r cause : Nat) : State :=
  let s1 := ((s.dropHost r).wr R.ring_RING_STATE r 2).wr R.ring_STOP_CAUSE r cause
  ((s1.setRing r { s.ring r with fetching := false, buf := none }).retireReads r).event 0 0x0020 [r * 2 ^ 56 + cause * 2 ^ 48]

/-- A ring frozen: no DMA, its reads retired, its indices kept (R546). A DISABLED ring holds nothing and stays so. -/
def State.freezeRing (s : State) (r : Nat) : State :=
  if s.rd R.ring_RING_STATE r = 0 then s
  else ((((s.dropHost r).wr R.ring_RING_STATE r 3).setRing r { s.ring r with fetching := false, buf := none }).retireReads r)

/-- An event ring frozen (R546). -/
def State.freezeEv (s : State) (p : Nat) : State :=
  if s.rd R.ering_STATE p = 0 then s else s.wr R.ering_STATE p 3

/-- DMA rings that a function owns, and event rings located in it. -/
def State.ringsOf (s : State) (fn : Nat) : List Nat := (List.range 256).filter (fun r => s.ringCfg R.ring_FUNCTION r == fn)
def State.evsOf (s : State) (fn : Nat) : List Nat := (List.range 64).filter (fun p => s.evCfg R.ering_LOCATION p == fn)

/-- Rings and event rings that are RUNNING or STOPPED: those a freeze moves. -/
def State.freezable (s : State) : Nat :=
  ((List.range 256).filter (fun r => s.rd R.ring_RING_STATE r == 1 || s.rd R.ring_RING_STATE r == 2)).length
    + ((List.range 64).filter (fun p => s.rd R.ering_STATE p == 1 || s.rd R.ering_STATE p == 2)).length

/-- A load from the host ends with FETCH_ERROR: `g` is a group, or 8 for the board table (R545). -/
def State.loadFails (s : State) (g : Nat) : State :=
  let s1 := { s with pip := { s.pip with loading := mdel s.pip.loading g } }
  if g < 8 then s1.wr R.img_STATUS g 8 else s1.wr R.board_STATUS 0 7

/-- The reads of image and board table loads are retired, and the loads end (R545, R546). -/
def State.endLoads (s : State) : State :=
  let loads := s.ep.reads.filter (fun x => decide (256 ≤ x.engine))
  (s.each loads (fun t x => t.loadFails (x.engine - 256))).each loads (fun t x => t.retireReads x.engine)

/-- Every ring FROZEN, the link down (R546); a load that reads host memory gets no data any more. -/
def State.freezeAll (s : State) : State :=
  let n := s.freezable
  let s1 := (s.endLoads.each (List.range 256) State.freezeRing).each (List.range 64) State.freezeEv
  let s2 := ((s1.wr R.ep_ENDPOINT_STATE 0 0).wr R.ep_LINK_SPEED 0 0).wr R.ep_LINK_WIDTH 0 0
  let s3 := if s.ep.linkUp then s2.bump32 R.ep_FREEZES 0 else s2
  (({ s3 with ep := { s3.ep with linkUp := false, accepting := false, reads := [], later := [], winReads := [],
                                 frozenRings := if s.ep.linkUp then n else s.ep.frozenRings } }).countTags).interruptA

/-- The link is up, with configuration space at its reset values; rings stay as they are (R547, R593). -/
def State.linkReturns (s : State) (c : LinkConfig) : State :=
  let s1 := ((s.wr R.ep_ENDPOINT_STATE 0 1).wr R.ep_LINK_SPEED 0 (min c.speed (s.rd R.ep_MAX_SPEED 0))).wr R.ep_LINK_WIDTH 0 c.width
  ({ s1 with ep := { s1.ep with
      linkUp := true, accepting := s.rd R.prst_BOOT_STATE 0 == 8 || s.rd R.prst_BOOT_STATE 0 == 9
      conf0 := FnConf.reset, conf1 := FnConf.reset, pendingBits := [], returned := s.ep.upOnce, upOnce := true } }).interruptA

/-- BAR0 is served beyond SENTINEL: configuration is accepted and the boot has not halted for want of settings (R594, R595). -/
def State.barServed (s : State) : Bool := s.ep.accepting && s.rd R.prst_HALT_CAUSE 0 != 1

/-- The configuration of a DMA ring is one an ENABLE 1 may start (R530, R531): transmit rings belong to PF0, the vector exists. -/
def ringConfigOk (rdw : Reg → Nat → Nat) (r : Nat) : Bool :=
  let fn := rdw R.ring_FUNCTION r
  (rdw R.ring_DIRECTION r == 1 || fn == 0) && decide (rdw R.ring_VECTOR r < msixVectors fn)

/-- ENDPOINT_RESUMED: the first RESUME after the link returned (R547). It goes ahead of the OVERFLOW of R542. -/
def State.noteResume (s : State) : State :=
  if s.ep.returned then
    let s1 := { s with ep := { s.ep with returned := false } }
    if s1.rd R.ering_STATE 0 = 1 ∧ s1.evFree 0 ≠ 0 then s1.putEvent 0 0x0023 [s.ep.frozenRings]
    else s1.dropEvent 0
  else s

/-- A DMA ring is DISABLED and holds nothing; its host queue keeps its packets (R523, R532). -/
def State.disableRing (s : State) (r : Nat) : State :=
  ((((s.dropHost r).wr R.ring_RING_STATE r 0).wr R.ring_STOP_CAUSE r 0).retireReads r).setRing r RingSt.idle

/-- An ENABLE code takes effect on a DMA ring (R532): 0 DISABLE, which discards the packet in progress, 1 ENABLE with the
settings as the trigger took them (R643), 2 RESUME. -/
def State.enableRing (s : State) (r code : Nat) (cfg : List Nat) : State :=
  let st := s.rd R.ring_RING_STATE r
  if code = 0 then (s.dropProgress r).disableRing r
  else if code = 1 then
    if st = 0 then ((s.wr R.ring_RING_STATE r 1).wr R.ring_STOP_CAUSE r 0).setRing r { RingSt.idle with cfg := cfg } else s
  else if (st = 2 ∨ st = 3) ∧ s.masters (s.ringCfg R.ring_FUNCTION r) then
    ((((s.wr R.ring_RING_STATE r 1).wr R.ring_STOP_CAUSE r 0).setRing r { s.ring r with fetching := false }
      ).noteResume.tryFire r).startFetch r
  else s

/-- An ENABLE code takes effect on an event ring (R532). -/
def State.enableEv (s : State) (p code : Nat) (cfg : List Nat) : State :=
  let st := s.rd R.ering_STATE p
  if code = 0 then ((s.wr R.ering_STATE p 0).setEv p { EvSt.idle with lost := (s.ev p).lost }).interruptA
  else if code = 1 then
    if st = 0 then ((s.wr R.ering_STATE p 1).setEv p { EvSt.idle with lost := (s.ev p).lost, cfg := cfg }).interruptA.overflow p else s
  else if (st = 2 ∨ st = 3) ∧ s.masters (s.evCfg R.ering_LOCATION p) then ((s.wr R.ering_STATE p 1).noteResume.overflow p).interruptA
  else s

/-! ## Rows of the table: rings -/

/-- RING_DB (R533, R539): the producer index and the arming of a DMA ring of the writing function. -/
def execRingDb (pf ring val : Nat) (s : State) : Host.Outcome State Fault Refusal :=
  outcome (pf < 2 && ring < 256 && val < 2 ^ 64) s <|
    if s.ringCfg R.ring_FUNCTION ring ≠ pf ∨ s.rd R.ring_RING_STATE ring = 0 ∨ !s.barServed then s
    else
      let p := val % 2 ^ 32
      let ahead := (p + 2 ^ 32 - (s.ring ring).head) % 2 ^ 32
      if s.ringCfg R.ring_ENTRIES ring < ahead then s.stopRing ring 6
      else
        let s1 := s.setRing ring { s.ring ring with prod := p, armed := (s.ring ring).armed || bit val 63 }
        (s1.tryFire ring).startFetch ring

/-- EVENT_DB (R542, R543): the consumed index and the arming of an event ring located in the writing function. -/
def execEventDb (pf principal val : Nat) (s : State) : Host.Outcome State Fault Refusal :=
  outcome (pf < 2 && principal < 64 && val < 2 ^ 64) s <|
    if s.evCfg R.ering_LOCATION principal ≠ pf ∨ s.rd R.ering_STATE principal = 0 ∨ !s.barServed then s
    else
      let e := s.ev principal
      let arm := bit val 63
      -- records that this write leaves unconsumed wait for a vector
      let fire := arm && e.prod != val % 2 ^ 32 && s.msix pf && s.masters pf && s.rd R.ering_STATE principal == 1
      let s1 := s.setEv principal { e with cons := val % 2 ^ 32, armed := (e.armed || arm) && !fire }
      let s2 := if fire then s1.sendMsix pf (s.evCfg R.ering_VECTOR principal) else s1
      (s2.overflow principal).interruptA

/-- RX_HOLD_EXPIRE (R536): a record buffer with no new record for RX_HOLD is closed. -/
def execRxHoldExpire (ring : Nat) (s : State) : Host.Outcome State Fault Refusal :=
  outcome (ring < 256) s <|
    match (s.ring ring).buf with
    | none => s
    | some b =>
      if s.ringRuns ring && s.past b.lastTick (ticksUs (s.ringCfg R.ring_RX_HOLD ring)) then s.closeBuf ring else s

/-- INT_HOLDOFF_EXPIRE (R539): the holdoff has passed and an armed ring with completions waiting fires. -/
def execIntHoldoffExpire (ring : Nat) (s : State) : Host.Outcome State Fault Refusal :=
  outcome (ring < 256) s (s.tryFire ring)

/-- The engine of a read ends abnormally (R545). -/
def State.readFails (s : State) (engine cause : Nat) : State :=
  let s1 := s.retireReads engine
  if engine < 256 then s1.stopRing engine cause else s1.loadFails (engine - 256)

/-- AER's record of an abnormal completion, and the collector's message for the errors AER classes uncorrectable at the
requester: a timeout (bit 14) and a poisoned completion (bit 12) (R545, R555). -/
def State.aerNote (s : State) (cause : Nat) : State :=
  let s1 := { s with ep := { s.ep with aer := cause :: s.ep.aer } }
  if cause = 1 then s1.fault 0x004 0x24 (2 ^ 14) else if cause = 4 then s1.fault 0x004 0x24 (2 ^ 12) else s1

/-- CPL_ERROR (R545): a read completion ends abnormally with a cause of 2 to 4. -/
def execCplError (tag cause : Nat) (s : State) : Host.Outcome State Fault Refusal :=
  outcome (tag < 4096 && 2 ≤ cause && cause ≤ 4) s <|
    match s.ep.reads.find? (fun x => x.tag == tag) with
    | none => s
    | some x => ((s.aerNote cause).readFails x.engine cause).pumpReads

/-- The configuration of the function that issued a read. -/
def State.readConf (s : State) (x : ReadRec) : FnConf := s.conf (if x.engine < 256 then s.ringCfg R.ring_FUNCTION x.engine else 0)

/-- CPL_TIMEOUT (R545): a read gets no completion within the range. -/
def execCplTimeout (tag : Nat) (s : State) : Host.Outcome State Fault Refusal :=
  outcome (tag < 4096) s <|
    match s.ep.reads.find? (fun x => x.tag == tag) with
    | none => s
    | some x =>
      if !(s.readConf x).cplTimeoutOff && s.past x.since (ticksUs (s.readConf x).cplTimeout) then
        (((s.bump32 R.ep_CPL_TIMEOUTS 0).aerNote 1).readFails x.engine 1).pumpReads
      else s

/-- A mailbox whose request is abandoned: MB_STATUS reads 0, and nothing else of it changes (R523). -/
def Mailbox.abandon (m : Mailbox) : Mailbox := { m with busy := false, done := false, rejected := false, tag := 0 }

/-- FUNCTION_LEVEL_RESET (R523). -/
def execFunctionLevelReset (fn : Nat) (s : State) : Host.Outcome State Fault Refusal :=
  outcome (fn < 2) s <|
    let s1 := (s.each (s.ringsOf fn) State.disableRing).each (s.evsOf fn) (fun t p => t.enableEv p 0 [])
    let s2 := { s1 with
      acc := if fn = 0 then { s1.acc with mb0 := s1.acc.mb0.abandon } else { s1.acc with mb1 := s1.acc.mb1.abandon }
      remote := { s1.remote with ops := s1.remote.ops.filter (fun o => match o.owner with
        | .mailbox pf _ _ => pf != fn
        | .proxy _ => true) }
      ep := { s1.ep with pendingBits := s1.ep.pendingBits.filter (fun x => x.1 != fn) } }
    (s2.setConf fn FnConf.reset).interruptA

/-- ENDPOINT_FREEZE (R546): DL_Down or a hot reset. -/
def execEndpointFreeze (s : State) : Host.Outcome State Fault Refusal := completes s.freezeAll

/-- The rings of a function are frozen, and the loads that PF0 reads for end (R545, R546). -/
def State.freezeFn (s : State) (fn : Nat) : State :=
  let s1 := (s.each (s.ringsOf fn) State.freezeRing).each (s.evsOf fn) State.freezeEv
  let s2 := if fn = 0 then s1.endLoads else s1
  (s2.bump32 R.ep_FREEZES 0).interruptA

/-- FUNCTION_FREEZE (R546): a function enters D3hot or its Bus Master Enable is cleared. -/
def execFunctionFreeze (part : FreezePart) (s : State) : Host.Outcome State Fault Refusal :=
  outcome (part.fn < 2) s <|
    let c := s.conf part.fn
    (s.setConf part.fn (if part.d3hot then { c with d3hot := true } else { c with busMaster := false })).freezeFn part.fn

/-- The host writes a function's configuration space: one that may issue DMA no more is frozen (R546). -/
def State.configure (s : State) (fn : Nat) (c : FnConf) : State :=
  let s1 := s.setConf fn c
  if s.masters fn && !s1.masters fn then s1.freezeFn fn else s1

/-- ENDPOINT_RESUMED (R547, R548): the link returns, and the rings stay FROZEN until RESUME; with the link up, the host writes configuration
space, and messages that are masked no longer go out. -/
def execEndpointResumed (ev : LinkEvent) (s : State) : Host.Outcome State Fault Refusal :=
  outcome ev.ok s <|
    match ev with
    | .trained c => if s.domOn 3 && !s.ep.perstLow && !s.ep.linkUp then s.linkReturns c else s
    | .configured c0 c1 => if s.ep.linkUp then ((s.configure 0 c0).configure 1 c1).sendPending.interruptA else s

end Sys2Proof.Machine
end

