-- ==== Sys2Proof/Machine/Apertures.lean ====
section
/-! DEFINITION. What BAR2 shows: the apertures of the tables and the far rings, and reads through windows (06_table_maintenance.md R210;
08_babbitt_arbiter.md R287; 17_host_endpoint.md R527, R528). -/

namespace Sys2Proof.Machine

/-! ## Apertures (R210) -/

/-- Octets from one entry to the next in a table's aperture; ROUTE is addressed by octet. -/
def apStride (t : Nat) : Nat :=
  if t ≤ 1 ∨ isTcam t then 64 else if t = 2 then 32 else if t = 4 ∨ t = 7 ∨ isAux t then 16 else if t = 5 then 8 else 4

/-- A table that R210 gives an aperture. -/
def hasAperture (t : Nat) : Bool := t < 26 && t != 8 && t != 9

/-- Where the near nodes begin in the aperture of ROUTE. -/
def routeNearBase : Nat := 0x8000000000

/-- Octets of the aperture of a table, for given register values. -/
def apertureSize (rdw : Reg → Nat → Nat) (t : Nat) : Nat :=
  if t = 3 then routeNearBase + rdw R.rte_ROUTE_NODE_MIB 0 * 1048576
  else if isAux t then rdw R.tbl_ENTRY_COUNT t * 16
  else if t = 2 then 2 ^ 30
  else tableCapacity t * apStride t

/-- One aligned word of an aperture: a word of the near tier, of the far tier, or of an entry of a table. -/
inductive ApWord where
  | near (a : Nat)
  | far (a : Nat)
  | entry (i wd : Nat)
  | none
deriving DecidableEq, Repr

/-- What lies at an 8-aligned offset of a table's aperture. -/
def State.apWord (s : State) (t o : Nat) : ApWord :=
  if t = 3 then
    if routeNearBase ≤ o then
      (if o - routeNearBase < s.nodeBytes then .near (nodeBase + (o - routeNearBase)) else .none)
    else if s.inRegion 3 o 8 then .far o else .none
  else if apertureSize s.rd t ≤ o then .none
  else if t = 6 then .near (memberBase + o)
  else
    let i := o / apStride t
    let wd := o % apStride t / 8
    if t = 2 ∧ !s.inRegion 2 (s.slotAddr 2 i) 32 then .none else .entry i wd

/-- The octets of an aligned word of an aperture, as host memory holds them. -/
def State.apRead (s : State) (t o : Nat) : Octets :=
  toLE 8 (match s.apWord t o with
    | .near a => s.near a
    | .far a => s.far a
    | .entry i wd => w (s.entry t i) wd
    | .none => 0)

/-- The far-tier address of an aligned word of an aperture, if the far tier holds it. -/
def State.apFar (s : State) (t o : Nat) : Option Nat :=
  match s.apWord t o with
  | .far a => some a
  | .entry i wd => if t = 2 then some (s.slotAddr 2 i + 8 * wd) else none
  | _ => none

/-- The aligned offsets that a run of octets meets. -/
def alignedOffsets (a n : Nat) : List Nat :=
  if n = 0 then [] else (List.range ((a + n - 1) / 8 - a / 8 + 1)).map (fun i => a / 8 * 8 + 8 * i)

/-! ## A window's target -/

/-- The far-tier addresses of a far ring's octets. -/
def State.ringAddr (s : State) (f o : Nat) : Nat := s.rd R.fring_BASE f + o

/-- The far-tier words that an access of a window touches: of a table's aperture, or of a far ring (`kind` 1). -/
def State.targetFar (s : State) (kind t a len : Nat) : List Nat :=
  if kind = 1 then (alignedOffsets a len).map (s.ringAddr t) else (alignedOffsets a len).filterMap (s.apFar t)
def State.winFar (s : State) (n a len : Nat) : List Nat := s.targetFar (s.rd R.win_TARGET_KIND n) (s.rd R.win_TARGET n) a len

/-- The octets that a window's target holds from an aperture offset on. -/
def State.targetBytes (s : State) (kind t a len : Nat) : Octets :=
  let word (o : Nat) : Octets := if kind = 1 then toLE 8 (s.far (s.ringAddr t o)) else s.apRead t o
  slice ((alignedOffsets a len).flatMap word) (a % 8) len
def State.winBytes (s : State) (n a len : Nat) : Octets := s.targetBytes (s.rd R.win_TARGET_KIND n) (s.rd R.win_TARGET n) a len

/-- An access of a function to an offset of its BAR2 meets an enabled window of that function below SIZE. -/
def State.winServes (s : State) (pf offset len : Nat) : Bool :=
  let n := offset / 2 ^ 28
  s.on R.win_ENABLE n && s.rd R.win_FUNCTION n == pf && decide (offset % 2 ^ 28 + len ≤ s.rd R.win_SIZE n)

/-- The aperture offset of an access. -/
def State.winOffset (s : State) (offset : Nat) : Nat := s.rd R.win_APERTURE_BASE (offset / 2 ^ 28) + offset % 2 ^ 28

/-- The far-tier transfers of an access through a window, in class HOST: one for each 64-byte unit (R278, R279). -/
def State.winAccess (s : State) (owner : Acc2) (fars : List Nat) (write : Bool) : State :=
  s.each ((fars.map (fun a => a / 64 * 64)).eraseDups) (fun t a => t.tableAccess owner clsHost a 64 write)

/-- What the device does about the memory errors that a read met: as for a command read (R231, R528). -/
def State.winErrors (s : State) (kind t : Nat) (fars : List Nat) : State :=
  if kind = 1 then s
  else s.each fars (fun u a =>
    if u.upset (farKey a) = 2 then (if t = 2 then u.poisonSeen 2 (u.farLoc 2 a) 0x013 clsHost else u.reportBad 3 0x013 0x0E a)
    else if u.upset (farKey a) = 1 then u.reportCorrected t 0x013 a
    else u)

/-- A read through a window of words of the far tier waits for its transfers. -/
def State.openRead (s : State) (r : WinRead) : State :=
  let id := s.ep.winReads.foldl (fun m e => max m e.1) 0 + 1
  ({ s with ep := { s.ep with winReads := mins s.ep.winReads id r } }).winAccess (.window id) r.fars false

/-- A read is over: it waits for nothing more. -/
def State.closeRead (s : State) (id : Nat) : State :=
  let s1 := s.each (s.accsOf (fun p => p == .window id)) State.dropAcc
  { s1 with ep := { s1.ep with winReads := mdel s1.ep.winReads id } }

/-- All transfers of a read are done: it is completed with the octets as they stand, from one instant, poisoned where a word is
uncorrectable (R527, R528). -/
def State.winReply (s : State) (id : Nat) : State :=
  match mfind s.ep.winReads id with
  | none => s.closeRead id
  | some r =>
    let bad := r.fars.any (fun x => s.upset (farKey x) == 2)
    ((s.closeRead id).emit (.completion r.pf 0 bad (s.targetBytes r.kind r.target r.at_ r.len))).winErrors r.kind r.target r.fars

/-- A read whose stack goes off is completed with Completer Abort (R287). -/
def State.winAbort (s : State) (id : Nat) : State :=
  match mfind s.ep.winReads id with
  | none => s.closeRead id
  | some r => (s.closeRead id).emit (.completion r.pf 4 false [])

end Sys2Proof.Machine
end

