-- ==== Sys2Proof/Machine/Walks.lean ====
section
/-! DEFINITION. Far-tier walks, background table writers, completion of transfers (05_tables_and_lookups.md R196 to R199,
04_microcode.md R141 to R143, 06_table_maintenance.md R228, 08_babbitt_arbiter.md R279, R287). -/

namespace Sys2Proof.Machine

/-- Trap kinds and details (R136). -/
def trapWalk : Nat := 0
def trapFault : Nat := 1
def trapDevice : Nat := 2
def trapLimit : Nat := 3
def trapAssist : Nat := 4
def trapFence : Nat := 5

/-! ## The parked packets of a group -/

def State.parkedOf (s : State) (g : Nat) : List Parked := mget [] s.pip.parked g
def State.setParked (s : State) (g : Nat) (ps : List Parked) : State :=
  let n := ps.length
  ({ s with pip := { s.pip with parked := mput [] s.pip.parked g ps } }.wr R.trap_PARKED g n).raise R.trap_PARKED_HWM g n

/-! ## Open walks (R142, R143, R196) -/

/-- Number of an open walk in the map. -/
def walkNo (g id : Nat) : Nat := g * 512 + id

def State.walk? (s : State) (g id : Nat) : Option Walk := mfind s.tab.walks (walkNo g id)
def State.setWalk (s : State) (g id : Nat) (w : Walk) : State :=
  { s with tab := { s.tab with walks := mins s.tab.walks (walkNo g id) w } }

/-- The open walks of a group, by number. -/
def State.walksOf (s : State) (g : Nat) : List (Nat × Walk) :=
  (s.tab.walks.filter (fun e => e.1 / 512 == g)).map (fun e => (e.1 % 512, e.2))

/-- WALKS_OPEN follows. -/
def State.countWalks (s : State) (g : Nat) : State := s.wr R.trap_WALKS_OPEN g (s.walksOf g).length

/-- The walk of a tag. -/
def Walk.tag (w : Walk) (t : Nat) : Option TagWalk := if t = 0 then w.tag0 else w.tag1
def Walk.setTag (w : Walk) (t : Nat) (x : TagWalk) : Walk := if t = 0 then { w with tag0 := some x } else { w with tag1 := some x }

/-- Update the walk of a tag. -/
def State.modTag (s : State) (g id t : Nat) (f : TagWalk → TagWalk) : State :=
  match s.walk? g id with
  | none => s
  | some w => match w.tag t with
    | none => s
    | some x => s.setWalk g id (w.setTag t (f x))

/-- The walk of a tag has read all it needs. -/
def State.endWalk (s : State) (g id t : Nat) (e : WalkEnd) : State := s.modTag g id t (fun x => { x with read := some e })

/-- The address of 128 bits in a TRIE key: K2 to K5 (R185). -/
def trieAddr (key : Octets) : Nat := fieldAt key 8 16

/-- The next read of a ROUTE walk, or its end (R197): `Except` end, or (address, bytes, the walk after it). -/
def State.routeNext (s : State) (x : TagWalk) (key : Octets) : Sum WalkEnd (Nat × Nat × TagWalk) :=
  let r := x.ref
  let a := trieAddr key
  let deep := decide (s.rd R.tbl_WALK_DEPTH_MAX 3 < x.depth + 1)
  if s.malformed r then .inl (.trap trapFault 2 (refAddr r))
  else if refKind r = 0 then .inl (.miss none)
  else if refKind r = 3 then .inl (.hit (refResult r) none none)
  else if refKind r = 1 then
    let slot := nodeSlot r a
    if !refFar r then .inl (.trap trapDevice 1 (nearReport (refAddr r)))
    else if deep then .inl (.trap trapFault 2 slot)
    else if x.visited.contains (refAddr r) then .inl (.trap trapFault 3 slot)
    else if !s.inRegion 3 slot 8 then .inl (.trap trapDevice 1 slot)
    else if !s.stackUp (farStack slot) then .inl (.trap trapFault 5 slot)
    else .inr (slot, 8, { x with depth := x.depth + 1, visited := refAddr r :: x.visited })
  else
    let n := 64 * refChunks r
    if deep then .inl (.trap trapFault 2 (refAddr r))
    else if x.visited.contains (refAddr r) then .inl (.trap trapFault 3 (refAddr r))
    else if !s.inRegion 3 (refAddr r) n then .inl (.trap trapDevice 1 (refAddr r))
    else if !s.stackUp (farStack (refAddr r)) then .inl (.trap trapFault 5 (refAddr r))
    else .inr (refAddr r, n, { x with depth := x.depth + 1 })

/-- Issue the next read of the walk of a tag, or end it (R197). -/
def State.walkOn (s : State) (g id t : Nat) : State :=
  match s.walk? g id with
  | none => s
  | some wk => match wk.tag t with
    | none => s
    | some x =>
      if wk.table = 2 then
        let b0 := s.slotAddr 2 (s.loc0 2 wk.key)
        let b1 := s.slotAddr 2 (s.loc4 2 wk.key)
        if !s.stackUp (farStack b0) then s.endWalk g id t (.trap trapFault 5 b0)
        else if !s.stackUp (farStack b1) then s.endWalk g id t (.trap trapFault 5 b1)
        else if !s.inRegion 2 b0 128 then s.endWalk g id t (.trap trapDevice 1 b0)
        else if !s.inRegion 2 b1 128 then s.endWalk g id t (.trap trapDevice 1 b1)
        else
          let s1 := s.setWalk g id (wk.setTag t { x with depth := 1 })
          (s1.tableAccess (.walk g id t) clsWalk b0 128 false).tableAccess (.walk g id t) clsWalk b1 128 false
      else match s.routeNext x wk.key with
        | .inl e => s.endWalk g id t e
        | .inr (a, n, x') => (s.setWalk g id (wk.setTag t x')).tableAccess (.walk g id t) clsWalk a n false

/-- What the reads of a walk hold, once all of them are back (R188, R197, R198). -/
def State.walkRead (s : State) (g id t : Nat) : State :=
  let src := 0x030 + g
  match s.walk? g id with
  | none => s
  | some wk => match wk.tag t with
    | none => s
    | some x =>
      if wk.table = 2 then
        let s1 := s.checkCandidates 2 wk.key src clsUpdate
        match s1.findEntry 2 wk.key t true with
        | some l => s1.endWalk g id t (.hit (hashResult 2 (s1.entry 2 l) l) (some l) none)
        | none => s1.endWalk g id t (.miss none)
      else
        let leaf := refKind x.ref == 2
        let a := if leaf then refAddr x.ref else nodeSlot x.ref (trieAddr wk.key)
        let n := if leaf then 8 * refChunks x.ref else 1
        let err := s.farErr a n
        let s1 := if err = 1 then s.reportCorrected 3 src a else s
        if err = 2 then (s1.reportBad 3 src 0x0E a).endWalk g id t (.trap trapFault 4 a)
        else
          let ws := s1.farWords a n
          if leaf then
            match leafMatch ws (trieAddr wk.key) t with
            | some r => s1.endWalk g id t (.hit (refResult r) none (some (a, ws)))
            | none => s1.endWalk g id t (.miss (some (a, ws)))
          else (s1.modTag g id t (fun x => { x with ref := w ws 0 })).walkOn g id t

/-! ## Background writers (R228, R229, R234) -/

/-- A refresh lands: HIT and AGE_STAMP of the far entry (R228). -/
def State.landRefresh (s : State) (loc stamp : Nat) : State :=
  let a := s.slotAddr 2 loc
  let w3 := s.far (a + 24)
  if s.farErr a 4 = 2 then s
  else (s.putFar a (setBit (s.far a) 55 true)).putFar (a + 24) (setBits w3 31 16 stamp)

/-- Q of a table's age clock in ns, and AGE_NOW (R228). -/
def State.ageQuantum (s : State) (t : Nat) : Nat := 1000 * 2 ^ s.rd R.tmnt_AGE_QUANTUM_EXP t
def State.ageNow (s : State) (t : Nat) : Nat := s.nowNs / s.ageQuantum t % 65536

/-- Refreshes that wait. -/
def State.refreshes (s : State) : List Nat := s.accsOf (fun o => match o with
  | .refresh _ _ => true
  | _ => false)

/-- A hit on a HOST entry queues its refresh (R228). -/
def State.refresh (s : State) (loc : Nat) : State :=
  let now := s.ageNow 2
  let f := loc % 65536
  -- the writers of a table that is not RUNNING are suspended (R209); the filter passes nothing twice (R228)
  if s.rd R.tbl_STATE 2 ≠ 3 ∨ mget 0 s.tab.refreshed f = now + 1 then s
  else if s.on R.tmnt_LOCKED 2 then s.bump R.tmnt_BG_SUPPRESSED 2
  -- a write to a stack that is off is discarded (R287)
  else if !s.stackUp (farStack (s.slotAddr 2 loc)) then s
  else if 8192 ≤ s.refreshes.length then s.bump R.tmnt_REFRESH_DROPPED 2
  else
    let s1 := { s with tab := { s.tab with refreshed := mput 0 s.tab.refreshed f (now + 1) } }
    s1.tableAccess (.refresh loc now) clsUpdate (s.slotAddr 2 loc) 32 true

/-! ## Completion of a transfer (R279) -/

/-- The accesses of an owner have all completed. -/
def State.allDone (s : State) (o : Acc2) : Bool := (s.accsOf (fun p => p == o)).all s.accDone

/-- What a completed access does of itself. -/
def State.accReady (s : State) (a : Nat) : State :=
  match mfind s.bab.accs a with
  | none => s
  | some x =>
    if x.left ≠ 0 then s
    else match x.owner with
      | .walk g id t =>
        if s.allDone x.owner then (s.each (s.accsOf (fun p => p == x.owner)) State.dropAcc).walkRead g id t else s
      | .flush pair pk by_ =>
        let s1 := (s.dropAcc a).landFlush pair pk by_
        s1.wr R.ceng_FLUSH_QUEUED 0 s1.flushes.length
      | .refresh l stamp => (s.dropAcc a).landRefresh l stamp
      | .scan _ => s.dropAcc a
      | .posted => s.dropAcc a
      | .telem => s.dropAcc a
      | .scrub => s.dropAcc a
      | .window id => if s.allDone x.owner then s.winReply id else s
      -- these wait for their own completion events
      | .spill _ _ => s
      | .fill _ _ => s
      | .chan _ => s

/-- TRANSFER_COMPLETE (R279): the accepted transfer of a channel whose time has come completes; `errs` are the memory errors that
the words read turned out to have (address key and severity). -/
def execTransferComplete (stack channel : Nat) (errs : List (Nat × Nat)) (s : State) : Host.Outcome State Fault Refusal :=
  outcome (stack < 8 && channel < 24) s <|
    match s.nextTaken stack channel with
    | none => s
    | some t =>
      if t.endsAt ≤ s.now then
        (({ s with bab := { s.bab with taken := lerase (fun y => y == t) s.bab.taken } }.strike errs).accStep t.x.acc).accReady
          t.x.acc
      else s

/-! ## A stack goes off (R12, R287) -/

/-- One access of a stack that goes off ends as its class's rule says. -/
def State.endAcc (s : State) (a : Nat) : State :=
  match mfind s.bab.accs a with
  | none => s
  | some x => match x.owner with
    | .walk g id t =>
      (s.each (s.accsOf (fun p => p == x.owner)) State.dropAcc).endWalk g id t
        (.trap trapFault 5 (match s.walk? g id with
          | some wk => wk.addr
          | none => 0))
    | .flush pair pk _ =>
      let s1 := (s.dropAcc a).loseFlush pair pk
      s1.wr R.ceng_FLUSH_QUEUED 0 s1.flushes.length
    | .spill q p =>
      let s1 := s.dropAcc a
      let n := (s1.queue q).pages.findIdx? (fun y => y.page == p && y.state == 0)
      match n with
      | none => s1
      | some n =>
        let s2 := s1.tenantPage (s1.pageCells q n) (· - 1)
        ((s2.leavePage p).setQueue q { s2.queue q with
          pages := lmodify (s2.queue q).pages n (fun y => { y with state := 4, page := 0 }) }).settle q
    | .fill q p =>
      let s1 := s.dropAcc a
      match (s1.queue q).pages.findIdx? (fun y => y.page == p && y.state == 2) with
      | none => s1
      | some n =>
        ((s1.giveFill 16).setQueue q { s1.queue q with
          pages := lmodify (s1.queue q).pages n (fun y => { y with state := 1, lost := true }) }).settle q
    -- a command whose read is lost ends with an error; its write is lost like a BAR2 write (R287)
    | .chan c =>
      let s1 := s.dropAcc a
      { s1 with tab := { s1.tab with chans := s1.tab.chans.map (fun (e : Nat × Chan) =>
        if e.1 = c ∧ e.2.phase = 1 then (e.1, { e.2 with phase := 2, code := 0x0C, loc := 0, result := 0, out := [] }) else e) } }
    | .window id => s.winAbort id
    | _ => s.dropAcc a

/-- The entries of HOST and FLOWTEL that a stack held are gone: they leave ENTRIES, POISONED and their owners' usage. -/
def State.loseEntries (s : State) (k : Nat) : State :=
  let lost (t : Nat) : List Nat := (s.tab.far.filter (fun e => farStack (e.1 * 8) == k && e.1 % entryWords t == 0
    && s.inRegion t (e.1 * 8) (8 * entryWords t) && entryHeld t [e.2])).map (·.2)
  let gone (t : Nat) (u : State) (w0 : Nat) : State := (u.countEntry t true false).countPoison t [w0] []
  let s1 := s.each (lost 2) (fun u w0 => (gone 2 u w0).countOwner [w0] [])
  s1.each (lost 9) (fun u w0 =>
    if entryValid 9 [w0] && !lostFlow [w0] then (gone 9 u w0).useTenant R.tquota_FLOW_USED (flowTenant [w0]) (· - 1) else gone 9 u w0)

/-- Usage of a leaf block's owner changed from one count to another. -/
def State.countLeaf (s : State) (owner : Nat) (old new : Nat × Nat) : State :=
  (s.useTenant R.tquota_ROUTE_USED owner (fun u => u + new.1 - old.1)).useTenant R.tquota_LONG6_USED owner
    (fun u => u + new.2 - old.2)

/-- ENTRIES and LONG6_USED of ROUTE follow a leaf block from one count of units and long prefixes to another (R202, R203). -/
def State.countBlock (s : State) (old new : Nat × Nat) : State :=
  (s.wr R.tbl_ENTRIES 3 (s.rd R.tbl_ENTRIES 3 + new.1 - old.1)).wr R.rte_LONG6_USED 0 (s.rd R.rte_LONG6_USED 0 + new.2 - old.2)

/-- The leaf blocks that a stack held are gone, with their counts. -/
def State.loseBlocks (s : State) (k : Nat) : State :=
  let mine := s.tab.leafBlocks.filter (fun e => farStack e.1 == k)
  let s1 := s.each mine (fun u e =>
    let ws := u.farWords e.1 e.2
    let u1 := u.countBlock (leafUnits ws) (0, 0)
    if bit (w ws 0) 51 then u1.countLeaf (bits (w ws 0) 50 39) (leafUnits ws) (0, 0) else u1)
  { s1 with tab := { s1.tab with leafBlocks := s1.tab.leafBlocks.filter (fun e => farStack e.1 != k) } }

/-- Everything a stack held is lost as its domain goes off (R12, R287, R581): its accesses end, its pages and table words go. -/
def State.stackLost (s : State) (k : Nat) : State :=
  let mine := (s.bab.accs.filter (fun e => e.2.stack == k)).map (·.1)
  let s1 := ((s.each mine State.endAcc).loseEntries k).loseBlocks k
  let s2 := { s1 with
    tab := { s1.tab with far := s1.tab.far.filter (fun e => farStack (e.1 * 8) != k),
                         upsets := s1.tab.upsets.filter (fun e => e.1 < 2 ^ 40 || 2 ^ 41 ≤ e.1 || farStack (e.1 - 2 ^ 40) != k) }
    sto := { s1.sto with queues := s1.sto.queues.map (fun (e : Nat × Queue) => (e.1, { e.2 with
      pages := e.2.pages.map (fun (p : Page) => if p.page / 2 ^ 22 = k ∧ p.state < 3 then { p with lost := true } else p) })) } }
  s2.wr R.slots_STACK_UP k 0

end Sys2Proof.Machine
end

