-- ==== Sys2Proof/Machine/Telemetry.lean ====
section
/-! DEFINITION. The telemetry unit: outputs, traces, mirror sessions, flow telemetry (16_telemetry.md R491 to R505). -/

namespace Sys2Proof.Machine

/-! ## Far rings (R492) -/

/-- Octets of a far ring that hold records. -/
def State.farUsed (s : State) (f : Nat) : Nat :=
  (s.rd R.fring_HEAD f + s.rd R.fring_SIZE f - s.rd R.fring_TAIL f) % s.rd R.fring_SIZE f

/-- Lengths of the records from TAIL on, after host software moved TAIL. -/
def dropConsumed : List Nat → Nat → List Nat
  | [], _ => []
  | l :: t, used => if used < (l :: t).foldl (· + ·) 0 then dropConsumed t used else l :: t

/-- WRAP: whole records are overwritten until a length fits. -/
def State.makeRoom (s : State) (f n : Nat) : Nat → State
  | 0 => s
  | k + 1 =>
    if n < s.rd R.fring_SIZE f - s.farUsed f then s
    else match mget [] s.tel.far f with
      | [] => s
      | l :: rest =>
        let s1 := { s with tel := { s.tel with far := mput [] s.tel.far f rest } }
        ((s1.wr R.fring_TAIL f ((s1.rd R.fring_TAIL f + l) % s1.rd R.fring_SIZE f)).bump R.fring_WRAPPED f).makeRoom f n k

/-- Write a record at HEAD of a far ring; whether it was written. -/
def State.farRecord (s : State) (f : Nat) (ws : List Nat) : Bool × State :=
  let n := 8 * ws.length
  let base := s.rd R.fring_BASE f
  if !s.on R.fring_ENABLE f || !s.stackUp (farStack base) then (false, s.bump R.fring_DROPPED f)
  else
    let s0 := { s with tel := { s.tel with far := mput [] s.tel.far f (dropConsumed (mget [] s.tel.far f) (s.farUsed f)) } }
    let s1 := if s.rd R.fring_MODE f = 1 then s0.makeRoom f n (mget [] s0.tel.far f).length else s0
    if s1.rd R.fring_SIZE f - s1.farUsed f ≤ n then (false, s1.bump R.fring_DROPPED f)
    else
      let size := s1.rd R.fring_SIZE f
      let head := s1.rd R.fring_HEAD f
      let s2 := s1.each ws.zipIdx (fun u e => u.putFar (base + (head + 8 * e.2) % size) e.1)
      let first := min n (size - head)
      let s2 := s2.tableAccess .telem clsTelem (base + head) first true
      let s3 := if n = first then s2 else s2.tableAccess .telem clsTelem base (n - first) true
      (true, { s3.wr R.fring_HEAD f ((head + n) % size) with
        tel := { s3.tel with far := mput [] s3.tel.far f (mget [] s3.tel.far f ++ [n]) } })

/-! ## Export channels (R493) -/

/-- A 16-bit one's-complement sum over octets. -/
def sum16 (bs : Octets) : Nat := (List.range (ceilDiv bs.length 2)).foldl (fun a i => a + fieldAt bs (2 * i) 2) 0

/-- The folded complement of a sum. -/
def csum16 (x : Nat) : Nat :=
  let y := x % 65536 + x / 65536
  let z := y % 65536 + y / 65536
  65535 - (z % 65536 + z / 65536) % 65536

/-- Offset of the IP header in a channel's template. -/
def State.ipStart (s : State) (c : Nat) : Nat :=
  s.rd R.expo_IP_LEN_OFFSET c - (if s.rd R.expo_IP_VERSION c = 0 then 2 else 4)

/-- The datagram of a channel: headers with lengths and checksums written, and the payload behind them. -/
def State.exportFrame (s : State) (c : Nat) (payload : Octets) : Octets :=
  let t := domOctets (s.rd R.expo_TEMPLATE c)
  let ip := s.ipStart c
  let udp := s.rd R.expo_UDP_OFFSET c
  let v4 := s.rd R.expo_IP_VERSION c == 0
  let total := t.length + payload.length
  let f0 := t ++ payload
  let f1 := patch f0 (s.rd R.expo_IP_LEN_OFFSET c) (toBE 2 (if v4 then total - ip else total - ip - 40))
  let f2 := patch f1 (udp + 4) (toBE 2 (total - udp))
  let ihl := f2.getD ip 0 % 16 * 4
  let f3 := if v4 then
      let z := patch f2 (ip + 10) [0, 0]
      patch z (ip + 10) (toBE 2 (csum16 (sum16 (slice z ip ihl))))
    else f2
  let z := patch f3 (udp + 6) [0, 0]
  let pseudo := if v4 then slice z (ip + 12) 8 else slice z (ip + 8) 32
  let c := csum16 (sum16 pseudo + 17 + (total - udp) + sum16 (z.drop udp))
  patch z (udp + 6) (toBE 2 (if c = 0 then 65535 else c))

/-- A packet of the device's own that is written toward a local egress queue without an ingress pipeline (R493, R535). -/
def State.directPkt (s : State) (frame : Octets) (port tc ingressPort : Nat) (launch : Option Nat) : Pkt :=
  let dev := s.rd R.ident_DEVICE_ID 0
  { frame, words := [dev % 4096 * 2 ^ 52 + ingressPort % 1024 * 2 ^ 42 + 1 * 2 ^ 1], tc, gen := s.rd R.gen_CURRENT 0 % 2, hash := 0,
    dest := dev % 4096 * 1024 + port, launch, bad := false, tailIn := true, rate := 0, cells := cellsFor frame.length 1, pool := 5,
    inPt := none, tenant := none, refs := [], links := 0, source := 0, direct := true, punt := none, hops := 0, fid := 0, mark := false, recircs := 0
    born := 0, marked := [] }

/-- Close the open packet of a channel and write it toward its port; SEQUENCE counts the packets sent, so one that admission drops leaves it
(R493). -/
def State.exportClose (s : State) (c : Nat) : State :=
  match mfind s.tel.exports c with
  | none => s
  | some p =>
    let seq := mget 0 s.tel.seq c
    let header := toBE 2 1 ++ toBE 2 (s.rd R.ident_DEVICE_ID 0 % 4096) ++ [p.kind, c] ++ toBE 2 p.records.length ++ toBE 4 (seq % 2 ^ 32)
      ++ toBE 6 (stamp48 s.now) ++ List.replicate 6 0
    let body := s.exportFrame c (header ++ p.records.flatMap id)
    let frame := body ++ toLE 4 (crc32 0xFFFFFFFF body)
    let port := s.rd R.expo_PORT c
    let tc := s.rd R.expo_TC c
    let s1 := { s with tel := { s.tel with exports := mdel s.tel.exports c } }
    let (ok, s2) := s1.store1 (s1.directPkt frame port tc 0 none) (egKey (port * 8 + tc)) .direct
    if ok then
      (({ s2 with tel := { s2.tel with seq := mput 0 s2.tel.seq c (seq + 1) } }).bump R.expo_PACKETS c).add R.expo_RECORDS c p.records.length
    else s2.bump R.expo_DROPPED c

/-- Octets of the IP datagram of an export packet with records of a total length. -/
def State.datagram (s : State) (c n : Nat) : Nat := (domOctets (s.rd R.expo_TEMPLATE c)).length - s.ipStart c + 24 + n

/-- One record joins the open packet of a channel, which closes before it when it must. -/
def State.exportRecord (s : State) (c kind : Nat) (bytes : Octets) : Bool × State :=
  if !s.on R.expo_ENABLE c then (false, s)
  else
    let s1 := match mfind s.tel.exports c with
      | none => s
      | some p =>
        let n := (p.records.map List.length).foldl (· + ·) 0
        if p.kind ≠ kind ∨ s.rd R.expo_MTU c < s.datagram c (n + bytes.length) then s.exportClose c else s
    let p := match mfind s1.tel.exports c with
      | some p => { p with records := p.records ++ [bytes] }
      | none => ⟨kind, [bytes], s1.clk.ticks⟩
    (true, { s1 with tel := { s1.tel with exports := mins s1.tel.exports c p } })

/-- EXPORT_CLOSE (R493): EXPORT_HOLD has passed since the first record of a channel's open packet. -/
def execExportClose (c : Nat) (s : State) : Host.Outcome State Fault Refusal :=
  outcome (c < 4) s <|
    match mfind s.tel.exports c with
    | none => s
    | some p => if s.past p.since (ticksUs (s.rd R.expo_EXPORT_HOLD c)) then s.exportClose c else s

/-! ## Outputs (R491) -/

/-- Send a record of words and octets to an output: `kind` as R536 numbers it. Whether it was taken. -/
def State.output (s : State) (o kind : Nat) (ws : List Nat) (bytes : Octets) : Bool × State :=
  match bits o 15 12 with
  | 0 => (true, s)
  | 1 => s.record (o % 256) kind (wordsLE ws ++ bytes)
  | 2 => s.farRecord (o % 16) (ws ++ octetsWords bytes)
  | 3 => s.exportRecord (o % 4) (if kind = 4 then 1 else if kind = 6 then 2 else 3) (ws.flatMap (toBE 8) ++ bytes)
  | _ => (true, s)

/-! ## Traces (R501 to R503) -/

/-- What the words common to every trace record say of a packet (R502). -/
structure TraceTag where
  srcDevice : Nat
  port : Nat
  group : Nat
  pipe : Nat
  egress : Bool
  stamp : Nat
  hash : Nat

/-- A trace record. -/
def TraceTag.record (t : TraceTag) (type stage pc w2 w3 : Nat) : LogRec :=
  ⟨type * 2 ^ 60 + t.srcDevice % 4096 * 2 ^ 48 + t.port % 1024 * 2 ^ 38 + t.group % 8 * 2 ^ 35 + t.pipe % 4 * 2 ^ 33
    + b2n t.egress * 2 ^ 32 + stage % 32 * 2 ^ 27 + pc % 2048 * 2 ^ 16, t.stamp * 2 ^ 16 + t.hash, w2, w3⟩

/-- A record joins those of its pass in the group's trace buffer of 8,192; with the buffer full it is dropped, and a LOST record
comes before the next that fits (R503). -/
def State.trace (s : State) (g : Nat) (recs : List LogRec) (r : LogRec) : List LogRec × State :=
  let held := mget 0 s.tel.held g
  let lost := mget 0 s.tel.lost g
  if held + (if lost = 0 then 1 else 2) ≤ 8192 then
    let more := if lost = 0 then [r] else [⟨6 * 2 ^ 60 + g * 2 ^ 35, 0, 0, lost % 2 ^ 32 * 2 ^ 32⟩, r]
    (recs ++ more, { s with tel := { s.tel with held := mput 0 s.tel.held g (held + more.length), lost := mput 0 s.tel.lost g 0 } })
  else (recs, { s.bump R.telem_TRACE_DROPPED 0 with
    tel := { s.tel with lost := mput 0 s.tel.lost g (lost + 1) } })

/-- One trace record goes to an output; one that is sent joins the history. -/
def State.sendTrace (s : State) (tenant : Option Nat) (out : Nat) (r : LogRec) : State :=
  let (ok, s1) := s.output out 4 [r.w0, r.w1, r.w2, r.w3] []
  if !ok then
    let s2 := s1.bump R.telem_TRACE_DROPPED 0
    match tenant with
    | some t => s2.bump R.ttel_DROPPED t
    | none => s2
  else if bits out 15 12 = 0 then s1
  else
    let s2 := { s1 with tel := { s1.tel with history := (r :: s1.tel.history).take 4096 } }
    match tenant with
    | some t => s2.bump R.ttel_RECORDS t
    | none => s2

/-- The records of one pass are routed together when it ends (R503). -/
def State.sendPass (s : State) (g tenant : Nat) (recs : List LogRec) : State :=
  let s1 := { s with tel := { s.tel with held := mput 0 s.tel.held g (mget 0 s.tel.held g - recs.length) } }
  let mine := s.on R.ttel_TRACE_COPY tenant && bits (s.rd R.ttel_OUTPUT tenant) 15 12 != 0
  s1.each recs (fun u r =>
    if mine then u.sendTrace (some tenant) (u.rd R.ttel_OUTPUT tenant) r else u.sendTrace none (u.rd R.telem_TRACE_OUTPUT 0) r)

/-- The 32-bit register of an ingress pipeline advances for a packet, and tells whether it is tagged (R501). -/
def State.pipe (s : State) (n : Nat) : PipeSt := mget PipeSt.idle s.pip.pipes n
def State.setPipe (s : State) (n : Nat) (x : PipeSt) : State :=
  { s with pip := { s.pip with pipes := mput PipeSt.idle s.pip.pipes n x } }

def State.drawTag (s : State) (pipe : Nat) : Bool × State :=
  let g := pipe / 4
  let v := lfsrNext 32 (s.pipe pipe).lfsr
  let s1 := s.setPipe pipe { s.pipe pipe with lfsr := v }
  if s.on R.gtel_TRACE_EN g && v % 2 ^ s.rd R.gtel_TRACE_EXP g == 0 then (true, s1.bump R.gtel_TAGGED g) else (false, s1)

/-- TRACE_SEED takes effect: the registers of the group's four pipelines are reseeded (R501). -/
def State.seedTrace (s : State) (g seed : Nat) : State :=
  s.each [0, 1, 2, 3] (fun u j => u.setPipe (4 * g + j) { u.pipe (4 * g + j) with lfsr := seed })

/-! ## Mirror sessions (R504, R505) -/

/-- A mirror copy leaves a pipeline for the unit (R109, R504): each group holds 4,096. -/
def State.mirrorCopy (s : State) (g : Nat) (c : MirrorCopy) : State :=
  let q := mget [] s.tel.copies g
  if 4096 ≤ q.length then s.bump R.mirr_OVERRUN c.session
  else { s with tel := { s.tel with copies := mput [] s.tel.copies g (q ++ [c]) } }

/-- A session's registers. -/
def State.mirror (s : State) (n : Nat) : MirrorSt :=
  (mfind s.tel.sessions n).getD ⟨1, s.rd R.mirr_BURST n * 1250000000, 0⟩
def State.setMirror (s : State) (n : Nat) (x : MirrorSt) : State :=
  { s with tel := { s.tel with sessions := mins s.tel.sessions n x } }

/-- The record of a copy (R505): the capture is padded to a multiple of 32 octets, and CAPTURED counts it so. -/
def State.mirrorRecord (s : State) (c : MirrorCopy) : List Nat × Octets :=
  let m (i : Nat) : Nat := c.mds.getD i 0
  let n := min (s.rd R.mirr_SNAP_LEN c.session) c.bytes.length
  let dropped := bit (m 3) 55
  let pad := (32 - n % 32) % 32
  ([c.session * 2 ^ 58 + b2n c.egress * 2 ^ 57 + bits (m 0) 15 15 * 2 ^ 56 + b2n (decide (n < c.len)) * 2 ^ 55
      + (if c.egress then bits (m 5) 63 54 else bits (m 0) 9 0) * 2 ^ 45 + bits (m 1) 47 36 * 2 ^ 33 + bits (m 1) 35 33 * 2 ^ 30
      + bits (m 1) 30 30 * 2 ^ 29 + bits (m 1) 32 31 * 2 ^ 27 + (if dropped then bits (m 3) 63 56 else 0) * 2 ^ 19
      + b2n dropped * 2 ^ 18 + bits (m 3) 40 40 * 2 ^ 17 + bits (m 1) 63 50 * 2 ^ 3,
    bits (m 0) 63 16 * 2 ^ 16 + bits (m 1) 27 12,
    stamp48 s.now * 2 ^ 16 + (n + pad) * 2 ^ 7,
    bits (m 2) 61 40 * 2 ^ 42 + (if c.egress then bits (m 5) 37 14 else 0) * 2 ^ 18 + c.srcDevice % 4096 * 2 ^ 6],
   c.bytes.take n ++ List.replicate pad 0)

/-- The token bucket of a session brought up to now. -/
def State.mirrorFill (s : State) (n : Nat) : MirrorSt :=
  let x := s.mirror n
  { x with last := s.clk.ticks
           tokens := min (s.rd R.mirr_BURST n * 1250000000) (x.tokens + (s.clk.ticks - x.last) * s.rd R.mirr_RATE n) }

/-- The unit samples, limits and sends one copy. -/
def State.takeCopy (s : State) (c : MirrorCopy) : State :=
  let n := c.session
  if !s.on R.mirr_ENABLE n then s
  else
    let s0 := s.bump R.mirr_COPIES n
    let v := lfsrNext 32 (s0.mirror n).lfsr
    let s1 := s0.setMirror n { s0.mirror n with lfsr := v }
    if v % 2 ^ s1.rd R.mirr_SAMPLE_EXP n ≠ 0 then s1.bump R.mirr_SAMPLED_OUT n
    else
      let x := s1.mirrorFill n
      let s2 := s1.setMirror n x
      if s2.rd R.mirr_RATE n ≠ 0 ∧ x.tokens < 1250000000 then s2.bump R.mirr_RATE_DROPPED n
      else
        let s3 := if s2.rd R.mirr_RATE n = 0 then s2 else s2.setMirror n { x with tokens := x.tokens - 1250000000 }
        let (ws, bs) := s3.mirrorRecord c
        let (ok, s4) := s3.output (s3.rd R.mirr_OUTPUT n) 5 ws bs
        if !ok then s4.bump R.mirr_DROPPED n
        else if bits (s4.rd R.mirr_OUTPUT n) 15 12 = 0 then s4 else s4.bump R.mirr_RECORDS n

/-- MIRROR_COPY (R504): the unit takes the oldest copy that group `g` holds. -/
def execMirrorCopy (g : Nat) (s : State) : Host.Outcome State Fault Refusal :=
  outcome (g < 8) s <|
    match mget [] s.tel.copies g with
    | [] => s
    | c :: rest => ({ s with tel := { s.tel with copies := mput [] s.tel.copies g rest } }).takeCopy c

/-! ## Flow telemetry (R494 to R500) -/

/-- The histogram bucket of a latency (R496). -/
def latBucket (l : Nat) : Nat := if l < 256 then 0 else min 15 (Nat.log2 l - 7)

/-- The flow key that a group's FT_KEY takes from a header vector (R494). -/
def flowKey (sel : Octets) (hv : Octets) : Octets :=
  (List.range 10).flatMap (fun i => let x := sel.getD i 0xFF; if 144 ≤ x then [0, 0, 0, 0] else slice hv (4 * x) 4)

/-- A flow leaves the accumulator for the flush queue of 8,192, or its deltas are lost (R499). -/
def State.flushFlow (s : State) (l : FlowLine) : State :=
  if s.on R.tmnt_LOCKED 9 ∨ 8192 ≤ s.tel.flushes.length then s.add R.telem_FT_LOST_UPDATES 0 l.packets
  else { s with tel := { s.tel with flushes := s.tel.flushes ++ [l] } }

/-- The accumulator sweeper flushes the next 4 lines (R497). -/
def State.sweepFlows (s : State) : State :=
  let at_ := s.tel.sweep
  let s1 := { s with tel := { s.tel with sweep := (at_ + 4) % 262144 } }
  if s.on R.tmnt_LOCKED 9 ∨ s.rd R.tbl_STATE 9 ≠ 3 then s1
  else s1.each [0, 1, 2, 3] (fun u i =>
    match mfind u.tel.lines (at_ + i) with
    | none => u
    | some l => ({ u with tel := { u.tel with lines := mdel u.tel.lines (at_ + i) } }).flushFlow l)

/-- One packet that begins transmission joins its flow's line (R494 to R497). -/
def State.flowUpdate (s : State) (key : Octets) (tenant hash len qdepth lat stamp : Nat) : State :=
  if s.rd R.tbl_STATE 9 ≠ 3 then s.bump R.telem_FT_SKIPPED 0
  else
    let i := s.hashC 9 key % 262144
    let empty : FlowLine := ⟨key, tenant, hash, 0, 0, 0, 0, 2 ^ 32 - 1, List.replicate 16 0, stamp, stamp⟩
    let (l, s1) := match mfind s.tel.lines i with
      | none => (empty, s)
      | some l => if l.key = key ∧ l.tenant = tenant then (l, s) else (empty, s.flushFlow l)
    let b := latBucket lat
    let l' : FlowLine := { l with
      packets := l.packets + 1, bytes := l.bytes + len, maxQ := max l.maxQ qdepth, latMax := max l.latMax lat
      latMin := min l.latMin lat, hist := l.hist.set b (min 65535 (l.hist.getD b 0 + 1)), last := stamp }
    if (l'.hist.getD b 0 = 65535 ∨ 2 ^ 24 ≤ l'.packets) ∧ ¬ s1.on R.tmnt_LOCKED 9 then
      ({ s1 with tel := { s1.tel with lines := mdel s1.tel.lines i } }).flushFlow l'
    else { s1 with tel := { s1.tel with lines := mins s1.tel.lines i l' } }

/-- A sum that stays below 2 to the w. -/
def satAdd (w a b : Nat) : Nat := min (2 ^ w - 1) (a + b)

/-- The words of an entry after a merge (R195, R498). -/
def mergeFlow (old : List Nat) (l : FlowLine) (ageNow : Nat) : List Nat :=
  let w11 := w old 11
  let hist (k : Nat) : Nat :=
    satAdd 32 (w old (12 + k) / 2 ^ 32) (l.hist.getD (2 * k) 0) * 2 ^ 32 + satAdd 32 (w old (12 + k) % 2 ^ 32) (l.hist.getD (2 * k + 1) 0)
  [setBits (w old 0) 31 16 ageNow, w old 1, w old 2, w old 3, w old 4, w old 5, w old 6, setBits (w old 7) 63 16 l.last,
    satAdd 64 (w old 8) l.packets, satAdd 64 (w old 9) l.bytes, setBits (w old 10) 63 40 (max (bits (w old 10) 63 40) l.maxQ),
    max (w11 / 2 ^ 32) l.latMax * 2 ^ 32 + min (w11 % 2 ^ 32) l.latMin]
    ++ (List.range 8).map hist ++ (old.drop 20).take 12

/-- The words of a new entry, before its first merge (R498). -/
def newFlow (l : FlowLine) : List Nat :=
  [2 ^ 63 + l.tenant % 4096 * 2 ^ 40 + l.hash % 65536, fieldAt l.key 0 8, fieldAt l.key 8 8, fieldAt l.key 16 8, fieldAt l.key 24 8,
    fieldAt l.key 32 8, l.first * 2 ^ 16, 0, 0, 0, 0, l.latMin] ++ List.replicate 20 0

/-- An entry belongs to a flow: key and tenant (R494). -/
def flowMatches (ws : List Nat) (l : FlowLine) : Bool :=
  entryValid 9 ws && !entryPoisoned 9 ws && storedKey 9 ws == l.key && bits (w ws 0) 51 40 == l.tenant

/-- Merge one flush (R498). -/
def State.mergeFlush (s : State) (l : FlowLine) : State :=
  let c := s.candidates 9 l.key
  let b0 := s.slotAddr 9 (s.loc0 9 l.key)
  let b1 := s.slotAddr 9 (s.loc4 9 l.key)
  if s.rd R.tbl_STATE 9 ≠ 3 ∨ ¬ s.stackUp (farStack b0) ∨ ¬ s.stackUp (farStack b1) then
    s.add R.telem_FT_LOST_UPDATES 0 l.packets
  else
    let s1 := ((s.tableAccess .telem clsTelem b0 1024 false).tableAccess .telem clsTelem b1 1024 false).checkCandidates 9 l.key 0x013 clsTelem
    match c.find? (fun p => flowMatches (s1.entry 9 p) l) with
    | some p =>
      ((s1.putEntry 9 p (mergeFlow (s1.entry 9 p) l (s1.ageNow 9)) true).tableAccess .telem clsTelem (s1.slotAddr 9 p) 256 true).bump
        R.telem_FT_FLUSHES 0
    | none =>
      match c.find? (fun p => !entryHeld 9 (s1.entry 9 p)) with
      | none => s1.bump R.telem_FT_NO_ROOM 0
      | some p =>
        let q := s1.rd R.tquota_FLOW_QUOTA l.tenant
        if q ≠ 0 ∧ q ≤ s1.rd R.tquota_FLOW_USED l.tenant then s1.bump R.tquota_FLOWS_REFUSED l.tenant
        else
          (((s1.putEntry 9 p (mergeFlow (newFlow l) l (s1.ageNow 9)) true).tableAccess .telem clsTelem (s1.slotAddr 9 p) 256 true).bump
            R.telem_FT_CREATED 0).bump R.telem_FT_FLUSHES 0

/-- FLOW_FLUSH (R498): the oldest flush of the queue. While FLOWTEL is locked no flush is made (R499). -/
def execFlowFlush (s : State) : Host.Outcome State Fault Refusal :=
  completes <|
    match s.tel.flushes with
    | [] => s
    | l :: rest =>
      if s.on R.tmnt_LOCKED 9 then s else ({ s with tel := { s.tel with flushes := rest } }).mergeFlush l

/-- The ageing scanner exports an entry that it removes (R500). -/
def State.exportFlow (s : State) (ws : List Nat) : State :=
  let t := bits (w ws 0) 51 40
  let rec_ := ws.take 20 ++ [stamp48 s.now * 2 ^ 16] ++ List.replicate 11 0
  if s.on R.ttel_FLOW_EXPORT t then
    let (ok, s1) := s.output (s.rd R.ttel_OUTPUT t) 6 rec_ []
    if !ok then (s1.bump R.telem_FT_EXPORT_DROPPED 0).bump R.ttel_DROPPED t
    else if bits (s.rd R.ttel_OUTPUT t) 15 12 = 0 then s1 else s1.bump R.ttel_RECORDS t
  else if s.on R.telem_FT_EXPORT 0 then
    let (ok, s1) := s.output (s.rd R.telem_FT_OUTPUT 0) 6 rec_ []
    if ok then s1 else s1.bump R.telem_FT_EXPORT_DROPPED 0
  else s

/-- A group's domain comes on: one GAP record for the time it was off (R510). -/
def State.gapRecord (s : State) (g : Nat) : State :=
  match mfind s.tel.offAt g with
  | none => s
  | some off =>
    let r : LogRec := ⟨5 * 2 ^ 60 + g * 2 ^ 35, 0, (off - 1) * 2 ^ 16, stamp48 s.now * 2 ^ 16⟩
    ({ s with tel := { s.tel with offAt := mdel s.tel.offAt g } }.sendTrace none (s.rd R.telem_TRACE_OUTPUT 0) r).bump32 R.gtel_GAPS g

end Sys2Proof.Machine
end

