-- ==== Sys2Proof/Machine/Commands.lean ====
section
/-! DEFINITION. Table maintenance (06_table_maintenance.md): command channels, learning, ageing, the scrubber, locks, and the
stopping and erasing of tables. -/

namespace Sys2Proof.Machine

/-! ## The command word (R215, R216) -/

def cmdTable (c : Nat) : Nat := bits c 55 48
def cmdTenanted (c : Nat) : Bool := bit c 47
def cmdTenant (c : Nat) : Nat := bits c 46 35
def cmdForm (c : Nat) : Nat := bits c 34 32
def cmdTag (c : Nat) : Nat := bits c 30 30
def cmdByLoc (c : Nat) : Bool := bit c 29
def cmdWords (c : Nat) : Nat := bits c 21 16
def cmdSeq (c : Nat) : Nat := bits c 15 0

/-- Command status codes (R221). -/
def csOk : Nat := 0
def csNoRoom : Nat := 1
def csExists : Nat := 2
def csNotFound : Nat := 3
def csOccupied : Nat := 4
def csBadPlace : Nat := 5
def csQuota : Nat := 6
def csBadOp : Nat := 7
def csBadArg : Nat := 8
def csMode : Nat := 9
def csState : Nat := 10
def csRegion : Nat := 11
def csUncorrectable : Nat := 12

/-- STATUS of a channel (R216). -/
def statusWord (busy done : Bool) (code seq loc : Nat) : Nat :=
  b2n busy * 2 ^ 63 + b2n done * 2 ^ 62 + code * 2 ^ 48 + seq * 2 ^ 32 + loc

def State.chan? (s : State) (c : Nat) : Option Chan := mfind s.tab.chans c
def State.setChan (s : State) (c : Nat) (x : Chan) : State := { s with tab := { s.tab with chans := mins s.tab.chans c x } }

/-- A CMD write is accepted (R217): BUSY set and DONE clear, the rest of STATUS as it was, with the arguments as they stand. -/
def State.acceptCmd (s : State) (c who cmd arg0 arg1 : Nat) (data : List Nat) : State :=
  (s.setChan c ⟨cmd, who, arg0, arg1, data, 0, arg0, 0, [], 0, 0, 0, []⟩).wr R.chan_STATUS c
    (2 ^ 63 + s.rd R.chan_STATUS c % 2 ^ 62)

/-! ## What a command does -/

/-- The result of a command's work: its status and answers, the state after, and the far writes it makes (address and bytes). -/
structure Done where
  code : Nat
  loc : Nat
  result : Nat
  out : List Nat
  s : State
  writes : List (Nat × Nat)

/-- A command that answers a code and changes nothing. -/
def Done.fail (s : State) (code : Nat) : Done := ⟨code, 0, 0, [], s, []⟩

/-- RESULT of a hashed command (R216). -/
def locsWord (l0 l4 : Nat) : Nat := l0 * 2 ^ 32 + l4
def State.keyLocs (s : State) (t : Nat) (key : Octets) : Nat := locsWord (s.loc0 t key) (s.loc4 t key)

/-- A table's state admits a command (R209): all of them STOPPED or RUNNING, READ and SEARCH in FAULTED. -/
def State.tableAdmits (s : State) (t op : Nat) : Bool :=
  let st := s.rd R.tbl_STATE t
  st == 1 || st == 3 || (st == 5 && (op == 1 || op == 6))

/-- A command that a table's kind defines (R218). -/
def opDefined (t op : Nat) : Bool :=
  if isHash t then 1 ≤ op && op ≤ 6
  else if t = 3 then op == 1 || op == 2 || op == 6
  else if isTcam t then op == 1 || op == 2 || op == 4 || op == 6
  else if t = 8 then false
  else op == 1 || op == 2 || op == 4

/-- Entries that a command may name. -/
def State.places (s : State) (t : Nat) : Nat :=
  if isHash t then s.locations t else s.rd R.tbl_CAPACITY t

/-- Reserved fields of a command word are zero, and fields of other tables' commands too (R215). -/
def cmdWellFormed (c : Nat) : Bool :=
  !bit c 31 && bits c 28 22 == 0 && (cmdTable c == 3 || (cmdForm c == 0 && cmdWords c == 0))

/-- An owned entry names the command's tenant (R220). -/
def ownerOk (c : Nat) (ws : List Nat) : Bool :=
  cmdTable c != 2 || !cmdTenanted c || !hostOwned ws || hostOwner ws == cmdTenant c

/-- A count may rise by `n` under a quota; 0 is no limit (R200, R206). -/
def State.quotaOk (s : State) (quota used : Reg) (t n : Nat) : Bool :=
  n == 0 || s.rd quota t == 0 || decide (s.rd used t + n ≤ s.rd quota t)

/-- The quota admits an entry in place of another (R200): OWNED HOST entries, and flow records. -/
def State.entryQuotaOk (s : State) (c : Nat) (old new : List Nat) : Bool :=
  if cmdTable c = 2 then
    let gains := hostValid new && hostOwned new
      && !(hostValid old && hostOwned old && hostOwner old == hostOwner new)
    s.quotaOk R.tquota_HOST_QUOTA R.tquota_HOST_USED (hostOwner new) (b2n gains)
  else if cmdTable c = 9 then
    let gains := entryValid 9 new && !(entryValid 9 old && flowTenant old == flowTenant new)
    s.quotaOk R.tquota_FLOW_QUOTA R.tquota_FLOW_USED (flowTenant new) (b2n gains)
  else true

/-- LOCATION that STATUS shows for a place: the location or index, 0 for the pool and the meters (R216). -/
def shownLoc (t i : Nat) : Nat := if t = 6 ∨ t = 7 then 0 else i

/-- Far bytes written for one entry. -/
def State.entryWrite (s : State) (t i : Nat) : List (Nat × Nat) :=
  if t = 2 ∨ t = 9 then [(s.slotAddr t i, 8 * entryWords t)] else []

/-- An entry read by a command (R231): poisoned and refused when uncorrectable. -/
def State.readEntry (s : State) (t i : Nat) : Except State State :=
  let e := s.entryErr t i
  if e = 2 then
    .error (if t = 2 ∨ t = 9 then s.poisonSeen t i 0x013 clsHost else s.reportBad t 0x013 0x0F (s.entryAddr t i))
  else if e = 1 then .ok (s.reportCorrected t 0x013 (s.entryAddr t i)) else .ok s

/-- READ of a table other than ROUTE. -/
def State.cmdRead (s : State) (t i : Nat) : Done :=
  match s.readEntry t i with
  | .error s1 => .fail s1 csUncorrectable
  | .ok s1 =>
    let ws := s1.entry t i
    ⟨csOk, shownLoc t i, if isHash t then s1.keyLocs t (storedKey t ws) else 0, ws, s1, []⟩

/-- An entry as it is stored: a meter whose W1 is all zero is filled as it is written (R298). -/
def State.meterWrite (s : State) (t : Nat) (ws : List Nat) : List Nat :=
  if t = 7 ∧ w ws 1 = 0 then [w ws 0, meterFull (w ws 0) s.m] else ws

/-- A meter index lies in a tenant's range (R299). -/
def State.meterOf (s : State) (tenant i : Nat) : Bool :=
  decide (s.rd R.tlimit_METER_FIRST tenant ≤ i)
    && decide (i < s.rd R.tlimit_METER_FIRST tenant + s.rd R.tlimit_METER_COUNT tenant)

/-- The old entry at a location of HOST or FLOWTEL, which a write by location reads for its counts (R220, R232); other tables' entries are
written over unread. -/
def State.readOld (s : State) (t i : Nat) : Except State State := if t = 2 ∨ t = 9 then s.readEntry t i else .ok s

/-- WRITE of a table other than ROUTE. -/
def State.cmdWrite (s : State) (c i : Nat) (data : List Nat) : Done :=
  let t := cmdTable c
  let ws := s.meterWrite t (data.take (entryWords t))
  let r := if isHash t then s.keyLocs t (storedKey t ws) else 0
  match s.readOld t i with
  | .error s1 => .fail s1 csUncorrectable
  | .ok s =>
    if !ownerOk c ws then .fail s csBadArg
    else if t = 7 ∧ cmdTenanted c ∧ !s.meterOf (cmdTenant c) i then ⟨csQuota, shownLoc t i, r, [], s, []⟩
    else if isHash t ∧ entryValid t ws ∧ !(s.candidates t (storedKey t ws)).contains i then
      ⟨csBadPlace, i, r, [], s, []⟩
    else if !s.entryQuotaOk c (s.entry t i) ws then ⟨csQuota, i, r, [], s, []⟩
    else ⟨csOk, shownLoc t i, r, [], s.putEntry t i ws true, s.entryWrite t i⟩

/-- INSERT (R218, R219, R222). -/
def State.cmdInsert (s : State) (c ch who : Nat) (data : List Nat) : Done :=
  let t := cmdTable c
  let ws := data.take (entryWords t)
  let key := storedKey t ws
  let r := s.keyLocs t key
  let cands := s.candidates t key
  let clash (l : Nat) : Bool := let e := s.entry t l
    entryHeld t e && storedGroups t e == storedGroups t ws && storedKey t e == key
      && Nat.land (storedMask t e) (storedMask t ws) != 0
  if !ownerOk c ws then .fail s csBadArg
  else if cands.any (fun l => s.entryErr t l == 2) then
    ⟨csUncorrectable, 0, r, [], s.checkCandidates t key 0x013 clsHost, []⟩
  else
    let s := s.checkCandidates t key 0x013 clsHost
    match cands.find? clash with
    | some l => ⟨csExists, l, r, [], s, []⟩
    | none => match cands.find? (fun l => !entryHeld t (s.entry t l)) with
      | none =>
        let bucket (l : Nat) : Nat := if isAux t then s.nearAddr t l else s.slotAddr t l
        ⟨csNoRoom, 0, r, [], s.event who 0x0003 [t * 2 ^ 56 + ch * 2 ^ 48 + cmdSeq c * 2 ^ 32 + s.loc0 t key, s.loc4 t key,
          bucket (s.loc0 t key), bucket (s.loc4 t key)], []⟩
      | some l =>
        if !s.entryQuotaOk c (s.entry t l) ws then ⟨csQuota, 0, r, [], s, []⟩
        else ⟨csOk, l, r, [], s.putEntry t l ws true, s.entryWrite t l⟩

/-- An entry cleared, with its counts. -/
def State.clearAt (s : State) (t i : Nat) : State :=
  s.putEntry t i (s.meterWrite t (List.replicate (entryWords t) 0)) true

/-- A DELETE by location of an entry whose owner is lost uncounts it from the tenant that the command carries (R232). -/
def State.uncountLost (s : State) (c t i : Nat) : State :=
  let ws := s.entry t i
  if t = 2 ∧ entryHeld 2 ws ∧ hostOwner ws = 0xFFF ∧ ¬ hostOwned ws ∧ cmdTenanted c then
    s.useTenant R.tquota_HOST_USED (cmdTenant c) (· - 1)
  else s

/-- DELETE (R218). -/
def State.cmdDelete (s : State) (c i : Nat) (data : List Nat) : Done :=
  let t := cmdTable c
  if isHash t ∧ !cmdByLoc c then
    let ws := data.take (entryWords t)
    let key := storedKey t ws
    let r := s.keyLocs t key
    let found (l : Nat) : Bool := let e := s.entry t l
      entryValid t e && !entryPoisoned t e && storedGroups t e == storedGroups t ws && storedKey t e == key
        && storedMask t e == storedMask t ws
    if (s.candidates t key).any (fun l => s.entryErr t l == 2) then
      ⟨csUncorrectable, 0, r, [], s.checkCandidates t key 0x013 clsHost, []⟩
    else
      let s := s.checkCandidates t key 0x013 clsHost
      match (s.candidates t key).find? found with
      | none => ⟨csNotFound, 0, r, [], s, []⟩
      | some l => ⟨csOk, l, r, [], s.clearAt t l, s.entryWrite t l⟩
  else if t = 7 ∧ cmdTenanted c ∧ !s.meterOf (cmdTenant c) i then ⟨csQuota, 0, 0, [], s, []⟩
  else match s.readOld t i with
    | .error s1 => .fail s1 csUncorrectable
    | .ok s =>
      ⟨csOk, shownLoc t i, if isHash t then s.keyLocs t (storedKey t (s.entry t i)) else 0, [], (s.uncountLost c t i).clearAt t i,
        s.entryWrite t i⟩

/-- MOVE (R218, R219): the destination is written before the source is cleared; the cached copy takes the new location. -/
def State.cmdMove (s : State) (c src dst : Nat) : Done :=
  let t := cmdTable c
  match s.readEntry t src with
  | .error s1 => .fail s1 csUncorrectable
  | .ok s1 =>
    let ws := s1.entry t src
    let key := storedKey t ws
    let r := s1.keyLocs t key
    if s1.locations t ≤ dst ∨ !ownerOk c ws then .fail s1 csBadArg
    else match s1.readEntry t dst with
    | .error s2 => .fail s2 csUncorrectable
    | .ok s1 =>
    if !entryHeld t ws then ⟨csNotFound, 0, r, [], s1, []⟩
    else if entryHeld t (s1.entry t dst) then ⟨csOccupied, dst, r, [], s1, []⟩
    else if !(s1.candidates t key).contains dst then ⟨csBadPlace, dst, r, [], s1, []⟩
    else
      let s2 := s1.storeEntry t dst ws
      -- the copy keeps its slot and gets the new LOCATION (R183)
      let s3 := (if t = 2 then s2.each (s2.cacheCopies src) (fun u c =>
          u.putNear (cacheSlot c.1 c.2) (setBits (u.near (cacheSlot c.1 c.2)) 56 32 dst)) else s2).storeEntry t src
        (List.replicate (entryWords t) 0)
      ⟨csOk, dst, r, [], s3, s.entryWrite t dst ++ s.entryWrite t src⟩

/-- Key words of a SEARCH as octets: key byte 0 is DATA0 [63:56]. -/
def keyWords (data : List Nat) : Octets := data.flatMap (toBE 8)

/-- Key lengths in octets that a SEARCH of a hashed table tries. -/
def searchLens (t : Nat) : List Nat := if t = 9 then [40] else if t = 2 then [4, 8, 12, 16, 20] else [4, 8]

/-- SEARCH of a hashed table (R218). The command word gives no key length: HOST and AUX are searched for each length from one
group up, and the first length that finds an entry stands. -/
def State.cmdSearchHash (s : State) (c : Nat) (data : List Nat) : Done :=
  let t := cmdTable c
  let all := keyWords data
  let lens := searchLens t
  let lost := lens.any (fun n => (s.candidates t (all.take n)).any (fun l => s.entryErr t l == 2))
  let s1 := s.each lens (fun u n => u.checkCandidates t (all.take n) 0x013 clsHost)
  if lost then .fail s1 csUncorrectable
  else match lens.findSome? (fun n => (s1.findEntry t (all.take n) (cmdTag c) false).map (fun l => (n, l))) with
  | some (n, l) => ⟨csOk, l, s1.keyLocs t (all.take n), s1.entry t l, s1, []⟩
  | none =>
    if t = 9 then ⟨csNotFound, 0, s1.keyLocs 9 (all.take 40), [], s1, []⟩
    else let (f, s2) := s1.free 64; ⟨csNotFound, 0, locsWord (f / 2 ^ 32 % 2 ^ 25) (f % 2 ^ 25), [], s2, []⟩

/-- SEARCH of a TCAM (R218). -/
def State.cmdSearchTcam (s : State) (c arg0 : Nat) (data : List Nat) : Done :=
  let g := cmdTable c - 18
  let key := beNat ((keyWords data).take 80)
  if 32 ≤ arg0 then .fail s csBadArg
  else match s.tcamFind g (arg0 / 16) (arg0 % 16) key (cmdTag c) with
    | none => .fail s csNotFound
    | some i => ⟨csOk, i, w (s.entry (18 + g) i) 1, [], s, []⟩

/-! ## ROUTE by words (R218, R220) -/

/-- Where a ROUTE command's words lie: the node part of the near tier, or the far tier. -/
def routePlaceOk (form a n : Nat) (s : State) : Nat :=
  if 2 < form ∨ n = 0 ∨ 32 < n ∨ a % 8 ≠ 0 ∨ (form = 2 ∧ a % 64 ≠ 0) then csBadArg
  else if form = 0 then (if nodeBase ≤ a ∧ a + 8 * n ≤ nodeBase + s.nodeBytes then csOk else csRegion)
  else if s.inRegion 3 a (8 * n) then csOk else csRegion

/-- READ of ROUTE words. -/
def State.cmdRouteRead (s : State) (c a : Nat) : Done :=
  let n := cmdWords c
  let p := routePlaceOk (cmdForm c) a n s
  if p ≠ csOk then .fail s p
  else if cmdForm c = 0 then
    if s.nearErr a n = 2 then .fail (s.reportBad 3 0x013 0x0F (nearReport a)) csUncorrectable else ⟨csOk, 0, 0, s.nearWords a n, s, []⟩
  else
    let e := s.farErr a n
    if e = 2 then .fail (s.reportBad 3 0x013 0x0E a) csUncorrectable
    else ⟨csOk, 0, 0, s.farWords a n, if e = 1 then s.reportCorrected 3 0x013 a else s, []⟩

/-- The change of a leaf block's counts that a write makes: units and long prefixes before and after. -/
def State.leafDelta (s : State) (a : Nat) (ws : List Nat) : (Nat × Nat) × (Nat × Nat) :=
  let old := s.farWords a 32
  (leafUnits old, leafUnits (ws ++ old.drop ws.length))

/-- WRITE of ROUTE words (R200, R218, R220). -/
def State.cmdRouteWrite (s : State) (c a : Nat) (data : List Nat) : Done :=
  let n := cmdWords c
  let ws := if cmdForm c = 2 then cleanLeaf (data.take n) else (data.take n).map cleanRef
  let p := routePlaceOk (cmdForm c) a n s
  if p ≠ csOk then .fail s p
  else if cmdForm c = 0 then ⟨csOk, 0, 0, [], s.putNears a ws, []⟩
  else if cmdForm c = 1 then ⟨csOk, 0, 0, [], (s.putFars a ws).leafTouched a (8 * n), [(a, 8 * n)]⟩
  else
    let (old, new) := s.leafDelta a ws
    let head := w ws 0
    let owned := bit head 51
    let owner := bits head 50 39
    let wasOwned := bit (s.far a) 51
    let wasOwner := bits (s.far a) 50 39
    let before := if wasOwned && (!owned || wasOwner == owner) then old else (0, 0)
    if owned && cmdTenanted c && owner != cmdTenant c then .fail s csBadArg
    else if owned && (!s.quotaOk R.tquota_ROUTE_QUOTA R.tquota_ROUTE_USED owner (new.1 - before.1)
        || !s.quotaOk R.tquota_LONG6_QUOTA R.tquota_LONG6_USED owner (new.2 - before.2)) then .fail s csQuota
    else if s.rd R.tbl_CAPACITY 3 < s.rd R.tbl_ENTRIES 3 + new.1 - old.1 ∨ 262144 < s.rd R.rte_LONG6_USED 0 + new.2 - old.2 then
      .fail s csNoRoom
    else
      let s1 := if wasOwned then s.countLeaf wasOwner old (0, 0) else s
      let s2 := if owned then s1.countLeaf owner (0, 0) new else s1
      let s3 := s2.countBlock old new
      let s4 := { s3 with tab := { s3.tab with leafBlocks := mins s3.tab.leafBlocks a n } }
      ⟨csOk, 0, 0, [], (s4.putFars a ws).leafTouched a (8 * n), [(a, 8 * n)]⟩

/-- What a SEARCH on ROUTE comes to at a reference: its end (status, reference, and the near-tier address of a slot with bad parity),
or the next far read and the walk after it. -/
inductive SearchStep where
  | ends (code ref : Nat) (bad : Option Nat)
  | read (addr bytes : Nat) (walk : TagWalk)
deriving DecidableEq, Repr

/-- A SEARCH before its first far read goes through near nodes as the stages of a lookup do, one slot for each (R185). A chain of more
near nodes than an address has bits does not end: it counts as a loop. -/
def State.nearChain (s : State) (addr : Nat) : Nat → Nat → Sum (Nat × Option Nat) Nat
  | 0, _ => .inl (csBadArg, none)
  | n + 1, r =>
    if refKind r = 1 ∧ ¬ refFar r ∧ ¬ s.malformed r then
      if s.nearErr (nodeSlot r addr) 1 = 2 then .inl (csUncorrectable, some (nodeSlot r addr))
      else s.nearChain addr n (s.near (nodeSlot r addr))
    else .inr r

/-- One step of a SEARCH on ROUTE (R185, R197, R218). A near node met after a far read lies outside the walk (R197). -/
def State.searchStep (s : State) (x : TagWalk) (key : Octets) : SearchStep :=
  match (if x.depth = 0 then s.nearChain (trieAddr key) 129 x.ref else .inr x.ref) with
  | .inl (code, bad) => .ends code 0 bad
  | .inr r => match s.routeNext { x with ref := r } key with
    | .inr (a, n, y) => .read a n y
    | .inl (.hit ws _ _) => .ends csOk (w ws 0 * 2 ^ 32 + w ws 1) none
    | .inl (.miss _) => .ends csNotFound 0 none
    | .inl (.trap k d _) => .ends (if k = trapDevice then csRegion else if d = 5 then csUncorrectable else csBadArg) 0 none

/-! ## Running a command (R217) -/

/-- Far reads that a command begins with: addresses and bytes. -/
def State.cmdReads (s : State) (x : Chan) : List (Nat × Nat) :=
  let t := cmdTable x.cmd
  let op := cmdOp x.cmd
  let buckets (key : Octets) : List (Nat × Nat) :=
    let n := if t = 2 then 128 else 1024
    [(s.slotAddr t (s.loc0 t key), n), (s.slotAddr t (s.loc4 t key), n)]
  let at_ (l : Nat) : List (Nat × Nat) := if l < s.locations t then [(s.slotAddr t l, 8 * entryWords t)] else []
  if t = 2 ∨ t = 9 then
    if op = 3 ∨ (op = 4 ∧ !cmdByLoc x.cmd) then buckets (storedKey t (x.data.take (entryWords t)))
    else if op = 6 then (searchLens t).flatMap (fun n => buckets ((keyWords x.data).take n))
    -- a write by location reads the entry it replaces, a MOVE its destination too (R219, R220)
    else if op = 5 then at_ x.arg0 ++ at_ x.arg1
    else at_ x.arg0
  else if t = 3 ∧ op = 1 ∧ cmdForm x.cmd ≠ 0 ∧ routePlaceOk (cmdForm x.cmd) x.arg0 (cmdWords x.cmd) s = csOk then
    [(x.arg0, 8 * cmdWords x.cmd)]
  else []

/-- Far accesses of a channel presented in class HOST. -/
def State.chanAccess (s : State) (c : Nat) (as : List (Nat × Nat)) (write : Bool) : State :=
  s.each as (fun t a => t.tableAccess (.chan c) clsHost a.1 a.2 write)

/-- A stack that a command must reach is down. -/
def State.anyDown (s : State) (as : List (Nat × Nat)) : Bool := as.any (fun a => !s.stackUp (farStack a.1))

/-- A hashed far command reaches only memory that its table owns: an interleaved table that lacks a region of a stack (R170) has no
such locations. -/
def State.placesMapped (s : State) (x : Chan) : Bool :=
  let t := cmdTable x.cmd
  (t != 2 && t != 9) || (s.cmdReads x).all (fun a => s.inRegion t a.1 a.2)

/-- The refusals of a command that depend on its word and its table alone (R208, R209, R221). -/
def State.cmdRefusal (s : State) (x : Chan) : Nat :=
  let t := cmdTable x.cmd
  let op := cmdOp x.cmd
  if 25 < t then csBadArg
  else if !s.tableAdmits t op then csState
  else if !opDefined t op then csBadOp
  else if s.rd R.tbl_ACCESS_MODE t = 1 ∧ op ≠ 1 ∧ op ≠ 6 then csMode
  else if !cmdWellFormed x.cmd then csBadArg
  else if t ≠ 3 ∧ (op = 1 ∨ op = 2 ∨ op = 5 ∨ (op = 4 ∧ (!isHash t ∨ cmdByLoc x.cmd))) ∧ s.places t ≤ x.arg0 then csBadArg
  else if !s.placesMapped x then csBadArg
  else csOk

/-- The command's work, once its reads are back (R218). -/
def State.cmdWork (s : State) (c : Nat) (x : Chan) : Done :=
  let t := cmdTable x.cmd
  let op := cmdOp x.cmd
  if t = 3 then (if op = 1 then s.cmdRouteRead x.cmd x.arg0 else s.cmdRouteWrite x.cmd x.arg0 x.data)
  else if op = 1 then s.cmdRead t x.arg0
  else if op = 2 then s.cmdWrite x.cmd x.arg0 x.data
  else if op = 3 then s.cmdInsert x.cmd c x.who x.data
  else if op = 4 then s.cmdDelete x.cmd x.arg0 x.data
  else if op = 5 then s.cmdMove x.cmd x.arg0 x.arg1
  else if isTcam t then s.cmdSearchTcam x.cmd x.arg0 x.data
  else s.cmdSearchHash x.cmd x.data

/-- Publish a command's outcome: CODE, SEQ, LOCATION, RESULT, DATA, then BUSY clear and DONE (R217). -/
def State.publish (s : State) (c : Nat) (x : Chan) (code loc result : Nat) (out : List Nat) : State :=
  let s1 := s.each out.zipIdx (fun t e => t.wr (R.chan_DATA0.at e.2) c e.1)
  let s2 := (s1.wr R.chan_RESULT c result).wr R.chan_STATUS c (statusWord false true code (cmdSeq x.cmd) loc)
  { s2 with tab := { s2.tab with chans := mdel s2.tab.chans c } }

/-- A SEARCH on ROUTE goes on: its next read, or its end. -/
def State.searchOn (s : State) (c : Nat) (x : Chan) : State :=
  let key := toBE 8 x.ref ++ keyWords (x.data.take 2)
  match s.searchStep ⟨0, x.ref, x.depth, x.visited, none, false, false⟩ key with
  | .ends code r bad => (match bad with
      | some a => s.reportBad 3 0x013 0x0F (nearReport a)
      | none => s).publish c x code 0 r []
  | .read a n y =>
    (s.setChan c { x with phase := 1, ref := y.ref, depth := y.depth, visited := y.visited }).chanAccess c [(a, n)] false

/-- A command begins at the slot boundary after its acceptance (R217). -/
def State.startCmd (s : State) (c : Nat) : State :=
  match s.chan? c with
  | none => s
  | some x =>
    if x.phase ≠ 0 then s
    else
      let r := s.cmdRefusal x
      if r ≠ csOk then s.setChan c { x with phase := 2, code := r }
      else if cmdTable x.cmd = 3 ∧ cmdOp x.cmd = 6 then s.setChan c { x with phase := 1 }
      else
        let as := s.cmdReads x
        if s.anyDown as then s.setChan c { x with phase := 2, code := csUncorrectable }
        else (s.setChan c { x with phase := 1 }).chanAccess c as false

/-- The read of a SEARCH on ROUTE is back: the reference it holds, or the block's match. -/
def State.searchRead (s : State) (c : Nat) (x : Chan) : State :=
  let key := toBE 8 x.ref ++ keyWords (x.data.take 2)
  if x.depth = 0 ∨ !((refKind x.ref = 1 ∧ refFar x.ref) ∨ refKind x.ref = 2) then s.searchOn c x
  else
    let leaf := refKind x.ref == 2
    let a := if leaf then refAddr x.ref else nodeSlot x.ref (trieAddr key)
    let n := if leaf then 8 * refChunks x.ref else 1
    if s.farErr a n = 2 then (s.reportBad 3 0x013 0x0E a).publish c x csUncorrectable 0 0 []
    else
      let s := if s.farErr a n = 1 then s.reportCorrected 3 0x013 a else s
      let ws := s.farWords a n
      if leaf then match leafMatch ws (trieAddr key) (cmdTag x.cmd) with
        | some r => s.publish c x csOk 0 r []
        | none => s.publish c x csNotFound 0 0 []
      else s.searchOn c { x with ref := w ws 0 }

/-- COMMAND_COMPLETE (R217): a channel's command goes on as its far accesses complete, and ends. `errs` are the memory errors that
the words it reads turn out to have. A command that still waits for a transfer goes on waiting. -/
def execCommandComplete (c : Nat) (errs : List (Nat × Nat)) (s : State) : Host.Outcome State Fault Refusal :=
  outcome (c < 8) s <|
    match s.chan? c with
    | none => s
    | some x =>
      let accs := s.accsOf (fun o => o == .chan c)
      if x.phase = 0 ∨ !accs.all s.accDone then s
      else
        let s1 := s.each accs State.dropAcc
        if x.phase = 2 then s1.publish c x x.code x.loc x.result x.out
        else
          let s2 := s1.strike errs
          if cmdTable x.cmd = 3 ∧ cmdOp x.cmd = 6 then s2.searchRead c x
          else
            let d := s2.cmdWork c x
            if d.writes.isEmpty then d.s.publish c x d.code d.loc d.result d.out
            else
              -- the writes pass Babbitt before the command is complete
              (d.s.setChan c { x with phase := 2, code := d.code, loc := d.loc, result := d.result, out := d.out }).chanAccess c
                (d.writes.filter (fun a => s.stackUp (farStack a.1))) true

/-! ## Learning (R224 to R227) -/

/-- A learn record of eight words. -/
def learnRecord (type group tenant table source old stamp loc result age ext groups : Nat) (static : Bool) (key : Octets) : Octets :=
  let k := (key ++ List.replicate 24 0).take 24
  wordsLE [type * 2 ^ 60 + group * 2 ^ 57 + b2n static * 2 ^ 56 + groups * 2 ^ 53 + tenant * 2 ^ 41 + table * 2 ^ 36,
    source * 2 ^ 42 + old * 2 ^ 20, stamp * 2 ^ 16, loc, fieldAt k 0 8, fieldAt k 8 8, fieldAt k 16 8,
    result * 2 ^ 32 + age * 2 ^ 16 + ext]

/-- Write a learn record to the learn ring; whether it found room (R226). -/
def State.postLearn (s : State) (r : Octets) : Bool × State :=
  let (ok, s1) := s.record (s.rd R.lring_LEARN_RING 0) 2 r
  (ok, if ok then s1.bump R.lring_POSTED 0 else s1)

/-- The token bucket of learn records, in units of 2^-32 records, brought up to now (R226). -/
def State.learnFill (s : State) : State :=
  let dt := s.clk.ticks - s.tab.learnTick
  let cap := s.rd R.lring_LEARN_BURST 0 * 1250000000
  { s with tab := { s.tab with learnTick := s.clk.ticks
                               learnTokens := min cap (s.tab.learnTokens + dt * s.rd R.lring_LEARN_RATE 0) } }

/-- A NEW or MOVED record passes the holdoff filter and the token bucket (R226); whether it was posted. -/
def State.learn (s : State) (g t type : Nat) (key : Octets) (r : Octets) : Bool × State :=
  if !s.on R.lring_LEARN_ENABLE 0 then (false, s)
  else
    let f := s.hashC t key % 16384
    let held : Bool := match mfind s.tab.holdoff f with
      | some h => h.type == type && h.key == key && !s.past h.since (ticksUs (s.rd R.lring_LEARN_HOLDOFF 0))
      | none => false
    if s.rd R.lring_LEARN_HOLDOFF 0 ≠ 0 ∧ held = true then (false, s.bump R.lring_SUPPRESSED 0)
    else
      let s1 := s.learnFill
      if s1.tab.learnTokens < 1250000000 then (false, s1.bump R.lring_RATE_DROPPED 0)
      else
        let s2 := { s1 with tab := { s1.tab with learnTokens := s1.tab.learnTokens - 1250000000 } }
        let (ok, s3) := s2.postLearn r
        if ok then
          (true, { s3 with tab := { s3.tab with holdoff := mins s3.tab.holdoff f ⟨type, key, s3.clk.ticks⟩ } }.bump
            (if type = 1 then R.lgrp_NEW_POSTED else R.lgrp_MOVED_POSTED) g)
        else (false, s3.bump R.lring_RING_FULL 0)

/-! ## Ageing (R229) -/

/-- The location of slot 0 of bucket `b` in location order, and the buckets of both halves. -/
def bucketLoc (b : Nat) : Nat := 4 * b

/-- One entry met by the ageing scanner. -/
def State.ageEntry (s : State) (t loc : Nat) : State :=
  let ws := s.entry t loc
  -- an entry with an uncorrectable word is left to be poisoned by a walk, a command or the scrubber (R231)
  if !entryValid t ws || entryPoisoned t ws || (t == 2 && hostStatic ws) || s.entryErr t loc == 2 then s
  else
    let stamp := if t = 2 then bits (w ws 3) 31 16 else bits (w ws 0) 31 16
    let age := (s.ageNow t + 65536 - stamp) % 65536
    let owner := if t = 2 then hostOwner ws else bits (w ws 0) 51 40
    let rec_ (type : Nat) : Octets := learnRecord type 0 owner t 0 0 (stamp48 s.now) loc (w ws 0 % 2 ^ 32) stamp (w ws 3 % 65536)
      (hostGroups ws) (hostStatic ws) (storedKey t ws)
    let post (u : State) (type : Nat) : State :=
      if t = 9 then u
      else if !u.on R.lring_LEARN_ENABLE 0 then (if type = 3 then u.bump R.tmnt_AGED_UNREPORTED t else u)
      else
        let (ok, u1) := u.postLearn (rec_ type)
        if ok then (if type = 3 then u1.bump R.tmnt_AGED_REPORTED t else u1)
        else (if type = 3 then u1.bump R.tmnt_AGED_UNREPORTED t else u1).bump R.lring_RING_FULL 0
    if s.rd R.tmnt_AGE_LIMIT t ≤ age then
      if s.rd R.tmnt_AGE_POLICY t = 1 then post s 3
      else
        let s1 := ((s.clearAt t loc).tableAccess (.scan t) clsUpdate (s.slotAddr t loc) (8 * entryWords t) true).bump
          R.tmnt_AGED_REMOVED t
        if t = 9 then s1.exportFlow ws else post s1 4
    else if t = 2 ∧ bit (w ws 0) 55 then
      (s.putFar (s.slotAddr 2 loc) (setBit (w ws 0) 55 false)).tableAccess (.scan t) clsUpdate (s.slotAddr 2 loc) 32 true
    else s

/-- The scan step of one table at an epoch boundary (R229). -/
def State.ageScan (s : State) (t : Nat) : State :=
  if s.rd R.tmnt_AGE_POLICY t = 0 ∨ s.rd R.tbl_STATE t ≠ 3 ∨ s.on R.tmnt_LOCKED t then s
  else
    let total := 2 * s.halfBuckets t
    let from_ := mget 0 s.tab.scanAt t
    let bs := (List.range (s.rd R.tmnt_SCAN_BUCKETS t)).map (fun i => (from_ + i) % total)
    let s1 := { s with tab := { s.tab with scanAt := mput 0 s.tab.scanAt t ((from_ + bs.length) % total) } }
    s1.each bs (fun u b =>
      let a := u.slotAddr t (bucketLoc b)
      if !u.stackUp (farStack a) then u
      else (u.each [0, 1, 2, 3] (fun v i => v.ageEntry t (bucketLoc b + i))).tableAccess (.scan t) clsUpdate a
        (if t = 2 then 128 else 1024) false)

/-- AGE_NOW and SWEEP_EPOCHS as they read (R228, R230). -/
def State.sweepEpochs (s : State) (t : Nat) : Nat :=
  if t = 2 ∨ t = 9 then ceilDiv (2 * s.halfBuckets t) (s.rd R.tmnt_SCAN_BUCKETS t) else 0

/-- The ageing settings keep every aged entry from wrapping (R230), for given values. -/
def ageBoundOk (t exp limit buckets : Nat) : Bool :=
  let total := if t = 2 then 8388608 else 2097152
  decide (limit + ceilDiv (ceilDiv total buckets * 1048576) (1000 * 2 ^ exp) ≤ 65535)

/-! ## The scrubber (R231, R232, R267, R268, R578) -/

/-- The table that owns a far-tier address. -/
def State.farTable (s : State) (a : Nat) : Option Nat :=
  [2, 3, 8, 9].find? (fun t => s.inRegion t (a / 8 * 8) 8)

/-- The auxiliary table and slot that a near-tier address of the auxiliary pool belongs to. -/
def State.auxPlace (s : State) (a : Nat) : Option (Nat × Nat) :=
  let slot := (a - auxBase) / 16
  (((List.range 8).map (· + 10)).find? (fun t =>
    decide (s.auxFirst t ≤ slot) && decide (slot < s.auxFirst t + s.rd R.tbl_ENTRY_COUNT t))).map (fun t => (t, slot - s.auxFirst t))

/-- The table whose memory an error key names, for the memories that the scrubber writes back. -/
def State.keyTable (s : State) (k : Nat) : Option Nat :=
  if 2 ^ 41 ≤ k then some (18 + (k - 2 ^ 41) / 32768)
  else if 2 ^ 40 ≤ k then s.farTable (k - 2 ^ 40)
  else (s.auxPlace k).map (·.1)

/-- The scrubber's write-back for the error at a key (R231): a corrected far word is written back, a COUNTER home becomes zero, a HOST or
FLOWTEL slot is poisoned, an AUX slot or a TCAM entry loses VALID. A far write passes Babbitt in class SCRUB (R278). -/
def State.scrubPut (s : State) (t k : Nat) : State :=
  -- an entry that was rewritten since it was found bad stays
  let invalid (i : Nat) (u : State) : State :=
    let ws := u.entry t i
    if u.upset k = 2 then u.putEntry t i (setBit (w ws 0) 63 false :: ws.drop 1) false else u
  if 2 ^ 41 ≤ k then invalid ((k - 2 ^ 41) % 32768) s
  else if 2 ^ 40 ≤ k then
    let a := k - 2 ^ 40
    if s.upset k = 0 then s
    else if s.upset k = 1 then
      { s with tab := { s.tab with upsets := mdel s.tab.upsets k } }.tableAccess .scrub clsScrub a 8 true
    else if t = 3 then s
    else if t = 8 then (s.putFar a 0).tableAccess .scrub clsScrub a 8 true
    else (s.poisonEntry t (s.farLoc t a)).tableAccess .scrub clsScrub (s.slotAddr t (s.farLoc t a)) (8 * entryWords t) true
  else match s.auxPlace k with
    | some (_, i) => invalid i s
    | none => s

/-- The scrubber writes back at once on a table that is RUNNING; while the table is LOCKED it defers the write-back (R213), and in any
other state its writes are suspended (R209). -/
def State.scrubWrite (s : State) (t k : Nat) : State :=
  if s.rd R.tbl_STATE t ≠ 3 then s
  else if s.on R.tmnt_LOCKED t then { s with tab := { s.tab with deferred := k :: s.tab.deferred.filter (· != k) } }
  else s.scrubPut t k

/-- The scrubber finds an uncorrectable word of far table memory; one of ROUTE stays as it is (R231). -/
def State.scrubFar (s : State) (t a : Nat) : State :=
  let at_ := if t = 2 ∨ t = 9 then s.slotAddr t (s.farLoc t a) else a
  let s1 := s.setUpset (farKey a) 2
  (if t = 3 then s1 else s1.scrubWrite t (farKey a)).reportBad t 0x014 0x0E at_

/-- The scrubber finds a bad word of near table memory: host-cache slots and leaf lines go, AUX entries lose VALID, other entries
stay and are reported. -/
def State.scrubNear (s : State) (a : Nat) : State :=
  let bad := s.setUpset (nearKey a) 2
  if a < nodeBase then
    let set := a / 128
    ((s.cacheEvict set (a % 128 / 16))).reportBad 2 0x014 0x0F (nearReport a)
  else if nodeBase + s.nodeBytes ≤ a ∧ a < nexthopBase then
    (s.leafDrop ((a - nodeBase - s.nodeBytes) / 256)).reportBad 3 0x014 0x0F (nearReport a)
  else if auxBase ≤ a ∧ a < tenantBase then
    match s.auxPlace a with
    | some (t, _) => (bad.scrubWrite t (nearKey a)).reportBad t 0x014 0x0F (nearReport a)
    | none => bad
  else
    let t := if a < nexthopBase then 3 else if a < groupBase then 4 else if a < memberBase then 5 else if a < meterBase then 6
      else if a < lineBase then 7 else if a < auxBase then 8 else if a < portBase then 1 else 0
    bad.reportBad t 0x014 0x0F (nearReport a)

/-- The scrubber finds the leaf-cache line that holds a leaf block bad: it is invalidated; the far copy is intact. -/
def State.scrubLeaf (s : State) (a : Nat) : State :=
  match s.leafFind a with
  | none => s
  | some (n, _) => (s.leafDrop n).reportBad 3 0x014 0x0F (nearReport (s.leafLine n))

/-- The scrubber finds a TCAM entry with bad parity: it is made invalid (R190, R231). -/
def State.scrubTcam (s : State) (e : Nat) : State :=
  let t := 18 + e / 32768 % 8
  ((s.setUpset (tcamKey (e % 262144)) 2).scrubWrite t (tcamKey (e % 262144))).reportBad t 0x014 0x0E (tcamReport (e % 262144))

/-- The queue that holds a page in use, and its place. -/
def State.pageOwner (s : State) (page : Nat) : Option (Nat × Nat) :=
  s.sto.queues.findSome? (fun e => (e.2.pages.findIdx? (fun p => p.page == page && p.state < 3)).map (fun n => (e.1, n)))

/-- The scrubber finds an uncorrectable word in a packet page: a page in use has its cells poisoned and retires when it is freed;
a free page retires now (R267, R268). A page with a spill write in flight is skipped (R258). -/
def State.scrubPage (s : State) (page : Nat) : State :=
  match s.pageOwner page with
  | some (q, n) =>
    if ((s.queue q).pages[n]?).any (fun p => p.state == 0) then s
    else
      ((s.setQueue q { s.queue q with pages := lmodify (s.queue q).pages n (fun p =>
        { p with poisoned := List.range 16, retire := true }) }).bump R.store_PKT_POISONED 0).fault 0x014 0x11 (pageReport page)
  | none => if s.sto.withheld.contains page then s else (s.retirePage page).recountPages

/-- The far tier is scrubbed in rising order of stack and address, so a pass ends with the last word of the last stack that is up (R578). -/
def State.scrubbed (s : State) (mem addr : Nat) : State :=
  let begun := if s.tab.scrubSince = 0 then { s with tab := { s.tab with scrubSince := s.clk.ticks + 1 } } else s
  let share := s.rd R.store_TABLE_SHARE_GIB 0 * 134217728
  match ((List.range 8).filter s.stackUp).getLast? with
  | none => begun
  | some k =>
    if mem = 0 ∧ addr / 8 * 8 + 8 = farAddr k share then
      let took := s.clk.ticks + 1 - begun.tab.scrubSince
      ({ begun with tab := { begun.tab with scrubSince := s.clk.ticks + 1 } }.bump R.scrub_PASSES 0).wr R.scrub_LAST_PASS 0
        (openDiv took 1250000 % 2 ^ 32)
    else begun

/-- The scrubber finds a bad word of the memories that it cannot mend (R231, R266, R573): a near-tier packet cell; the link or descriptor
memory of a queue, [21:20] and [19:0] as QM_LINK has them, which discards the queue; or a word of a group's stores: group [19:17], nano-store [16], stage and word [15:0] as R157. -/
def State.scrubReport (s : State) (mem addr : Nat) : State :=
  if mem = 5 then (s.bump R.store_PKT_POISONED 0).fault 0x014 0x11 (cellReport addr)
  else if mem = 6 then
    let q := bits addr 21 20 * 0x40000000 + addr % 2 ^ 20
    if queueExists q then s.linkBad q else s
  else s.fault (0x030 + bits addr 19 17) (if bit addr 16 then 0x0C else 0x0B) (bits addr 15 0)

/-- The scrubber meets a correctable word: one of far table memory or of the packet store is written back (R231, R266, R578). -/
def State.scrubCorrect (s : State) (mem addr : Nat) : State :=
  let s1 := s.bump R.scrub_CORRECTED 0
  if mem = 0 then match s.farTable addr with
    | some t => ((s1.reportCorrected t 0x014 addr).setUpset (farKey addr) 1).scrubWrite t (farKey addr)
    | none => s1
  else if mem = 4 then ((s1.bump R.store_PKT_CORRECTED 0).farAccess .scrub clsScrub (addr / 2 ^ 28) (addr % 2 ^ 28) 1 true).2
  else s1.bump R.store_PKT_CORRECTED 0

/-- The scrubber meets an uncorrectable word, or one with bad parity (R231, R578). -/
def State.scrubBad (s : State) (mem addr : Nat) : State :=
  let s1 := s.bump R.scrub_UNCORRECTABLE 0
  match mem with
  | 0 => match s.farTable addr with
    | some t => s1.scrubFar t (addr / 8 * 8)
    | none => s1
  | 1 => s1.scrubNear (addr / 8 * 8)
  | 2 => s1.scrubLeaf addr
  | 3 => s1.scrubTcam addr
  | 4 => s1.scrubPage (addr / 64)
  | _ => s1.scrubReport mem addr

/-- The memory of a scrub read is there: a far one with its stack, any other with CORE (R11, R287). -/
def State.scrubbable (s : State) (mem addr : Nat) : Bool :=
  s.on R.scrub_ENABLE 0 && s.coreOn && (mem != 0 || s.stackUp (farStack addr)) && (mem != 4 || s.stackUp (addr / 2 ^ 28))

/-- SCRUB_READ (R231): the scrubber reads a word: `mem` 0 far table memory, 1 near table memory, 2 leaf-cache line, 3 TCAM entry,
4 packet page, 5 near-tier packet cell, 6 link or descriptor memory, 7 a group's stores; `addr` its table address (TCAM: group times 32,768
plus index; page: its 64-byte unit, stack times 2^28 plus page times 64 plus unit; cell: its number; 6 and 7: as `State.scrubReport`
gives); `found` 0 good, 1 correctable, 2 uncorrectable or parity. -/
def execScrubRead (mem addr found : Nat) (s : State) : Host.Outcome State Fault Refusal :=
  outcome (mem < 8 && found < 3 && addr < 2 ^ 40) s <|
    if !s.scrubbable mem addr then s
    else
      let s1 := s.scrubbed mem addr
      let s2 := if mem = 0 then s1.tableAccess .scrub clsScrub addr 8 false
        else if mem = 4 then (s1.farAccess .scrub clsScrub (addr / 2 ^ 28) (addr % 2 ^ 28) 1 false).2 else s1
      if found = 2 then s2.scrubBad mem addr
      else if found = 1 ∧ (mem = 0 ∨ mem = 4 ∨ mem = 5) then s2.scrubCorrect mem addr
      else s2

/-! ## Locks (R213) -/

/-- Accesses of a table's hardware writers that wait. -/
def State.writersOf (s : State) (t : Nat) : List Nat :=
  s.accsOf (fun o => match o with
    | .refresh _ _ => t == 2
    | .scan u => u == t
    | _ => false)

/-- LOCKED (R213): every hardware write queued for a locked table has been applied. -/
def execLocked (t : Nat) (s : State) : Host.Outcome State Fault Refusal :=
  outcome (t < 26) s <|
    if s.on R.tmnt_LOCK t ∧ (s.writersOf t).isEmpty then s.wr R.tmnt_LOCKED t 1 else s

/-- LOCK takes effect (R213): cleared, it unlocks at once and the scrubber's deferred write-backs are made. -/
def State.lockChanged (s : State) (t v : Nat) : State :=
  if v ≠ 0 then s
  else
    let mine := s.tab.deferred.filter (fun k => s.keyTable k == some t)
    let s1 := { s with tab := { s.tab with deferred := s.tab.deferred.filter (fun k => !mine.contains k) } }.wr R.tmnt_LOCKED t 0
    s1.each mine (fun u k => u.scrubWrite t k)

/-! ## Starting, stopping and erasing tables (R209, R233, R234) -/

/-- A START of HOST or ROUTE invalidates its near-tier copies (R233). -/
def State.tableStarts (s : State) (t : Nat) : State :=
  if t = 2 then
    { s with tab := { s.tab with near := s.tab.near.filter (fun e => nodeBase ≤ e.1 * 8), refBits := [] } }
  else if t = 3 then { s with tab := { s.tab with leaf := [] } }
  else s

/-- A table in STOPPING has returned its open walks and finished its queued writes (R209). -/
def State.tableStopped (s : State) (t : Nat) : Bool :=
  (s.writersOf t).isEmpty && s.tab.walks.all (fun e => e.2.table != t || (
    (match e.2.tag0 with
      | some x => x.returned
      | none => true) && (match e.2.tag1 with
      | some x => x.returned
      | none => true)))
    && (t != 8 || s.flushes.isEmpty)

/-- At the limit of its stop a table's open walks end as misses and its queued writes are discarded (R54). -/
def State.tableForced (s : State) (t : Nat) : State :=
  let tags := (s.tab.walks.filter (fun e => e.2.table == t)).flatMap (fun e => [(e.1, 0), (e.1, 1)])
  let s1 := s.each tags (fun u x =>
    let g := x.1 / 512
    let id := x.1 % 512
    match (u.walk? g id).bind (fun wk => wk.tag x.2) with
    | some tw => if tw.read.isSome then u
      else (u.each (u.accsOf (fun o => o == .walk g id x.2)) State.dropAcc).endWalk g id x.2 (.miss none)
    | none => u)
  let s2 := s1.each (s1.writersOf t) State.dropAcc
  if t ≠ 8 then s2
  else
    let s3 := s2.each s2.flushes (fun u a => match mfind u.bab.accs a with
      | some x => (match x.owner with
        | .flush pair pk _ => (u.dropAcc a).loseFlush pair pk
        | _ => u)
      | none => u)
    s3.wr R.ceng_FLUSH_QUEUED 0 s3.flushes.length

/-- Far bytes that the erase of a table writes: one region after another. -/
def State.eraseRegions (s : State) (t : Nat) : List (Nat × Nat) := (s.regions t).map (fun r => (farAddr r.1 r.2.1, r.2.2))

/-- A POWER_OFF of a table begins: its contents are written as zero (R234). -/
def State.eraseTable (s : State) (t : Nat) : State :=
  let inFar (k : Nat) : Bool := (s.eraseRegions t).any (fun r => r.1 ≤ k * 8 && decide (k * 8 < r.1 + r.2))
  let (lo, hi) := match t with
    | 0 => (portBase, portBase + 49152)
    | 1 => (tenantBase, tenantBase + 262144)
    | 2 => (0, nodeBase)
    | 3 => (nodeBase, nodeBase + 20 * 1048576)
    | 4 => (nexthopBase, groupBase)
    | 5 => (groupBase, memberBase)
    | 6 => (memberBase, meterBase)
    | 7 => (meterBase, lineBase)
    | 8 => (lineBase, auxBase)
    | _ => if isAux t then (s.nearAddr t 0, s.nearAddr t 0 + 16 * s.rd R.tbl_ENTRY_COUNT t) else (0, 0)
  let inNear (k : Nat) : Bool := lo ≤ k * 8 && decide (k * 8 < hi)
  -- owned entries are uncounted from their owners
  let owners := if t = 2 then (s.tab.far.filter (fun e => inFar e.1 && e.1 * 8 % 32 == 0 && bit e.2 63 && bit e.2 52)).map
    (fun e => bits e.2 51 40) else []
  let s1 := s.each owners (fun u o => u.useTenant R.tquota_HOST_USED o (· - 1))
  let s2 := if t = 3 then s1.each (List.range 4096) (fun u o =>
      if u.rd R.tquota_ROUTE_USED o = 0 ∧ u.rd R.tquota_LONG6_USED o = 0 then u
      else (u.wr R.tquota_ROUTE_USED o 0).wr R.tquota_LONG6_USED o 0)
    else if t = 9 then s1.each (List.range 4096) (fun u o =>
      if u.rd R.tquota_FLOW_USED o = 0 then u else u.wr R.tquota_FLOW_USED o 0)
    else s1
  let s3 := { s2 with tab := { s2.tab with
    near := s2.tab.near.filter (fun e => !inNear e.1)
    far := s2.tab.far.filter (fun e => !inFar e.1)
    tcam := if isTcam t then s2.tab.tcam.filter (fun e => e.1 / 8 / 32768 != t - 18) else s2.tab.tcam
    upsets := s2.tab.upsets.filter (fun e => !(if 2 ^ 42 ≤ e.1 then false
      else if 2 ^ 41 ≤ e.1 then isTcam t && (e.1 - 2 ^ 41) / 32768 == t - 18
      else if 2 ^ 40 ≤ e.1 then inFar ((e.1 - 2 ^ 40) / 8)
      else inNear (e.1 / 8)))
    leaf := if t = 3 then [] else s2.tab.leaf
    leafBlocks := if t = 3 then [] else s2.tab.leafBlocks } }
  let s4 := if t = 3 then s3.wr R.rte_LONG6_USED 0 0 else s3
  let s5 := (s4.wr R.tbl_ENTRIES t 0).wr R.tmnt_POISONED t 0
  -- the far-tier writes pass Babbitt; those to a stack that is off are discarded (R287)
  s5.each ((s.eraseRegions t).filter (fun r => s.stackUp (farStack r.1))) (fun u r => u.tableAccess (.scan t) clsUpdate r.1 r.2 true)

/-- Counts of what the tables hold (R202, R203, R206, R235), and of the open walks (R164). -/
def tableCount (k : Nat) : Bool :=
  R.trap_WALKS_OPEN.has k ||
  R.tbl_ENTRIES.has k || R.tmnt_POISONED.has k || R.tquota_HOST_USED.has k || R.tquota_ROUTE_USED.has k || R.tquota_LONG6_USED.has k
    || R.tquota_FLOW_USED.has k || R.rte_LONG6_USED.has k

/-- Every table's contents cleared in both tiers, with the counts of them: a device reset, or a change of the table share (R233, R269). -/
def State.clearTables (s : State) : State :=
  { s with
    dict := s.dict.filter (fun e => !tableCount e.1)
    acc := { s.acc with shadow := s.acc.shadow.filter (fun e => !tableCount e.1) }
    tab := { s.tab with
      near := [], far := [], tcam := [], leaf := [], leafBlocks := [], refBits := [], upsets := [], walks := [], chans := [], holdoff := []
      refreshed := [], scanAt := [], scrubSince := 0, deferred := [], learnTokens := 0, learnTick := s.clk.ticks } }

end Sys2Proof.Machine
end

