-- ==== Sys2Proof/Machine/Microcode.lean ====
section
/-! DEFINITION. One microword of a pipeline stage (04_microcode.md R124 to R140): key, table operation, meter, arithmetic,
write-back, next-PC, traps. -/

namespace Sys2Proof.Machine

/-! ## Stores (R124, R126, R128) -/

def State.ucode (s : State) (g : Nat) : Ucode := mget Ucode.empty s.pip.ucode g

/-- Number of a store: direction 0 ingress, 1 egress. -/
def storeNo (dir stage : Nat) : Nat := 16 * dir + stage

/-- Keys of memory errors in a micro-store and a nano-store. -/
def microKey (g dir stage a : Nat) : Nat := 2 ^ 42 + g * 2 ^ 32 + storeNo dir stage * 2048 + a
def nanoKey (g dir stage a : Nat) : Nat := 2 ^ 42 + g * 2 ^ 32 + 2 ^ 20 + storeNo dir stage * 2048 + a

def Ucode.microword (u : Ucode) (dir stage pc : Nat) : Nat := mget 0 u.micro (storeNo dir stage * 2048 + pc)
def Ucode.nanoword (u : Ucode) (dir stage p : Nat) : Nat := mget 0 u.nano (storeNo dir stage * 512 + p)

/-! ## The header vector (R90, R91, R129) -/

/-- Metadata word i, and a header vector with it replaced. -/
def md (hv : Octets) (i : Nat) : Nat := fieldAt hv (512 + 8 * i) 8
def setMd (hv : Octets) (i v : Nat) : Octets := patch hv (512 + 8 * i) (toBE 8 v)

/-- A field of a metadata word set. -/
def setField (hv : Octets) (i hi lo v : Nat) : Octets := setMd hv i (setBits (md hv i) hi lo v)

/-- Bits of each metadata word that stages may write; the others are hardware's or reserved (R91). -/
def writable (i : Nat) : Nat :=
  match i with
  | 1 => 0xFFF * 2 ^ 36 + 0x7 * 2 ^ 33 + 0x3 * 2 ^ 31 + 0xFFFF * 2 ^ 12
  | 2 => (2 ^ 24 - 1) * 2 ^ 40 + (2 ^ 20 - 1)
  | 3 => (2 ^ 42 - 1) * 2 ^ 22
  | 4 => (2 ^ 53 - 1) * 2 ^ 11
  | 6 => 2 ^ 32 - 1
  | 7 => 2 ^ 64 - 1
  | _ => 0

/-- A header vector after a stage's writes: hardware fields keep what they held (R91, R133). -/
def keepHardware (old new : Octets) : Octets :=
  (List.range 8).foldl (fun h i =>
    let m := writable i
    setMd h i (Nat.land (md new i) m + Nat.land (md old i) (2 ^ 64 - 1 - m))) new

/-- A 32-bit word written under a byte mask; words from 0x90 on are not writable (R129). -/
def putWord (hv : Octets) (i v mask : Nat) : Octets :=
  if 0x90 ≤ i then hv
  else (List.range 4).foldl (fun h j => if bit mask (3 - j) then patch h (4 * i + j) [bits v (31 - 8 * j) (24 - 8 * j)] else h) hv

/-! ## Fields of a nanoword (R128) -/

def nanoFence (n : Nat) : Bool := bit n 862
def nanoRule (n i : Nat) : Nat := bits n (861 - 16 * i) (846 - 16 * i)
def nanoSlot (n i : Nat) : Nat := bits n (797 - 29 * i) (769 - 29 * i)
def slotOpc (x : Nat) : Nat := bits x 28 24
def slotA (x : Nat) : Nat := bits x 23 18
def slotB (x : Nat) : Nat := bits x 17 12
def slotDest (x : Nat) : Nat := bits x 11 4
def slotMask (x : Nat) : Nat := bits x 3 0
def nanoCnt (n i : Nat) : Nat := if i = 0 then bits n 326 320 else bits n 333 327
def nanoMeterOp (n : Nat) : Nat := bits n 319 318
def nanoMeterIdx (n : Nat) : Nat := bits n 317 312
def nanoTableOp (n : Nat) : Nat := bits n 311 309
def nanoTableId (n : Nat) : Nat := bits n 308 303
def nanoTselSrc (n : Nat) : Bool := bit n 302
def nanoResultDest (n : Nat) : Nat := bits n 301 294
/-- RESULT_WORDS and KEY_GROUPS; a value beyond the field's range is taken as the largest in it (DESIGN CHOICE, log entry 74: R128 does not say
what the reserved values do). -/
def nanoResultWords (n : Nat) : Nat := min 16 (bits n 293 289)
def nanoMaskSel (n : Nat) : Nat := bits n 288 285
def nanoGroups (n : Nat) : Nat := min 20 (bits n 284 280)

/-- An ALU operation that the assist engine computes (R134). -/
def isAssist (opc : Nat) : Bool := opc == 0x1C || opc == 0x1D || opc == 0x1E

/-- The masked key of a stage (R130). `mask` is the selected key mask register, 80 octets. -/
def formKey (n : Nat) (hv : Octets) (mask : Nat) : Octets :=
  let raw := (List.range (nanoGroups n)).flatMap (fun g => slice hv (bits n (10 * g + 9) (10 * g)) 4)
  raw.zipIdx.map (fun e => if bit n (279 - e.2) then Nat.land e.1 (bits mask (639 - 8 * e.2) (632 - 8 * e.2)) else 0)

/-! ## Operands and the ALU (R131, R132, R134) -/

/-- What operands name in one stage. -/
structure Operands where
  key : Octets
  t : List Nat
  imm : Nat
  colour : Nat
  status : Nat
  consts : List Nat

/-- An operand; `a` holds the results of ALU slots 0 to 7 where they may be named. -/
def Operands.get (o : Operands) (a : List Nat) (v : Nat) : Nat :=
  if v < 20 then fieldAt o.key (4 * v) 4
  else if v < 36 then o.t.getD (v - 20) 0
  else if v < 44 then a.getD (v - 36) 0
  else if v = 44 then o.imm
  else if v = 45 then 0
  else if v = 46 then o.colour
  else if v = 47 then o.status
  else o.consts.getD (v - 48) 0

/-- The meter operand names only a key word, IMM or zero (R132). -/
def Operands.meter (o : Operands) (v : Nat) : Nat := if v < 20 ∨ v = 44 then o.get [] v else 0

/-- A one's-complement sum folded to 16 bits. -/
def fold16 (x : Nat) : Nat :=
  let y := x % 65536 + x / 65536
  let z := y % 65536 + y / 65536
  z % 65536 + z / 65536

/-- The result of an ALU operation on 32-bit operands; none for an operation that writes nothing (R134). -/
def alu (opc a b hashC hashR : Nat) : Option Nat :=
  let m := 2 ^ 32
  let sh := b % 32
  match opc with
  | 0x01 => some a
  | 0x02 => some ((a + b) % m)
  | 0x03 => some ((a + m - b) % m)
  | 0x04 => some (min (m - 1) (a + b))
  | 0x05 => some (a - b)
  | 0x06 => some (Nat.land a b)
  | 0x07 => some (Nat.lor a b)
  | 0x08 => some (Nat.xor a b)
  | 0x09 => some (Nat.land a (m - 1 - b))
  | 0x0A => some (a * 2 ^ sh % m)
  | 0x0B => some (a / 2 ^ sh)
  | 0x0C => some (a * 2 ^ sh % m + a / 2 ^ (32 - sh) % 2 ^ sh)
  | 0x0D => some (let k := bits b 9 5; if k = 0 then a / 2 ^ sh else a / 2 ^ sh % 2 ^ k)
  | 0x0E => some (b2n (a == b))
  | 0x0F => some (b2n (a != b))
  | 0x10 => some (b2n (decide (a < b)))
  | 0x11 => some (min a b)
  | 0x12 => some (max a b)
  | 0x13 => some (fold16 (a / 65536 + a % 65536 + b / 65536 + b % 65536))
  | 0x14 => some (beNat (toLE 4 a))
  | 0x15 => some a
  | 0x16 => some (a * b % m)
  | 0x17 => some hashC
  | 0x18 => some hashR
  | _ => none

/-- The assist engine's result (R134, R137). -/
def assist (opc a b : Nat) : Nat :=
  if opc = 0x1C then (if b = 0 then 2 ^ 32 - 1 else a / b)
  else if opc = 0x1D then (if b = 0 then a else a % b)
  else a * b / 2 ^ 32

/-- The results of the sixteen slots, in order: none where a slot gives none. Assist slots take their results from `asst`, in slot
order, zero beyond it. -/
def aluResults (n : Nat) (o : Operands) (hashC hashR : Nat) (asst : List Nat) : List (Option Nat) :=
  ((List.range 16).foldl (fun (acc : List (Option Nat) × List Nat) i =>
    let x := nanoSlot n i
    let a8 := if i < 8 then [] else (acc.1.take 8).map (·.getD 0)
    let a := o.get a8 (slotA x)
    let b := o.get a8 (slotB x)
    if isAssist (slotOpc x) then (acc.1 ++ [some (acc.2.headD 0)], acc.2.drop 1)
    else (acc.1 ++ [alu (slotOpc x) a b hashC hashR], acc.2)) ([], asst)).1

/-- The results of the assist slots of a microword, as the engine computes them in slot order; a slot may name an earlier one's (R137). -/
def assistResults (n : Nat) (o : Operands) (hashC hashR : Nat) : List Nat :=
  ((List.range 16).foldl (fun (acc : List (Option Nat) × List Nat) i =>
    let x := nanoSlot n i
    let a8 := if i < 8 then [] else (acc.1.take 8).map (·.getD 0)
    let a := o.get a8 (slotA x)
    let b := o.get a8 (slotB x)
    if isAssist (slotOpc x) then (acc.1 ++ [some (assist (slotOpc x) a b)], acc.2 ++ [assist (slotOpc x) a b])
    else (acc.1 ++ [alu (slotOpc x) a b hashC hashR], acc.2)) ([], [])).2

/-- A slot writes its destination (R134: SELNZ only when B is not zero). -/
def slotWrites (n i : Nat) (o : Operands) (rs : List (Option Nat)) : Bool :=
  let x := nanoSlot n i
  let a8 := if i < 8 then [] else (rs.take 8).map (·.getD 0)
  (rs.getD i none).isSome && (slotOpc x != 0x15 || o.get a8 (slotB x) != 0)

/-- Write-back (R133): result words first, then the ALU slots in order. -/
def writeBack (n : Nat) (hv : Octets) (o : Operands) (rs : List (Option Nat)) : Octets :=
  let d := nanoResultDest n
  let h1 := (List.range (nanoResultWords n)).foldl (fun h i => if d = 0xFF then h else putWord h (d + i) (o.t.getD i 0) 15) hv
  let h2 := (List.range 16).foldl (fun h i =>
    let x := nanoSlot n i
    if slotWrites n i o rs && slotDest x != 0xFF then putWord h (slotDest x) ((rs.getD i none).getD 0) (slotMask x) else h) h1
  keepHardware hv h2

/-- A next-PC condition (R135). -/
def condHolds (cond : Nat) (hit resumed : Bool) (op colour : Nat) (dropping : Bool) (rs : List (Option Nat)) : Bool :=
  if 0x10 ≤ cond then (rs.getD (cond - 0x10) none).getD 0 != 0
  else match cond with
    | 1 => hit
    | 2 => op != 0 && !hit
    | 3 => colour == 0
    | 4 => colour == 1
    | 5 => colour == 2
    | 6 => resumed
    | 7 => dropping
    | _ => false

/-- The next stage's microword (R135). -/
def nextPc (n word : Nat) (holds : Nat → Bool) : Nat :=
  match (List.range 4).find? (fun i => holds (nanoRule n i / 2048)) with
  | some i => nanoRule n i % 2048
  | none => bits word 22 12

/-! ## Table operations (R171, R172, R182, R185, R190 to R192) -/

/-- What a table operation finds. -/
inductive Look where
  /-- result words from T0 on, and the location of a hashed entry -/
  | hit (t : List Nat) (loc : Option Nat)
  | miss
  /-- a far-tier walk would be needed: the address it starts from -/
  | far (addr : Nat)
  | trap (kind detail addr : Nat)
deriving DecidableEq, Repr

/-- The table bound to a handle. -/
def State.bound (s : State) (g handle : Nat) : Option Nat :=
  match (s.ucode g).bind[handle]? with
  | some t => if t < 26 then some t else none
  | none => none

/-- A parity error met by a lookup at a near-tier address (R231, R155). -/
def State.lookupParity (s : State) (t g addr : Nat) : Look × State :=
  (.trap trapFault 1 (nearReport addr), s.reportBad t (0x030 + g) 0x0F (nearReport addr))

/-- A far-tier read that a table operation needs: a walk from `start`, or DEVICE where `n` bytes at `a` lie outside the table's regions
(R96, R136), whatever TRAP_EN says (R127). -/
def State.needFar (s : State) (t start a n : Nat) : Look :=
  if s.inRegion t a n then .far start else .trap trapDevice 1 a

/-- A meter update would read an entry with bad parity (R96). -/
def State.meterBad (s : State) (i tenant : Nat) : Bool :=
  !s.guarded tenant R.tlimit_METER_FIRST R.tlimit_METER_COUNT i && s.rd R.tbl_STATE 7 == 3 && s.nearErr (meterBase + 16 * i) 2 == 2

/-- DIRECT (R191, R192). -/
def State.direct (s : State) (t g : Nat) (key : Octets) : Look × State :=
  let i := fieldAt key 1 3
  if t = 5 then
    let i := i % 131072
    let a := s.nearAddr 5 i
    if s.nearErr a 1 = 2 then s.lookupParity 5 g a
    else
      let h := s.near a
      let m := bits h 20 0 + fieldAt key 6 2 * (bits h 59 50 + 1) / 65536
      -- MEMBER has a state of its own: not RUNNING, it holds nothing that a lookup finds (R209)
      if !bit h 63 ∨ 2097152 ≤ m ∨ s.rd R.tbl_STATE 6 ≠ 3 then (.miss, s)
      else if s.nearErr (memberBase + 4 * m) 1 = 2 then s.lookupParity 6 g (memberBase + 4 * m)
      else if bit (s.member m) 31 then (.hit [s.member m, h % 2 ^ 32] none, s)
      else (.miss, s)
  else if s.rd R.tbl_CAPACITY t ≤ i ∨ (t = 1 ∧ !s.tenantRuns i) then (.miss, s)
  else if s.entryErr t i = 2 then s.lookupParity t g (s.nearAddr t i)
  else
    let ws := s.entry t i
    if bit (w ws 0) 63 then (.hit (ws.flatMap (fun v => [v / 2 ^ 32, v % 2 ^ 32])) none, s) else (.miss, s)

/-- HASH on an AUX table (R180). -/
def State.hashAux (s : State) (t g : Nat) (key : Octets) (tag : Nat) : Look × State :=
  match (s.candidates t key).find? (fun l => s.entryErr t l == 2) with
  | some l => s.lookupParity t g (s.nearAddr t l)
  | none => match s.findEntry t key tag false with
    | some l => (.hit (hashResult t (s.entry t l) l) (some l), s)
    | none => (.miss, s)

/-- HASH on HOST: the near-tier cache (R182, R231). -/
def State.hashHost (s : State) (g : Nat) (key : Octets) (tag : Nat) : Look × State :=
  let set := s.cacheSet key
  match (List.range 8).find? (fun i => s.nearErr (cacheSlot set i) 2 == 2) with
  | some i => (s.cacheEvict set i).lookupParity 2 g (cacheSlot set i)
  | none => match s.cacheFind key tag with
    | some i =>
      let l := bits (s.near (cacheSlot set i)) 56 32
      let r := mget 0 s.tab.refBits set
      let pair := bit (s.near (cacheSlot set i)) 57
      let ext := if pair then s.near (cacheSlot set (i + 1) + 8) % 65536 else 0
      let a := s.near (cacheSlot set i)
      (.hit [a % 2 ^ 32, ext, bits a 62 61 * 2 ^ 30 + l] (some l),
        s.setRef set (if pair then setBit (setBit r i true) (i + 1) true else setBit r i true))
    | none =>
      let b0 := s.slotAddr 2 (s.loc0 2 key)
      let b1 := s.slotAddr 2 (s.loc4 2 key)
      (if s.inRegion 2 b0 128 then s.needFar 2 b0 b1 128 else .trap trapDevice 1 b0, s)

/-- TRIE: one step (R185). -/
def State.trie (s : State) (g : Nat) (key : Octets) (tag : Nat) : Look × State :=
  let r := fieldAt key 0 8
  let a := trieAddr key
  if s.malformed r then (.miss, s.bump R.rte_MALFORMED 0)
  else if refKind r = 0 then (.miss, s)
  else if refKind r = 3 then (.hit (refResult r) none, s)
  else if refKind r = 1 then
    if refFar r then (s.needFar 3 (refAddr r) (nodeSlot r a) 8, s)
    else
      let slot := nodeSlot r a
      if s.nearErr slot 1 = 2 then s.lookupParity 3 g slot
      else
        let v := s.near slot
        if refKind v = 0 then (.miss, s) else (.hit (refResult v) none, s)
  else
    let far := s.needFar 3 (refAddr r) (refAddr r) (64 * refChunks r)
    match s.leafFind (refAddr r) with
    | none => (far, s)
    | some (n, ws) =>
      if ws.length < 8 * refChunks r then (far, s)
      else if s.nearErr (s.leafLine n) (8 * refChunks r) = 2 then (s.leafDrop n).lookupParity 3 g (s.leafLine n)
      else match leafMatch (ws.take (8 * refChunks r)) a tag with
        | some v => (.hit (refResult v) none, s)
        | none => (.miss, s)

/-- A table operation of a stage. -/
def State.lookup (s : State) (g dir stage op handle : Nat) (key : Octets) (tag : Nat) : Look × State :=
  match s.bound g handle with
  | none => (.miss, s.bump R.tbl_OP_MISMATCH 0)
  | some t =>
    let legal := (op == 1 && (t == 2 || isAux t)) || (op == 2 && t == 3) || (op == 3 && isTcam t)
      || (op == 4 && (t ≤ 1 || t == 4 || t == 5))
    if !legal then (.miss, s.bump R.tbl_OP_MISMATCH t)
    else
      let s0 := s.bump R.tbl_LOOKUPS t
      if s.rd R.tbl_STATE t ≠ 3 then (.miss, s0)
      else if op = 4 then s0.direct t g key
      else if op = 2 then s0.trie g key tag
      else if op = 3 then
        match s0.tcamFind (t - 18) dir stage (beNat key * 2 ^ (640 - 8 * key.length)) tag with
        | some i => let d := w (s0.entry t i) 1; (.hit [d / 2 ^ 32, d % 2 ^ 32, i] none, s0)
        | none => (.miss, s0)
      else if t = 2 then s0.hashHost g key tag
      else s0.hashAux t g key tag

/-! ## One stage -/

/-- What a packet brings back from a trap to its microword (R140). -/
structure Resume where
  /-- the walk's end, when its trap was a WALK -/
  ended : Option WalkEnd
  assists : Option (List Nat)
  colour : Nat
  meterDone : Bool
deriving DecidableEq, Repr

/-- A trap taken in a stage, with what the trap frame records (R136, R156). -/
structure TrapRec where
  kind : Nat
  detail : Nat
  addr : Nat
  colour : Nat
  meterDone : Bool
  handle : Nat
  key : Octets
  crcC : Nat
  crcR : Nat
  assists : List Nat
  fenced : Bool
deriving DecidableEq, Repr

/-- The end of a microword: on to the next stage with the outcome, handle and colour of its STAGE trace record and its first result
word (R502), a trap, or a store word with bad parity (nano, and the word). -/
inductive StageEnd where
  | next (hv : Octets) (pc w2 t0 : Nat)
  | trap (r : TrapRec)
  | parity (nano : Bool) (word : Nat)
deriving DecidableEq, Repr

/-- The words of a walk's end, as a table result. -/
def WalkEnd.words (e : WalkEnd) : Option (List Nat) :=
  match e with
  | .hit ws _ _ => some ws
  | _ => none

/-- The location of a walk's end. -/
def WalkEnd.loc (e : WalkEnd) : Option Nat :=
  match e with
  | .hit _ l _ => l
  | _ => none

/-- Packet, tenant and tag as a stage sees them. -/
def hvTag (hv : Octets) : Nat := bits (md hv 1) 30 30
def hvTenant (hv : Octets) : Nat := bits (md hv 1) 47 36
def hvHash (hv : Octets) : Nat := bits (md hv 1) 27 12
def hvLen (hv : Octets) : Nat := bits (md hv 1) 63 50

/-- A HASH operation has its final outcome: the hit's refresh, and what the learn handle posts (R225, R228). `walked`: the outcome
came from a walk. -/
def State.hashDone (s : State) (g handle t : Nat) (key hv : Octets) (look : Look) (walked : Bool) : State :=
  let port := bits (md hv 0) 9 0
  let source := s.rd R.ident_DEVICE_ID 0 % 4096 * 1024 + port
  let learns := s.rd R.lgrp_LEARN_HANDLE g == handle && bits (md hv 0) 14 13 != 1 && bits (md hv 0) 14 13 != 2
  let r (type old loc result ext : Nat) (static : Bool) : Octets :=
    learnRecord type g (hvTenant hv) t source old (stamp48 s.now) loc result 0 ext (key.length / 4) static key
  match look with
  | .hit ws (some l) =>
    let e := s.entry t l
    if learns ∧ w ws 0 % 2 ^ 22 ≠ source then
      let (posted, s1) := s.learn g t 2 key (r 2 (w ws 0 % 2 ^ 22) l (w ws 0) (w ws 1) (t == 2 && hostStatic e))
      if t = 2 ∧ !posted then s1.refresh l else s1
    else if t = 2 then s.refresh l else s
  | .miss => if learns ∧ (t ≠ 2 ∨ walked) then (s.learn g t 1 key (r 1 0 0 0 0 false)).2 else s
  | _ => s

/-- The ALU, write-back, counter posts and next-PC of a microword (R96, R132 to R135), or its ASSIST trap. -/
def State.finishStage (s : State) (dir st n word : Nat) (hv : Octets) (rs : Option Resume) (colour : Nat) (o : Operands)
    (hit : Bool) (len cC cR : Nat) (trapEn : Bool) (assistTrap : List Nat → StageEnd) (hashed : State → State) :
    StageEnd × State :=
  let wants := (List.range 16).any (fun i => isAssist (slotOpc (nanoSlot n i)))
  let have_ := match rs with
    | some r => r.assists
    | none => none
  if wants && trapEn && have_.isNone then (assistTrap (assistResults n o cC cR), s)
  else
    let results := aluResults n o cC cR (if trapEn then have_.getD [] else [])
    let hv' := writeBack n hv o results
    let a8 := (results.take 8).map (·.getD 0)
    let s1 := [0, 1].foldl (fun t i =>
      let c := nanoCnt n i
      if bit c 6 then t.postGuarded (hvTenant hv) (o.get a8 (c % 64) % 16777216) len else t) (hashed s)
    let handle := if nanoTselSrc n then bits word 11 1 % 64 else nanoTableId n
    let noOp := nanoTableOp n == 0 || decide (5 ≤ nanoTableOp n)
    let holds (r : Nat) : Bool :=
      condHolds r hit rs.isSome (if noOp then 0 else nanoTableOp n) colour (bit (md hv' 3) 55) results
    let walked := bit o.status 3
    let w2 := b2n (hit && !noOp) * 2 ^ 15 + b2n (!hit && !noOp) * 2 ^ 14 + b2n walked * 2 ^ 13 + b2n rs.isSome * 2 ^ 12 + handle * 2 ^ 6
      + colour * 2 ^ 4
    (.next hv' (if (dir = 0 ∧ st = 13) ∨ (dir = 1 ∧ st = 9) then 0 else nextPc n word holds) w2 (o.t.getD 0 0), s1)

/-- A microword whose result or trap frame shows the CRCs of its key (R134, R156). -/
def showsCrc (n : Nat) : Bool :=
  nanoFence n || nanoMeterOp n == 1 || (List.range 16).any (fun i => let o := slotOpc (nanoSlot n i); o == 0x17 || o == 0x18 || isAssist o)

/-- Both CRCs of a stage's key under the seeds of its table (R95, R134). A handle bound to no table has no seed: free values where the microword
uses them or the frame of a trap of it shows them. -/
def State.stageCrcs (s : State) (t? : Option Nat) (n : Nat) (key : Octets) : Nat × Nat × State :=
  match t? with
  | some t => (s.hashC t key, s.hashR t key, s)
  | none =>
    if showsCrc n then
      let (c, s1) := s.free 32
      let (r, s2) := s1.free 32
      (c, r, s2)
    else (0, 0, s)

/-- Table operations that can walk: a HASH operation on HOST and a TRIE step on ROUTE (R171). -/
def opWalks (t? : Option Nat) (op : Nat) : Bool := (op == 1 && t? == some 2) || (op == 2 && t? == some 3)

/-- A table operation that meets an open walk counts as an operation, and as a near miss that trapped where the near tier holds
nothing for it (R143, R202). -/
def State.metWalk (s : State) (t? : Option Nat) (near : Look) : State :=
  match t? with
  | none => s
  | some t =>
    let s1 := s.bump R.tbl_LOOKUPS t
    match near with
    | .far _ => s1.bump R.tbl_NEAR_MISSES t
    | _ => s1

/-- A table is RUNNING: a lookup on one that is not raises no trap (R209). -/
def State.tableRuns (s : State) (t? : Option Nat) : Bool :=
  match t? with
  | some t => s.rd R.tbl_STATE t == 3
  | none => false

/-- Run one microword of a stage. METER_OP 2 and 3 and TABLE_OP 5 to 7, which are reserved, act as NONE (DESIGN CHOICE, log entry 74). `openWalk` tells, for a handle and key, whether the packet meets an open walk, and the returned
entry when it may use that and go on (R143); `behind` that an older member of its fence has not completed (R146). -/
def State.stage (s : State) (g dir st pc : Nat) (hv : Octets) (rs : Option Resume)
    (openWalk : State → Nat → Octets → Option (Option WalkEnd)) (behind : Bool) : StageEnd × State :=
  let u := s.ucode g
  let word := u.microword dir st pc
  let np := bits word 31 23
  if s.upset (microKey g dir st pc) ≠ 0 then (.parity false pc, s)
  else if s.upset (nanoKey g dir st np) ≠ 0 then (.parity true np, s)
  else
    let n := u.nanoword dir st np
    let trapEn := bit word 0
    let imm := bits word 11 1
    let consts := mget [] u.consts (storeNo dir st)
    let mask := (mget [] u.masks (storeNo dir st)).getD (nanoMaskSel n) 0
    let key := formKey n hv mask
    let tag := hvTag hv
    let handle := if nanoTselSrc n then imm % 64 else nanoTableId n
    let t? := s.bound g handle
    let (cC, cR, s) := s.stageCrcs t? n key
    let fence := nanoFence n && dir == 0
    let mk (kind detail addr colour : Nat) (done : Bool) (asst : List Nat) : StageEnd :=
      .trap ⟨kind, detail, addr, colour, done, handle, key, cC, cR, asst, fence⟩
    let len := s.counted (hvLen hv) (bits (md hv 4) 14 11)
    let op := nanoTableOp n
    let pre : Operands := ⟨key, [], imm, 0, 0, consts⟩
    -- the meter acts beside the table and before any trap, once for each packet (R139, R140)
    let again := match rs with
      | some r => r.meterDone
      | none => false
    let meters := nanoMeterOp n == 1 && !again
    let meterIx := pre.meter (nanoMeterIdx n) % 524288
    let badMeter := meters && s.meterBad meterIx (hvTenant hv)
    let (colour, s1) :=
        if meters && !badMeter then s.meter meterIx len (bits (md hv 1) 32 31) (hvTenant hv)
        else (match rs with
          | some r => if r.meterDone then r.colour else bits (md hv 1) 32 31
          | none => bits (md hv 1) 32 31, s)
    let done := again || (meters && !badMeter)
    if fence && behind && rs.isNone then (mk trapFence 0 0 colour done [], s1)
    else
      let met := if trapEn && opWalks t? op && s1.tableRuns t? then openWalk s1 handle key else none
      let ended := match rs with
        | some r => r.ended
        | none => none
      let (look, s2) : Look × State :=
        if badMeter then s1.lookupParity 7 g (meterBase + 16 * meterIx)
        else if op = 0 ∨ 5 ≤ op then (.miss, s1)
        else match ended with
          | some e => match e.words with
            | some ws => (.hit ws e.loc, match t? with
                | some t => s1.bump R.tbl_HITS t
                | none => s1)
            | none => (.miss, s1)
          | none =>
            match met with
            | some none => (.far 0, s1.metWalk t? (s1.lookup g dir st op handle key tag).1)
            | some (some e) => (match e.words with
                | some ws => (.hit ws e.loc, match t? with
                    | some t => (s1.bump R.tbl_LOOKUPS t).bump R.tbl_HITS t
                    | none => s1)
                | none => (match e with
                  | .trap k d a => .trap k d a
                  | _ => .miss, s1.metWalk t? .miss))
            | none =>
              let (l, s2) := s1.lookup g dir st op handle key tag
              (l, match l, t? with
                | .hit _ _, some t => s2.bump R.tbl_HITS t
                | .far _, some t => s2.bump R.tbl_NEAR_MISSES t
                | _, _ => s2)
      -- the result came from a far-tier walk: its own, or one that had returned (R131, R143)
      let walked := ended.isSome || met.any (·.isSome)
      let status (h : Bool) : Nat := (if op = 0 ∨ 5 ≤ op then 0 else if h then 1 else 2) + (if rs.isSome then 4 else 0)
        + (if walked then 8 else 0)
      let go (ws : List Nat) (h : Bool) (hashed : State → State) : StageEnd × State :=
        s2.finishStage dir st n word hv rs colour ⟨key, ws, imm, colour, status h, consts⟩ h len cC cR trapEn
          (mk trapAssist 0 0 colour done) hashed
      match look with
      | .trap k d a => (mk k d a colour done [], s2)
      | .far a => if trapEn then (mk trapWalk 0 a colour done [], s2) else go [] false id
      | .miss => go [] false (fun u => match t? with
        | some t => if op = 1 then u.hashDone g handle t key hv .miss walked else u
        | none => u)
      | .hit ws l => go ws true (fun u => match t? with
        | some t => if op = 1 then u.hashDone g handle t key hv (.hit ws l) walked else u
        | none => u)

end Sys2Proof.Machine
end

