-- ==== Sys2Proof/Machine/Images.lean ====
section
/-! DEFINITION. Loads: microcode images of a pipeline group (04_microcode.md R158 to R163) and the board table (10_lanes.md R329 to
R332). -/

namespace Sys2Proof.Machine

/-- The value of an STP sub-index as last written, in effect or not. -/
def State.stpOr (s : State) (r : Reg) (n : Nat) : Nat := (mfind s.acc.stp (key r n)).getD (s.rd r n)

/-- A load begins: its source, address and length as they stand; a load from the host issues its reads, or fails while PF0 may
issue none (R161, R332, R538, R546). `g` is a group, or 8 for the board table. -/
def State.startLoad (s : State) (g src addr len : Nat) (status : Reg) (n fail : Nat) : State :=
  if s.rd status n = 1 then s
  else if src = 0 ∧ !s.masters 0 then s.wr status n fail
  else
    let s1 := { s with pip := { s.pip with loading := mins s.pip.loading g (len, addr, src) } }.wr status n 1
    if src = 0 then s1.issueRead (256 + g) 0 addr len else s1

/-- A LOAD of group `g` takes effect (R161, R163). -/
def State.loadImage (s : State) (g : Nat) : State :=
  s.startLoad g (s.stpOr R.img_SOURCE g) (s.stpOr R.img_ADDRESS g) (s.stpOr R.img_LENGTH g) R.img_STATUS g 8

/-- A LOAD of the board table takes effect (R332, R351). -/
def State.loadBoard (s : State) : State :=
  s.startLoad 8 (s.rd R.board_SOURCE 0) (s.rd R.board_ADDRESS 0) (s.rd R.board_LENGTH 0) R.board_STATUS 0 7

/-- Octets that lie in the boot flash, of at least 32 MiB (R597). -/
def inFlash (at_ n : Nat) : Bool := decide (at_ + n ≤ 32 * 2 ^ 20) || decide (at_ + n ≤ Config.flashSize * 2 ^ 20)

/-- The octets a load fetched: what flash holds, or what the host's memory returned; and whether they are whole: a load that reaches beyond the
flash is not (R161, R332). -/
def State.fetched (s : State) (g : Nat) (bytes : Octets) : Octets × Bool :=
  match mfind s.pip.loading g with
  | none => ([], false)
  | some (len, addr, src) => if src = 1 then (flashOctets s addr len, inFlash addr len) else (bytes, bytes.length == len)

/-- The octets of a name padded with zeros. -/
def trimName (bs : Octets) : Octets := (bs.reverse.dropWhile (· == 0)).reverse

/-! ## Images (R158, R159) -/

/-- One section: type, target, offset, length, CRC. -/
structure Section_ where
  type : Nat
  target : Nat
  at_ : Nat
  len : Nat
  crc : Nat
deriving DecidableEq, Repr

/-- The section table of an image. -/
def imageSections (im : Octets) : List Section_ :=
  (List.range (fieldAt im 6 2)).map (fun i =>
    let o := 256 + 16 * i
    ⟨fieldAt im o 2, fieldAt im (o + 2) 2, fieldAt im (o + 4) 4, fieldAt im (o + 8) 4, fieldAt im (o + 12) 4⟩)

/-- Direction and stage of a section's target, and whether a stage store of it exists (R159). -/
def Section_.dir (x : Section_) : Nat := x.target / 16 % 2
def Section_.stage (x : Section_) : Nat := x.target % 16
def Section_.targetOk (x : Section_) : Bool :=
  if x.type ≤ 3 then x.target < 32 && decide (x.stage < (if x.dir = 0 then 14 else 10)) else true

/-- The lengths of MICRO, NANO and CONST are within the store sizes (R161 step 2). -/
def Section_.lenOk (x : Section_) : Bool :=
  match x.type with
  | 1 => decide (x.len ≤ 2048 * 4)
  | 2 => decide (x.len ≤ 512 * 128)
  | 3 => decide (x.len ≤ 1344)
  | _ => true

/-- Check 2: MAGIC, FORMAT, section bounds, targets and lengths (R161). -/
def formatOk (im : Octets) : Bool :=
  let n := fieldAt im 6 2
  fieldAt im 0 4 == 0x4D4C5655 && fieldAt im 4 2 == 1 && decide (1 ≤ n) && decide (n ≤ 128) &&
    decide (256 + 16 * n + 256 ≤ im.length) &&
    (imageSections im).all (fun x => decide (1 ≤ x.type) && decide (x.type ≤ 7) && decide (256 + 16 * n ≤ x.at_)
      && decide (x.at_ + x.len ≤ im.length - 256) && x.targetOk && x.lenOk)

/-- The data of a section, and check 5 on it. -/
def Section_.data (x : Section_) (im : Octets) : Octets := slice im x.at_ x.len
def Section_.crcOk (x : Section_) (im : Octets) : Bool := crc32c 0xFFFFFFFF (x.data im) == x.crc

/-- The table numbers of a BIND section; none where an entry names no table (R159). -/
def bindTables (d : Octets) : List (Option Nat) :=
  (List.range (min 64 (ceilDiv d.length 4))).map (fun i =>
    if fieldAt d (4 * i) 2 = 0x4000 ∧ fieldAt d (4 * i + 2) 2 < 26 then some (fieldAt d (4 * i + 2) 2) else none)

/-- Check 6: the firmware is new enough, the drop codes are microcode codes, every BIND entry names a table (R161). -/
def State.imageFits (s : State) (im : Octets) : Bool :=
  decide (fieldAt im 40 4 ≤ s.rd R.ident_FW_VERSION 0) && decide (0x80 ≤ fieldAt im 88 1) && decide (0x80 ≤ fieldAt im 89 1) &&
    (imageSections im).all (fun x => x.type != 6 || (bindTables (x.data im)).all Option.isSome)

/-- The words of `n` octets each that a section carries, loaded from a base key on. -/
def loadWords (m : Dict) (base n : Nat) (d : Octets) : Dict :=
  (List.range (ceilDiv d.length n)).foldl (fun m i => mput 0 m (base + i) (fieldAt d (n * i) n)) m

/-- What a section puts into the stores (R159). TARGET bit 4 also tells ingress from egress for PARSE and DEPARSE sections (DESIGN CHOICE, log
entry 68: R159 gives TARGET for MICRO, NANO and CONST only). -/
def Ucode.load (u : Ucode) (x : Section_) (d : Octets) : Ucode :=
  let st := storeNo x.dir x.stage
  match x.type with
  | 1 => { u with micro := loadWords u.micro (st * 2048) 4 d }
  | 2 => { u with nano := loadWords u.nano (st * 512) 128 d }
  | 3 => { u with consts := mins u.consts st ((List.range 16).map (fun i => fieldAt d (4 * i) 4)),
                  masks := mins u.masks st ((List.range 16).map (fun i => fieldAt d (64 + 80 * i) 80)) }
  | 4 => { u with parse := if x.dir = 0 then [d, u.parse.getD 1 []] else [u.parse.getD 0 [], d] }
  | 5 => { u with deparse := if x.dir = 0 then [d, u.deparse.getD 1 []] else [u.deparse.getD 0 [], d] }
  | 6 => { u with bind := ((bindTables d).map (fun o => o.getD 0xFF)) ++ List.replicate (64 - min 64 (ceilDiv d.length 4)) 0xFF }
  | _ => u

/-- A stage for which an image has no CONST section has constants and key masks of 0 (DESIGN CHOICE, log entry 16). The header's fields (R158): the dependency pairs that are in use, the entry and handler addresses, codes and required values. -/
def Ucode.header (im : Octets) : Ucode :=
  let pair (i : Nat) : Nat × Nat := (fieldAt im (48 + 2 * i) 1, fieldAt im (49 + 2 * i) 1)
  { Ucode.empty with
    entry := (List.range 5).map (fun i => fieldAt im (64 + 2 * i) 2 % 2048)
    handler := (List.range 7).map (fun i => fieldAt im (74 + 2 * i) 2 % 2048)
    limitCode := fieldAt im 88 1, trapCode := fieldAt im 89 1, bridgeMin := fieldAt im 90 1
    tcamMap := (slice im 92 16).map (Nat.land 0xCF), tcamWide := fieldAt im 108 4
    pairs := ((List.range 8).map pair).filter (fun p => p != (0xFF, 0xFF))
    bind := List.replicate 64 0xFF, parse := [[], []], deparse := [[], []] }

/-- The stores as an image loads them. -/
def imageUcode (im : Octets) : Ucode := (imageSections im).foldl (fun u x => u.load x (x.data im)) (Ucode.header im)

/-- The status of checks 1 to 6 on a fetched image: 2 when it passes them all (R161). -/
def State.imageStatus (s : State) (im : Octets) (whole : Bool) : Nat :=
  let block := im.drop (im.length - 256)
  let body := im.take (im.length - 256)
  if !whole ∨ fieldAt im 8 4 ≠ im.length then 8
  else if !formatOk im then 3
  else if !keyOk s block then 4
  else if !sigOk body block then 5
  else if !(imageSections im).all (fun x => x.crcOk im) then 6
  else if !s.imageFits im then 7 else 2

/-- A group holds an image (R161 step 7, R163): its stores written with good parity and its identity shown. -/
def State.holdImage (s : State) (g : Nat) (im : Octets) : State :=
  let s1 := { s with
    pip := { s.pip with ucode := mins s.pip.ucode g (imageUcode im) }
    tab := { s.tab with upsets := s.tab.upsets.filter (fun e => !(decide (2 ^ 42 + g * 2 ^ 32 ≤ e.1) && decide (e.1 < 2 ^ 42 + (g + 1) * 2 ^ 32))) } }
  ((((s1.wr R.img_IMAGE_ID g (domOf (trimName (slice im 12 16)))).wr R.img_IMAGE_VERSION g (fieldAt im 28 4)).wr R.img_FEATURE_MASK g
    (fieldAt im 44 4)).wr R.img_DIGEST g (domOf (Config.sha384 (im.take (im.length - 256))))).wr R.img_STORE_VALID g 1

/-- The outcome of a fetched image (R161). -/
def State.imageArrives (s : State) (g : Nat) (im : Octets) (whole storeOk : Bool) : State :=
  let st := s.imageStatus im whole
  if st ≠ 2 then s.wr R.img_STATUS g st
  else if storeOk then (s.holdImage g im).wr R.img_STATUS g 2
  else (s.wr R.img_STORE_VALID g 0).wr R.img_STATUS g 9

/-- The reads of a load have been issued; a load from flash has none (R538). -/
def State.loadRead (s : State) (g : Nat) : Bool :=
  match mfind s.pip.loading g with
  | some (_, _, 0) => s.ep.reads.any (fun x => x.engine == 256 + g)
  | _ => true

/-- A load is over: its source is free and its reads have come back. -/
def State.endLoad (s : State) (g : Nat) : State :=
  (({ s with pip := { s.pip with loading := mdel s.pip.loading g } }).completeReads (256 + g) 0).pumpReads

/-- IMAGE_FETCH_COMPLETE (R161): the image of group `g` is fetched, checked in order and written to the stores. `bytes` are the
octets read from host memory (a load from flash takes what flash holds); `storeOk` tells whether the read-back found no parity
error. -/
def execImageFetchComplete (g : Nat) (bytes : Octets) (storeOk : Bool) (s : State) : Host.Outcome State Fault Refusal :=
  outcome (g < 8 && bytes.all (· < 256)) s <|
    if s.rd R.img_STATUS g != 1 || !s.loadRead g then s
    else (s.endLoad g).imageArrives g (s.fetched g bytes).1 (s.fetched g bytes).2 storeOk

/-! ## The board table (R329 to R332) -/

/-- Taps of a word laid out as W0 [47:13]: four signed, TX_MAIN unsigned; and the sum of R331. -/
def firTap (fir i : Nat) : Nat := bits fir (34 - 7 * i) (28 - 7 * i)
def firSum (fir : Nat) : Nat :=
  (sext 7 (firTap fir 0)).natAbs + (sext 7 (firTap fir 1)).natAbs + (sext 7 (firTap fir 2)).natAbs + firTap fir 3
    + (sext 7 (firTap fir 4)).natAbs

/-- Taps that R331 allows in a lane mode. -/
def firRule (fir mode : Nat) : Bool :=
  decide (firSum fir ≤ 64) && ((mode != 4 && mode != 5) || (firTap fir 0 == 0 && firTap fir 1 == 0))

/-- Taps that R330 and R331 allow in a lane mode. -/
def firOk (fir mode : Nat) : Bool := firRule fir mode && decide (1 ≤ firTap fir 3) && decide (firTap fir 3 ≤ 64)

/-- A record is valid (R331). -/
def boardRecordOk (w0 w1 : Nat) : Bool :=
  let mode := bits w0 53 51
  decide (bits w0 63 54 < 768) && decide (1 ≤ mode) && decide (mode ≤ 5) && bits w0 50 48 == 0 && bits w0 12 0 == 0
    && bits w1 32 0 == 0 && firOk (bits w0 47 13) mode
    && decide (bits w1 54 50 ≤ bits w1 63 59) && decide (bits w1 63 59 ≤ bits w1 49 45)

/-- Records sorted by LANE and MODE, none twice. -/
def boardSorted : List (Nat × Nat) → Bool
  | [] => true
  | [_] => true
  | a :: b :: t => decide (a.1 / 2 ^ 51 < b.1 / 2 ^ 51) && boardSorted (b :: t)

/-- The records of a table. -/
def boardRecords (bt : Octets) : List (Nat × Nat) :=
  (List.range (fieldAt bt 6 2)).map (fun i => (fieldAt bt (64 + 16 * i) 8, fieldAt bt (72 + 16 * i) 8))

/-- The board-table digest of the live settings record; 0 accepts any (R332). -/
def State.boardDigest (s : State) : Nat := s.setting 1663 1280

/-- The status of the checks of R332 on a fetched table: 2 when it passes. -/
def State.boardStatus (s : State) (bt : Octets) (whole : Bool) : Nat :=
  let n := fieldAt bt 6 2
  if !whole then 7
  else if ¬ (fieldAt bt 0 4 = 0x4D4C5642 ∧ fieldAt bt 4 2 = 1 ∧ 1 ≤ n ∧ n ≤ 3840 ∧ bt.length = 68 + 16 * n) then 3
  else if fieldAt bt (64 + 16 * n) 4 ≠ crc32c 0xFFFFFFFF (bt.take (64 + 16 * n)) then 5
  else if s.boardDigest ≠ 0 ∧ beNat (Config.sha384 bt) % 2 ^ 384 ≠ s.boardDigest then 6
  else if !((boardRecords bt).all (fun r => boardRecordOk r.1 r.2) && boardSorted (boardRecords bt)) then 4
  else 2

/-- A checked table is held, or the held one kept (R332, R351). -/
def State.boardArrives (s : State) (bt : Octets) (whole : Bool) : State :=
  let st := s.boardStatus bt whole
  let s0 := s.wr R.board_STATUS 0 st
  if st ≠ 2 then s0
  else
    let s1 := { s0 with lan := { s0.lan with board := some (boardRecords bt) } }
    ((((s1.wr R.board_BOUND 0 (b2n (s.boardDigest != 0))).wr R.board_BOARD_ID 0 (domOf (trimName (slice bt 8 16)))).wr
      R.board_TABLE_VERSION 0 (fieldAt bt 24 4)).wr R.board_DIGEST 0 (domOf (Config.sha384 bt))).wr R.board_RECORDS 0 (fieldAt bt 6 2)

/-- BOARD_TABLE_FETCH_COMPLETE (R332): the table is fetched and checked in order. `bytes` are the octets read from host memory. -/
def execBoardTableFetchComplete (bytes : Octets) (s : State) : Host.Outcome State Fault Refusal :=
  outcome (bytes.all (· < 256)) s <|
    if s.rd R.board_STATUS 0 != 1 || !s.loadRead 8 then s
    else (s.endLoad 8).boardArrives (s.fetched 8 bytes).1 (s.fetched 8 bytes).2

end Sys2Proof.Machine
end

