-- ==== Sys2Proof/Machine/Fn.lean ====
section
/-! DEFINITION. Stoppable functions: their numbers and their STATE (00_scope.md R9, 02_object_dictionary.md R48). -/

namespace Sys2Proof.Machine

/-- The key of a function in the maps of `Funcs`: that of its STATE. -/
def fnKey (f : Fn) (n : Nat) : Nat := keyOf (fnIndex f) n 1

/-- States of a function (R9). -/
def stOff : Nat := 0
def stStopped : Nat := 1
def stStarting : Nat := 2
def stRunning : Nat := 3
def stStopping : Nat := 4
def stFaulted : Nat := 5

/-- The state of a function. -/
def State.fnState (s : State) (f : Fn) (n : Nat) : Nat := s.val (fnKey f n)

/-- A function moves to a state, and STATE_SINCE records the slot of the boundary at which it did (R48). -/
def State.setFn (s : State) (f : Fn) (n v : Nat) : State :=
  if s.fnState f n = v then s
  else
    let s1 := (s.setVal (fnKey f n) v).setVal (keyOf (fnIndex f) n 3) s.slotNo
    if v = 4 then { s1 with fns := { s1.fns with stopTick := mput 0 s1.fns.stopTick (fnKey f n) (s1.clk.ticks + 1) } } else s1

/-- A function returns from STARTING to STOPPED and raises START_FAILED in the event ring of its starter (R51). -/
def State.startFailed (s : State) (f : Fn) (n : Nat) : State :=
  (s.setFn f n stStopped).event (mget 0 s.fns.starter (fnKey f n)) 0x0002 [fnIndex f * 2 ^ 48 + n * 2 ^ 32]

end Sys2Proof.Machine
end

