-- ==== Sys2Proof/Machine/Parser.lean ====
section
/-! DEFINITION. The parser, the deparser, the checksums and the bridged block (03_packet_pipeline.md R86 to R103). -/

namespace Sys2Proof.Machine

/-! ## The parser (R86 to R89) -/

/-- What parsing gives: the header vector with its fields region, PAYLOAD_OFFSET, PARSE_ERR, PARSE_TRUNC. -/
structure Parsed where
  hv : Octets
  payload : Nat
  err : Bool
  trunc : Bool

/-- Length of a header that starts at an offset of the window (R87). -/
def hdrLen (l : HdrLen) (win : Octets) (off : Nat) : Nat :=
  match l with
  | .fixed n => n
  | .field bo wd times plus =>
    fieldAt win (off + bo / 8) 2 / 2 ^ (16 - bo % 8 - min wd 8) % 2 ^ min wd 8 * times + plus

/-- The extracts of an entry, into the fields region from byte 8 on. What would lie past the end of the window reads as zero (DESIGN CHOICE,
log entry 68: R87 is silent). -/
def extract (win : Octets) (off : Nat) (xs : List (Nat × Nat × Nat)) (hv : Octets) : Octets :=
  (xs.take 8).foldl (fun h x => patch h x.2.2 ((slice win (off + x.1) x.2.1).take (512 - x.2.2))) hv

/-- Walk the graph from a state, at most as many states as the fuel (R87, R88). Bits compared past the end of the window are zero (DESIGN
CHOICE, log entry 68: R87 is silent). -/
def parseFrom (graph : List ParseState) (win : Octets) (len : Nat) : Nat → Nat → Nat → Octets → Parsed
  | 0, _, off, hv => ⟨hv, off, true, false⟩
  | n + 1, st, off, hv =>
    match graph[st]? with
    | none => ⟨hv, off, false, false⟩
    | some ps =>
      let v := fieldAt win (off + ps.offset) 4
      match (ps.entries.take 32).find? (fun e => Nat.land v e.mask == Nat.land e.value e.mask) with
      | none => ⟨hv, off, false, false⟩
      | some e =>
        let fin := off + hdrLen e.len win off
        if len < fin then ⟨hv, off, true, false⟩
        else if 256 < fin then ⟨hv, off, false, true⟩
        else
          let h1 := match e.valid with
            | some b => patch hv 0 (toBE 8 (setBit (fieldAt hv 0 8) b true))
            | none => hv
          let h2 := extract win off e.extracts h1
          match e.next with
          | none => ⟨h2, fin, false, false⟩
          | some st' => parseFrom graph win len n st' fin h2

/-- Parse a packet: the window is its first 256 bytes, a walk visits at most 24 states (R86, R88). -/
def parse (graph : List ParseState) (frame : Octets) : Parsed :=
  parseFrom graph (frame.take 256) frame.length 24 0 0 (List.replicate 576 0)

/-! ## The deparser (R100, R101) -/

/-- The headers that a list emits from a header vector. -/
def deparseHeaders (list : List DeparseEntry) (hv : Octets) : Octets :=
  (list.take 32).flatMap (fun e => if bit (fieldAt hv 0 8) e.valid then slice hv e.offset e.len else [])

/-- Where an entry's bytes begin in the emitted headers, if it emits any. -/
def entryAt (list : List DeparseEntry) (hv : Octets) (i : Nat) : Option Nat :=
  match list[i]? with
  | none => none
  | some e => if bit (fieldAt hv 0 8) e.valid then some (deparseHeaders (list.take i) hv).length else none

/-- A one's-complement sum of the 16-bit words of a range of the fields region. -/
def rangeSum (hv : Octets) (r : Nat × Nat) : Nat := (List.range (r.2 / 2)).foldl (fun a i => a + fieldAt hv (r.1 + 2 * i) 2) 0

/-- The complement of a 16-bit word. -/
def not16 (x : Nat) : Nat := 65535 - x % 65536

/-- One checksum operation over emitted headers (R101): RFC 1624 for the incremental ones. -/
def checksumOp (list : List DeparseEntry) (orig hv out : Octets) (op : ChecksumOp) : Octets :=
  match op with
  | .ipv4 i => match entryAt list hv i, list[i]? with
    | some at_, some e =>
      let z := patch out (at_ + 10) [0, 0]
      let sum := (List.range (e.len / 2)).foldl (fun a j => a + fieldAt z (at_ + 2 * j) 2) 0
      patch z (at_ + 10) (toBE 2 (not16 (fold16 sum)))
    | _, _ => out
  | .transport udp i off covered => match entryAt list hv i with
    | none => out
    | some at_ =>
      let old := fieldAt out (at_ + off) 2
      if udp && old == 0 then out
      else
        let was := (covered.map (rangeSum orig)).foldl (· + ·) 0
        let now := (covered.map (rangeSum hv)).foldl (· + ·) 0
        patch out (at_ + off) (toBE 2 (not16 (fold16 (fold16 (not16 old + not16 (fold16 was)) + fold16 now))))

/-- The frame a deparser emits: headers, then the bytes from PAYLOAD_OFFSET on; none when the headers exceed 384 bytes. -/
def deparse (section_ : Octets) (egress : Bool) (orig hv frame : Octets) : Option Octets :=
  let list := Config.deparseList section_
  let h := deparseHeaders list hv
  if 384 < h.length then none
  else
    let h1 := if egress then ((Config.checksumOps section_).take 4).foldl (checksumOp list orig hv) h else h
    some (h1 ++ frame.drop (bits (md hv 4) 10 2))

/-- The parse graph and the DEPARSE section of a direction of a group. -/
def State.graph (s : State) (g dir : Nat) : List ParseState := (Config.parseGraph ((s.ucode g).parse.getD dir [])).take 256
def State.deparseOf (s : State) (g dir : Nat) : Octets := (s.ucode g).deparse.getD dir []

/-! ## The bridged block (R102, R103) -/

/-- The bridged block of a packet that leaves ingress: BRIDGE_WORDS words. -/
def State.bridge (s : State) (g : Nat) (hv : Octets) : List Nat :=
  let n := s.rd R.grp_BRIDGE_WORDS g
  let w0 := s.rd R.ident_DEVICE_ID 0 % 4096 * 2 ^ 52 + bits (md hv 0) 9 0 * 2 ^ 42 + bits (md hv 1) 47 36 * 2 ^ 30
    + bits (md hv 1) 32 31 * 2 ^ 28 + bits (md hv 1) 4 4 * 2 ^ 27 + bits (md hv 4) 14 11 * 2 ^ 23 + bits (md hv 2) 19 0 * 2 ^ 3
    + n % 4 * 2 + bits (md hv 0) 15 15
  ([w0, bits (md hv 0) 63 16 * 2 ^ 16, md hv 7]).take n

/-- WORDS of a bridged block; 0 is treated as one word (R103). -/
def bridgeWords (ws : List Nat) : Nat := max 1 (bits (w ws 0) 2 1)

/-! ## Metadata at the parsers (R91, R92, R94, R103) -/

/-- A header vector with its eight metadata words. -/
def withMds (hv : Octets) (ms : List Nat) : Octets := ms.zipIdx.foldl (fun h e => setMd h e.2 e.1) hv

/-- Metadata of a packet at an ingress parser. -/
def ingressMds (p : InPkt) (gen features : Nat) (tagged : Bool) (r : Parsed) : List Nat :=
  let rec_ := p.source == 2
  let k (i : Nat) : Nat := p.kept.getD i 0
  let tag := if rec_ then k 0 else gen
  let trace := if rec_ then k 1 else b2n tagged
  let tenant := if rec_ then k 2 else 0
  let hash := if rec_ then k 3 else 0
  [p.stamp * 2 ^ 16 + b2n p.sw * 2 ^ 15 + p.source * 2 ^ 13 + p.port % 1024,
   p.frame.length % 16384 * 2 ^ 50 + tenant * 2 ^ 36 + tag * 2 ^ 30 + hash * 2 ^ 12 + (if rec_ then k 6 else 0) * 2 ^ 9 + trace * 2 ^ 4
     + b2n r.trunc * 2 ^ 3 + b2n r.err * 2 ^ 2,
   0, 0, r.payload * 2 ^ 2, 0, (if rec_ then k 5 else features) * 2 ^ 32, if rec_ then k 4 else 0]

/-- Metadata of a packet at an egress parser. A block that names no word sets PARSE_ERR. -/
def egressMds (p : Pkt) (e : QEnt) (near : List Nat) (port features dest : Nat) (r : Parsed) : List Nat :=
  let w0 := w p.words 0
  let n := bridgeWords p.words
  [(if 2 ≤ n then bits (w p.words 1) 63 16 else 0) * 2 ^ 16 + bits w0 0 0 * 2 ^ 15 + p.source * 2 ^ 13 + bits w0 51 42,
   p.frame.length % 16384 * 2 ^ 50 + bits w0 41 30 * 2 ^ 36 + e.tc * 2 ^ 33 + bits w0 29 28 * 2 ^ 31 + p.gen * 2 ^ 30 + p.hash * 2 ^ 12 + p.recircs % 8 * 2 ^ 9
     + bits w0 27 27 * 2 ^ 4 + b2n r.trunc * 2 ^ 3 + b2n (r.err || bits w0 2 1 == 0) * 2 ^ 2,
   dest * 2 ^ 40 + bits w0 22 3,
   0,
   (match p.launch with
     | some t => t * 2 ^ 16 + 2 ^ 15
     | none => 0) + bits w0 26 23 * 2 ^ 11 + r.payload * 2 ^ 2,
   port * 2 ^ 54 + e.repl % 65536 * 2 ^ 38 + e.depth * 2 ^ 14 + b2n (near.any (· != 0)) * 2 ^ 13
     + b2n (p.bad || badNear near) * 2 ^ 12 + bits w0 63 52,
   features * 2 ^ 32, if 3 ≤ n then w p.words 2 else 0]

end Sys2Proof.Machine
end

