-- ==== Sys2Proof/Machine/Park.lean ====
section
/-! DEFINITION. Micro-traps: parking, open walks, fences, eligibility, trap frames and store parity (04_microcode.md R136 to R157). -/

namespace Sys2Proof.Machine

/-! ## Sequence numbers (R144) -/

/-- `a` is older than `b` in serial arithmetic. -/
def olderSeq (a b : Nat) : Bool := a != b && decide ((b + 2 ^ 32 - a) % 2 ^ 32 < 2 ^ 31)

/-! ## Trap counters and messages (R155, R165) -/

/-- A trap is counted, and a FAULT or DEVICE trap is reported. -/
def State.countTrap (s : State) (g : Nat) (egress : Bool) (kind addr : Nat) : State :=
  let s1 := s.bump (if egress then R.trapc_EGRESS else R.trapc_INGRESS) (8 * g + kind)
  if kind = 1 then s1.fault (0x030 + g) 0x09 addr else if kind = 2 then s1.fault (0x030 + g) 0x0A addr else s1

/-- The cause a handler finds in USER1 (R153). -/
def withCause (hv : Octets) (kind stage detail : Nat) : Octets :=
  setField hv 6 31 0 (kind * 2 ^ 24 + stage * 2 ^ 20 + detail * 2 ^ 8)

/-! ## The trace of a pass (R502, R503) -/

/-- The words that trace records of a packet share. -/
def State.traceTag (s : State) (g pipe : Nat) (egress : Bool) (hv : Octets) : TraceTag :=
  ⟨if egress then bits (md hv 5) 11 0 else s.rd R.ident_DEVICE_ID 0 % 4096, bits (md hv 0) 9 0, g, pipe % 4, egress,
    bits (md hv 0) 63 16, hvHash hv⟩

/-- A trace record of a tagged packet joins its pass. -/
def State.traceIf (s : State) (g pipe : Nat) (egress : Bool) (hv : Octets) (recs : List LogRec) (type stage pc w2 w3 : Nat) :
    List LogRec × State :=
  if bit (md hv 1) 4 then s.trace g recs ((s.traceTag g pipe egress hv).record type stage pc w2 w3) else (recs, s)

/-- The END record, and the pass's records sent (R502, R503). -/
def State.endPass (s : State) (g pipe : Nat) (egress : Bool) (hv : Octets) (recs : List LogRec) (reason result lat : Nat) : State :=
  let (rs, s1) := s.traceIf g pipe egress hv recs 4 0 0 (stamp48 s.now * 2 ^ 16 + reason * 2 ^ 8 + result * 2 ^ 4)
    (bits (md hv 5) 63 54 * 2 ^ 54 + bits (md hv 2) 61 40 * 2 ^ 32 + lat)
  s1.sendPass g (hvTenant hv) rs

/-! ## Walk lists and fences -/

/-- The open walk of a handle and key. -/
def State.walkFor (s : State) (g handle : Nat) (key : Octets) : Option (Nat × Walk) :=
  (s.walksOf g).find? (fun e => e.2.handle == handle && e.2.key == key)

/-- How a packet meets open walks in its table phase (R143): none when it meets no open walk; `some none` when it must join; the
returned entry when it is older than every waiter. -/
def meetsWalk (g seq tag : Nat) (s : State) (handle : Nat) (key : Octets) : Option (Option WalkEnd) :=
  match s.walkFor g handle key with
  | none => none
  | some (_, wk) => match wk.tag tag with
    | none => some none
    | some x =>
      if x.returned && wk.waiters.all (fun m => olderSeq seq m.seq) then some x.read
      else some none

/-- The number of the walk that a key joins: the open walk of its identity, or the first number that is free. -/
def State.walkIdFor (s : State) (g handle : Nat) (key : Octets) : Nat :=
  match s.walkFor g handle key with
  | some (id, _) => id
  | none => ((List.range 512).find? (fun i => !((s.walksOf g).map (·.1)).contains i)).getD 0

/-- FENCES_RAISED follows. -/
def State.countFences (s : State) (g : Nat) : State :=
  s.wr R.trap_FENCES_RAISED g (([0, 1, 2, 3].map (fun j => (s.pipe (4 * g + j)).fences.length)).foldl (· + ·) 0)

def State.setFences (s : State) (pipe : Nat) (f : List FenceSt) : State :=
  (s.setPipe pipe { s.pipe pipe with fences := f }).countFences (pipe / 4)

/-- A fence of a flow holds an older member that has not completed its microword (R146). -/
def State.behindFence (s : State) (pipe seq hash : Nat) : Bool :=
  (s.pipe pipe).fences.any (fun f => f.hash == hash && f.members.any (fun m => olderSeq m seq))

/-- A packet joins the fence of its flow, raising it when it is not raised. -/
def State.joinFence (s : State) (pipe seq hash : Nat) : State :=
  let fs := (s.pipe pipe).fences
  if fs.any (fun f => f.hash == hash) then
    s.setFences pipe (fs.map (fun f => if f.hash = hash ∧ ¬ f.members.contains seq then { f with members := f.members ++ [seq] } else f))
  else s.setFences pipe (fs ++ [⟨hash, [seq]⟩])

/-- Remove an open walk. -/
def State.closeWalk (s : State) (g id : Nat) : State :=
  ({ s with tab := { s.tab with walks := mdel s.tab.walks (walkNo g id) } }).countWalks g

/-- A packet leaves every list it has joined: it completed its microword, ran its handler, or was discarded. A walk closes with its
last waiter (R143), a fence is lowered with its last member (R146). -/
def State.leaveLists (s : State) (g pipe seq : Nat) : State :=
  let s1 := s.each (s.walksOf g) (fun u e =>
    if e.2.waiters.any (fun m => m.pipe == pipe && m.seq == seq) then
      let rest := e.2.waiters.filter (fun m => !(m.pipe == pipe && m.seq == seq))
      if rest.isEmpty then u.closeWalk g e.1 else u.setWalk g e.1 { e.2 with waiters := rest }
    else u)
  let fs := (s1.pipe pipe).fences
  if fs.any (fun f => f.members.contains seq) then
    s1.setFences pipe ((fs.map (fun f => { f with members := f.members.filter (· != seq) })).filter (fun f => !f.members.isEmpty))
  else s1

/-! ## Eligibility (R149) -/

/-- Two packets of a pipeline share a list. -/
def State.shareList (s : State) (g pipe a b : Nat) : Bool :=
  (s.walksOf g).any (fun e => e.2.waiters.any (fun m => m.pipe == pipe && m.seq == a)
      && e.2.waiters.any (fun m => m.pipe == pipe && m.seq == b))
    || (s.pipe pipe).fences.any (fun f => f.members.contains a && f.members.contains b)

/-- What a parked packet waits for is there, and no older member of a list it joined is parked. -/
def State.canReinject (s : State) (g : Nat) (p : Parked) : Bool :=
  (if p.kind = 0 then p.ended.isSome else if p.kind = 4 then p.assistDone else true)
    && (s.parkedOf g).all (fun q => q.pipe != p.pipe || !olderSeq q.seq p.seq || !s.shareList g p.pipe q.seq p.seq)

/-- Insert a packet among others in sequence order. -/
def insertSeq (p : Parked) : List Parked → List Parked
  | [] => [p]
  | q :: t => if olderSeq p.seq q.seq then p :: q :: t else q :: insertSeq p t

/-- Packets that have just become eligible take their numbers, in sequence order. -/
def State.refreshEligible (s : State) (g : Nat) : State :=
  let fresh := ((s.parkedOf g).filter (fun p => p.eligible == 0 && s.canReinject g p)).foldr insertSeq []
  s.each fresh (fun u p =>
    let n := u.pip.nextEligible + 1
    { u with pip := { u.pip with
      nextEligible := n
      parked := mput [] u.pip.parked g ((u.parkedOf g).map (fun q =>
        if q.pipe = p.pipe ∧ q.seq = p.seq then { q with eligible := n } else q)) } })

/-- The packet of a pipeline that is re-injected next: first eligible, first out. -/
def State.nextReinject (s : State) (pipe : Nat) : Option Parked :=
  ((s.parkedOf (pipe / 4)).filter (fun p => p.pipe == pipe && p.eligible != 0 && s.canReinject (pipe / 4) p)).foldl
    (fun (b : Option Parked) p => match b with
      | none => some p
      | some q => if p.eligible < q.eligible then some p else some q) none

/-! ## Taking a trap (R137 to R139, R142, R146) -/

/-- What a trap of an ingress stage comes to. -/
inductive TrapTaken where
  | parked (s : State)
  | limit (detail : Nat)

/-- What the park buffer records of the packet's pass. -/
structure Run where
  g : Nat
  pipe : Nat
  seq : Nat
  pkt : InPkt
  orig : Octets
  recs : List LogRec

/-- Open a walk for a trap, or join the open walk of its identity; a walk is issued for a tag at most once (R142). The walk's
number and the state. -/
def State.joinWalk (s : State) (r : Run) (t : TrapRec) (tag : Nat) : Nat × State :=
  let g := r.g
  let fresh : TagWalk := ⟨s.clk.ticks, fieldAt t.key 0 8, 0, [], none, false, false⟩
  let me : Waiter := ⟨r.pipe, r.seq, tag⟩
  match s.walkFor g t.handle t.key with
  | some (id, wk) =>
    let wk1 := { wk with waiters := if wk.waiters.any (fun m => m.pipe == r.pipe && m.seq == r.seq) then wk.waiters
                                    else wk.waiters ++ [me] }
    match wk.tag tag with
    | some _ => (id, (s.setWalk g id wk1).bump R.trap_COALESCED g)
    | none => (id, ((s.setWalk g id (wk1.setTag tag fresh)).bump R.trap_WALKS_ISSUED g).walkOn g id tag)
  | none =>
    let id := s.walkIdFor g t.handle t.key
    let wk : Walk := ⟨t.handle, (s.bound g t.handle).getD 2, t.key, t.addr, none, none, [me]⟩
    (id, (((s.setWalk g id (wk.setTag tag fresh)).countWalks g).bump R.trap_WALKS_ISSUED g).walkOn g id tag)

/-- Why a parking trap becomes LIMIT, if it does (R138). Where several limits are reached at once the detail is that of the first in the
order PARK_FULL, WALKS_FULL, FENCES_FULL, TRAP_MAX (DESIGN CHOICE, log entry 68: R138 gives no order). -/
def State.limitOf (s : State) (r : Run) (t : TrapRec) (hv : Octets) : Option Nat :=
  let n := (s.parkedOf r.g).length
  let cap := if t.kind = 1 ∨ t.kind = 2 then 1024 else 1008
  let fs := (s.pipe r.pipe).fences
  if cap ≤ n then some 1
  else if t.kind = 0 ∧ (s.walkFor r.g t.handle t.key).isNone ∧ 512 ≤ (s.walksOf r.g).length then some 2
  else if t.fenced ∧ (t.kind = 0 ∨ t.kind = 4) ∧ 256 ≤ fs.length ∧ ¬ fs.any (fun f => f.hash == hvHash hv) then some 3
  else if s.rd R.trap_TRAP_MAX r.g ≤ bits (md hv 1) 8 5 then some 4
  else none

/-- Park a packet that trapped, with what a re-execution needs. `before`: what its resumption brought to the microword. -/
def State.park (s : State) (r : Run) (t : TrapRec) (st pc : Nat) (hv : Octets) (before : Option Resume) : TrapTaken :=
  match s.limitOf r t hv with
  | some d => .limit d
  | none =>
    let (wid, s1) := if t.kind = 0 then (let (i, u) := s.joinWalk r t (hvTag hv); (some i, u)) else (none, s)
    let fence := t.kind = 5 ∨ (t.fenced ∧ (t.kind = 0 ∨ t.kind = 4))
    let s2 := if fence then s1.joinFence r.pipe r.seq (hvHash hv) else s1
    let ended := match before with
      | some b => b.ended
      | none => none
    let back := if t.kind ≠ 0 then ended else match wid with
      | none => none
      | some id => match s2.walk? r.g id with
        | none => none
        | some wk => match wk.tag (hvTag hv) with
          | none => none
          | some x => if x.returned then x.read else none
    let p : Parked := {
      pipe := r.pipe, seq := r.seq, pkt := r.pkt, hv, orig := r.orig, kind := t.kind, detail := t.detail, stage := st, pc
      traps := min 15 (bits (md hv 1) 8 5 + 1), stamp := stamp48 s.now, colour := t.colour, meterDone := t.meterDone
      -- it is a member of a fence from this trap or from an earlier one (R156)
      fence := decide fence || (s2.pipe r.pipe).fences.any (fun f => f.members.contains r.seq), addr := if t.kind = 0 then (match s2.walk? r.g (wid.getD 0) with
          | some wk => wk.addr
          | none => t.addr) else if t.kind ≤ 2 then t.addr else 0
      walk := wid, handle := t.handle, crcC := t.crcC, crcR := t.crcR
      assists := if t.kind = 4 then t.assists else (match before with
        | some b => b.assists.getD []
        | none => [])
      assistDone := false, ended := back, since := s.clk.ticks, eligible := 0, trace := r.recs }
    -- a walk that has already ended in a trap converts it at once (R143)
    let (p1, s3) := match back with
      | some (.trap k d a) => if t.kind = 0 then ({ p with kind := k, detail := d, addr := a }, s2.countTrap r.g false k a) else (p, s2)
      | _ => (p, s2)
    .parked ((s3.setParked r.g (s3.parkedOf r.g ++ [p1])).refreshEligible r.g)

/-- The 640-byte trap frame of a parked packet (R156). Of a NEAR_PARITY FAULT, ADDRESS carries the address-space bits of R553, and a WALK that
became a FAULT or a DEVICE keeps its WALK_ID (DEDUCED, log entry 36). -/
def trapFrame (p : Parked) (g : Nat) : Octets :=
  p.hv ++ wordsLE [
    p.kind * 2 ^ 56 + p.detail * 2 ^ 48 + p.stage * 2 ^ 44 + p.pipe % 4 * 2 ^ 42 + g * 2 ^ 39 + p.pc * 2 ^ 28 + p.traps * 2 ^ 24,
    p.seq * 2 ^ 32,
    p.stamp * 2 ^ 16 + p.colour * 2 ^ 14 + b2n p.meterDone * 2 ^ 13 + b2n p.fence * 2 ^ 12,
    p.addr % 2 ^ 40 * 2 ^ 24 + (p.walk.getD 0) * 2 ^ 14 + p.handle * 2 ^ 8,
    p.crcC * 2 ^ 32 + p.crcR,
    (p.assists.getD 0 0) * 2 ^ 32 + p.assists.getD 1 0,
    (p.assists.getD 2 0) * 2 ^ 32 + p.assists.getD 3 0, 0]

/-! ## Rows: walks and assists come back -/

/-- A walk has returned: its result stands for its tag, its waiters take it, and a walk that ended in a trap converts theirs. -/
def State.walkBack (s : State) (g id t : Nat) (e : WalkEnd) : State :=
  match s.walk? g id with
  | none => s
  | some wk => match wk.tag t with
    | none => s
    | some x =>
      let s1 := (s.setWalk g id (wk.setTag t { x with returned := true, read := some e })).raise R.trap_WALK_TIME_MAX g
        (min (2 ^ 32 - 1) ((s.clk.ticks - x.since) * 4 / 5))
      if wk.waiters.isEmpty then s1.closeWalk g id
      else
        let mine (p : Parked) : Bool := p.kind == 0 && hvTag p.hv == t
          && wk.waiters.any (fun m => m.pipe == p.pipe && m.seq == p.seq)
        let hit := (s1.parkedOf g).filter mine
        let s2 := s1.setParked g ((s1.parkedOf g).map (fun p => if mine p then (match e with
          | .trap k d a => { p with kind := k, detail := d, addr := a, ended := some e }
          | _ => { p with ended := some e }) else p))
        let s3 := match e with
          | .trap k _ a => s2.each hit (fun u _ => u.countTrap g false k a)
          | _ => s2
        s3.refreshEligible g

/-- What a returned walk leaves in the near tier: the host cache or the leaf cache, unless the entry was written since (R182, R183,
R185). -/
def State.walkFill (s : State) (wk : Walk) (x : TagWalk) (e : WalkEnd) : State :=
  if x.stale then s
  else match e with
    | .hit _ (some l) _ => s.cacheFill wk.key l
    | .hit _ none (some (a, ws)) => s.leafFill a ws
    | .miss (some (a, ws)) => s.leafFill a ws
    | _ => s

/-- WALK_COMPLETE (R142, R143): a walk whose reads are back returns its result for a tag. -/
def execWalkComplete (g id tag : Nat) (s : State) : Host.Outcome State Fault Refusal :=
  outcome (g < 8 && id < 512 && tag < 2) s <|
    match s.walk? g id with
    | none => s
    | some wk => match wk.tag tag with
      | none => s
      | some x => match x.read with
        | none => s
        | some e =>
          if x.returned then s
          else if wk.waiters.isEmpty then s.walkBack g id tag e
          else (s.walkFill wk x e).walkBack g id tag e

/-- WALK_TIMEOUT (R141): a walk that has not returned within WALK_TIMEOUT ends in FAULT for every packet that waits on it. -/
def execWalkTimeout (g id tag : Nat) (s : State) : Host.Outcome State Fault Refusal :=
  outcome (g < 8 && id < 512 && tag < 2) s <|
    match s.walk? g id with
    | none => s
    | some wk => match wk.tag tag with
      | none => s
      | some x =>
        if x.returned ∨ ¬ s.past x.since (ticksUs (s.rd R.trap_WALK_TIMEOUT g)) then s
        else (s.each (s.accsOf (fun p => p == .walk g id tag)) State.dropAcc).walkBack g id tag (.trap trapFault 6 wk.addr)

/-- ASSIST_COMPLETE (R137): the assist engine of a group, which works in arrival order, has computed a packet's assist slots. -/
def execAssistComplete (g : Nat) (s : State) : Host.Outcome State Fault Refusal :=
  outcome (g < 8) s <|
    match (s.parkedOf g).find? (fun p => p.kind == 4 && !p.assistDone) with
    | none => s
    | some p =>
      let ps := (s.parkedOf g).map (fun (q : Parked) =>
        if q.pipe = p.pipe ∧ q.seq = p.seq then { q with assistDone := true } else q)
      let s1 := { s with pip := { s.pip with parked := mput [] s.pip.parked g ps } }
      (s1.add R.trap_ASSIST_OPS g p.assists.length).refreshEligible g

/-! ## Stopping a group (R113, R157) -/

/-- A packet of a group discarded under STOP_DISCARD: counted under its reason and for the group. -/
def State.groupDiscard (s : State) (g len : Nat) : State := (s.qmDrop 0x0A len none none).bump R.grp_STOP_DISCARDS g

/-- The egress queues of a group's ports that hold packets. -/
def State.groupQueues (s : State) (g : Nat) : List Nat :=
  (s.sto.queues.filter (fun e => qKind e.1 == 1 && qIndex e.1 / 768 == g)).map (·.1)

/-- What a group does in the slot in which it enters STOPPING (R113): parked packets and recirculated packets that wait are discarded,
walks still in flight complete with their results discarded, and the queues toward its ports are emptied. -/
def State.groupHalts (s : State) (g : Nat) : State :=
  let s1 := s.each (s.parkedOf g) (fun u p => (u.groupDiscard g p.pkt.frame.length).endPass g p.pipe false p.hv p.trace 0x0A 1 0)
  let s2 := s1.setParked g []
  let s3 := s2.each (s2.walksOf g) (fun u e =>
    let idle (x : Option TagWalk) : Bool := match x with
      | some x => x.returned
      | none => true
    if idle e.2.tag0 && idle e.2.tag1 then u.closeWalk g e.1 else u.setWalk g e.1 { e.2 with waiters := [] })
  let s4 := s3.each [0, 1, 2, 3] (fun u j =>
    let n := 4 * g + j
    let x := u.pipe n
    let u1 := u.each (x.recirc.map (·.frame.length)) (fun v len => v.groupDiscard g len)
    (u1.setPipe n { x with recirc := [], fences := [] }).countFences g)
  s4.each (s4.groupQueues g) (fun u q =>
    u.each [q] (fun v q => (v.add R.grp_STOP_DISCARDS g ((v.queue q).ents.filter (fun e => !e.dead)).length).discardQueue q 0x0A))

/-- A parity error in a store word (R157): the packet goes, its pass ends, the group stops into FAULTED, and its stores are not valid.
Packets already in its egress pipelines complete and are transmitted (R113 item 6). -/
def State.storeParity (s : State) (g dir stage : Nat) (nano : Bool) (word len pipe : Nat) (hv : Octets) (recs : List LogRec) : State :=
  let s1 := ((s.groupDiscard g len).endPass g pipe (dir != 0) hv recs 0x0A 1 0).groupHalts g
  ((s1.setFn .group g stFaulted).fault (0x030 + g) (if nano then 0x0C else 0x0B)
    ((if dir = 0 then stage else 16 + stage) * 2048 + word)).wr R.img_STORE_VALID g 0

end Sys2Proof.Machine
end

