-- ==== Sys2Proof/Machine/Ingress.lean ====
section
/-! DEFINITION. Ethernet receive, ingress slots, the ingress pipeline and its end actions, multicast replication
(03_packet_pipeline.md R81 to R112, 11_ethernet_ports.md R363 to R367, 07_central_store.md R243 to R246). -/

namespace Sys2Proof.Machine

/-! ## Port modes (R354) -/

/-- Lanes of a PORT_MODE. -/
def portLanes (mode : Nat) : Nat :=
  match mode with
  | 1 | 3 => 8
  | 2 | 5 => 4
  | 4 | 7 => 2
  | 6 | 8 | 9 | 10 | 11 => 1
  | _ => 0

/-- Rate of a PORT_MODE in Gb/s. -/
def portRate (mode : Nat) : Nat :=
  match mode with
  | 1 => 1600 | 2 => 800 | 3 => 800 | 4 => 400 | 5 => 400 | 6 => 200 | 7 => 200 | 8 => 100 | 9 => 50 | 10 => 25 | 11 => 10 | _ => 0

def State.lanesOf (s : State) (p : Nat) : Nat := portLanes (s.rd R.port_PORT_MODE p)
def State.rateOf (s : State) (p : Nat) : Nat := portRate (s.rd R.port_PORT_MODE p)

/-- The pipeline pair of a port, 0 to 31, and its group (R81). -/
def portPipe (p : Nat) : Nat := p / 24
def portGroup (p : Nat) : Nat := p / 96

/-- A port runs and its link is UP. -/
def State.portUp (s : State) (p : Nat) : Bool := s.rd R.port_STATE p == 3 && s.rd R.port_LINK_STATE p == 3
def State.grpRuns (s : State) (g : Nat) : Bool := s.rd R.grp_STATE g == 3

/-! ## Received pauses (R312) -/

/-- The pause key of a port and priority; priority 8 is IEEE 802.3x. -/
def pauseKey (p prio : Nat) : Nat := p * 16 + prio

/-- Ticks that a number of quanta lasts at a port's rate: one quantum is 512 bit times (R310). -/
def State.quantaTicks (s : State) (p q : Nat) : Nat := ceilDiv (q * 512 * 5) (4 * max 1 (s.rateOf p))

/-- A priority is paused by the link partner. -/
def State.prioPaused (s : State) (p prio : Nat) : Bool :=
  match mfind s.trf.paused (pauseKey p prio) with
  | some x => decide (s.clk.ticks < x.until_)
  | none => false

/-- TCs of a port that are paused (R312). -/
def State.tcPaused (s : State) (p t : Nat) : Bool :=
  if s.rd R.psch_FLOW_MODE p = 1 then s.prioPaused p (s.rd R.ptc_PFC_PRIORITY (8 * p + t))
  else if s.rd R.psch_FLOW_MODE p = 2 then s.prioPaused p 8 else false

/-- PAUSED follows. -/
def State.countPaused (s : State) (p : Nat) : State :=
  s.wr R.psch_PAUSED p ((List.range 8).foldl (fun a t => a + b2n (s.tcPaused p t) * 2 ^ t) 0)

/-- A pause of a priority begins, is replaced, or ends. -/
def State.setPause (s : State) (p prio quanta : Nat) : State :=
  let m := if quanta = 0 then mdel s.trf.paused (pauseKey p prio)
    else mins s.trf.paused (pauseKey p prio) ⟨s.clk.ticks + s.quantaTicks p quanta⟩
  { s with trf := { s.trf with paused := m } }

/-- A good PAUSE frame: obeyed when FLOW_MODE honours it, otherwise discarded (R312, R367). -/
def State.obeyPause (s : State) (p quanta : Nat) : State :=
  if s.rd R.psch_FLOW_MODE p = 2 then ((s.bump R.pcnt_RX_PAUSE p).setPause p 8 quanta).countPaused p
  else s.bump R.pcnt_RX_CTRL_DISCARD p

/-- A good PFC frame: its class-enable vector and its eight times. -/
def State.obeyPfc (s : State) (p vector : Nat) (times : List Nat) : State :=
  if s.rd R.psch_FLOW_MODE p = 1 then
    (((s.bump R.pcnt_RX_PFC p).each (onesBelow vector 8) (fun u t => u.setPause p t (times.getD t 0)))).countPaused p
  else s.bump R.pcnt_RX_CTRL_DISCARD p

/-- The MAC control addresses of R367. -/
def pauseAddr : Nat := 0x0180C2000001

/-- A good frame with EtherType 0x8808 is consumed by the MAC (R367). -/
def State.macControl (s : State) (p : Nat) (f : Octets) : State :=
  let da := fieldAt f 0 6
  let op := fieldAt f 14 2
  if op = 1 ∧ (da = pauseAddr ∨ da = s.rd R.port_MAC_ADDRESS p % 2 ^ 48) then s.obeyPause p (fieldAt f 16 2)
  else if op = 0x0101 ∧ da = pauseAddr then
    s.obeyPfc p (fieldAt f 16 2) ((List.range 8).map (fun t => fieldAt f (18 + 2 * t) 2))
  else s.bump R.pcnt_RX_CTRL_DISCARD p

/-! ## The receiving MAC (R363, R364) -/

/-- The first failing check of a delimited frame: 0 good, 1 error block, 2 rate slip, 3 runt, 4 oversize, 5 FCS. -/
def State.rxCheck (s : State) (p pcs : Nat) (f : Octets) : Nat :=
  let n := f.length
  if pcs = 1 ∨ pcs = 2 then pcs else if n < 64 then 3 else if s.rd R.port_MAX_FRAME p < n then 4
  else if crc32 0xFFFFFFFF (f.take (n - 4)) = leNat (f.drop (n - 4)) then 0 else 5

/-- A delimited frame is counted, good or bad. -/
def State.countRx (s : State) (p len err : Nat) : State :=
  let s1 := (s.bump R.pcnt_RX_FRAMES p).add R.pcnt_RX_BYTES p len
  match err with
  | 1 => s1.bump R.pcnt_RX_PCS_ERR p
  | 2 => (s1.bump R.pcnt_RX_PCS_ERR p).bump R.pcnt_RX_RATE_SLIPS p
  | 3 => s1.bump R.pcnt_RX_RUNT p
  | 4 => s1.bump R.pcnt_RX_OVERSIZE p
  | 5 => s1.bump R.pcnt_RX_FCS_ERR p
  | _ => s1

/-- The frames of a port's input buffer, and the octets that its buffer holds (R82). -/
def State.inbuf (s : State) (p : Nat) : List InPkt := mget [] s.prt.inbuf p
def State.setInbuf (s : State) (p : Nat) (l : List InPkt) : State := { s with prt := { s.prt with inbuf := mput [] s.prt.inbuf p l } }
def State.inOctets (s : State) (p : Nat) : Nat :=
  (s.inbuf p).foldl (fun a f => a + f.frame.length) 0
    + (s.prt.arriving.filter (fun x => x.1 == p)).foldl (fun a x => a + min x.2.2.1 (s.rd R.port_MAX_FRAME p)) 0

/-- A frame of the port is still arriving. -/
def State.rxBusy (s : State) (p : Nat) : Bool := s.prt.arriving.any (fun x => x.1 == p) || (s.inbuf p).any (fun f => !f.tailIn)

/-- The input buffer of a port has room for so many octets (R24, R82). -/
def State.rxFits (s : State) (p n : Nat) : Bool := decide (s.inOctets p + n ≤ 32768 * s.lanesOf p)

/-- A frame enters the input buffer. -/
def State.bufferRx (s : State) (p : Nat) (f : InPkt) : State :=
  { s.setInbuf p (s.inbuf p ++ [f]) with prt := { (s.setInbuf p (s.inbuf p ++ [f])).prt with nextFid := s.prt.nextFid + 1 } }

/-- What the PCS reports of the next frame of a port: an error block where an uncorrectable codeword overlaps it (R356), else what is given. -/
def State.pcsSeen (s : State) (p pcs : Nat) : Nat := if mget 0 s.prt.spoilt p = 0 then pcs else max 1 pcs

/-- The next frame of a port has been delimited: one fewer to come that a codeword spoilt. -/
def State.frameBegun (s : State) (p : Nat) : State :=
  if mget 0 s.prt.spoilt p = 0 then s else { s with prt := { s.prt with spoilt := mput 0 s.prt.spoilt p (mget 0 s.prt.spoilt p - 1) } }

/-- RX_FRAME (R363): the receiving MAC of a port delimits and checks a frame and places it in the port's input buffer. `pcs` is
what the PCS reports (1 an error block, 2 a rate slip), beside the blocks that a bad codeword spoilt; `tail` is false when only the first part has arrived, which needs more than
256 octets; its start passed the PCS `stamp` ticks ago, the device's own path latency removed (R442, R454). MAC control frames are the MAC's own
whatever the group's state (R367); while the group does not run, every other frame is discarded (R114). -/
def execRxFrame (port pcs : Nat) (frame : Octets) (tail : Bool) (stamp : Nat) (s : State) : Host.Outcome State Fault Refusal :=
  outcome (port < 768 && pcs < 3 && frame.all (· < 256) && frame.length < 65536) s <|
    if !s.portUp port || s.rxBusy port then s
    else
      let err := s.rxCheck port (s.pcsSeen port pcs) frame
      let t := s.frameBegun port
      let whole := tail || decide (frame.length ≤ 256)
      let en := s.on R.ptime_STAMP_EN port
      let adj := sext 32 (s.rd R.ptime_RX_ADJ port) * 65536 / 1000
      let f : InPkt := ⟨frame.take (s.rd R.port_MAX_FRAME port), 0, port, if en then stamp48 ((s.timeAgo stamp : Int) + adj).toNat else 0, !en,
        whole, false, s.rateOf port, [], s.prt.nextFid + 1, err, none, 0, frame.length⟩
      if fieldAt frame 12 2 = 0x8808 ∧ 14 ≤ frame.length then
        (if err = 0 then (t.countRx port frame.length 0).macControl port frame
          else (t.countRx port frame.length err).bump R.pcnt_RX_CTRL_DISCARD port)
      else if !s.grpRuns (portGroup port) then (t.countRx port frame.length err).bump R.pcnt_RX_STOP_DISCARD port
      else if whole && err != 0 then t.countRx port frame.length err
      else if !s.rxFits port f.frame.length then (t.countRx port frame.length err).bump R.pcnt_RX_OVERRUN port
      else if whole then (t.countRx port frame.length 0).bufferRx port f
      else t.bufferRx port f

/-- The tail of a frame past its ingress slot reaches every place that holds the packet (R364, R366). -/
def State.tailArrives (s : State) (fid : Nat) (bad : Bool) : State :=
  let inPkt (p : InPkt) : InPkt := if p.fid = fid then { p with tailIn := true, bad := p.bad || bad, fid := 0 } else p
  let pk (p : Pkt) : Pkt := if p.fid = fid then { p with tailIn := true, bad := p.bad || bad, fid := 0 } else p
  let mac (f : MacFrame) : MacFrame := if f.fid = fid then { f with tailIn := true, bad := f.bad || bad, fid := 0 } else f
  { s with
    sto := { s.sto with pkts := s.sto.pkts.map (fun (e : Nat × Pkt) => (e.1, pk e.2)) }
    pip := { s.pip with
      parked := s.pip.parked.map (fun (e : Nat × List Parked) => (e.1, e.2.map (fun (q : Parked) => { q with pkt := inPkt q.pkt })))
      pipes := s.pip.pipes.map (fun (e : Nat × PipeSt) => (e.1, { e.2 with recirc := e.2.recirc.map inPkt }))
      atEgress := s.pip.atEgress.map (fun (e : Nat × List Leaving) => (e.1, e.2.map (fun (l : Leaving) => { l with pkt := pk l.pkt }))) }
    prt := { s.prt with mac := s.prt.mac.map (fun (e : Nat × List MacFrame) => (e.1, e.2.map mac)) } }

/-- FRAME_TAIL (R364): the tail of the frame that is arriving on a port has arrived. A bad frame that waits for its ingress slot is
discarded; one that has taken it is tail-marked bad. -/
def execFrameTail (port : Nat) (s : State) : Host.Outcome State Fault Refusal :=
  outcome (port < 768) s <|
    match s.prt.arriving.find? (fun x => x.1 == port) with
    | some (_, fid, len, err) =>
      let s1 := { s with prt := { s.prt with arriving := s.prt.arriving.filter (fun x => x.2.1 != fid) } }
      let s2 := (s1.countRx port len err).tailArrives fid (decide (err ≠ 0))
      if err ≠ 0 then s2.bump R.pcnt_RX_TAIL_BAD port else s2
    | none => match (s.inbuf port).find? (fun f => !f.tailIn) with
      | none => s
      | some f =>
        let s1 := s.countRx port f.wire f.err
        if f.err ≠ 0 then s1.setInbuf port ((s1.inbuf port).filter (fun x => x.fid != f.fid))
        else s1.setInbuf port ((s1.inbuf port).map (fun x => if x.fid = f.fid then { x with tailIn := true, fid := 0 } else x))

/-! ## The end of an ingress pipeline (R104 to R111) -/

/-- A QUEUE record, on its own as a pass (R502). -/
def State.queueRecord (s : State) (g q tenant : Nat) (tag : TraceTag) (left : Bool) (depth : Nat) (far marked : Bool) : State :=
  let r := tag.record 3 0 0 (stamp48 s.now * 2 ^ 16 + qKind q % 2 * 2 ^ 14 + b2n left * 2 ^ 13)
    (qIndex q * 2 ^ 44 + depth * 2 ^ 20 + b2n far * 2 ^ 19 + b2n marked * 2 ^ 18)
  let (rs, s1) := s.trace g [] r
  s1.sendPass g tenant rs

/-- A pipeline drop is counted once for its group (R107). -/
def State.pipeDrop (s : State) (egress : Bool) (g reason len : Nat) : State :=
  let n := 256 * g + reason
  if egress then (s.bump R.dropE_PACKETS n).add R.dropE_BYTES n len else (s.bump R.dropI_PACKETS n).add R.dropI_BYTES n len

/-- The mirror copies of a pass (R104 step 1, R109). -/
def State.mirrors (s : State) (g : Nat) (egress : Bool) (hv out : Octets) : State :=
  let m := md hv 3
  let src := if egress then bits (md hv 5) 11 0 else s.rd R.ident_DEVICE_ID 0
  let copy (u : State) (n : Nat) : State :=
    u.mirrorCopy g ⟨n, egress, out.take 256, (List.range 8).map (md hv), out.length, src⟩
  let s1 := if bit m 54 then copy s (bits m 53 48) else s
  if bit m 47 then copy s1 (bits m 46 41) else s1

/-- A packet of the store built from what a pipeline emits. -/
def mkPkt (frame : Octets) (words : List Nat) (hv : Octets) (dest : Nat) (bad tailIn : Bool) (rate fid : Nat) (launch : Option Nat)
    (punt : Option Punt) : Pkt :=
  { frame, words, tc := bits (md hv 1) 35 33, gen := hvTag hv, hash := hvHash hv, dest, launch, bad, tailIn, rate
    cells := cellsFor frame.length words.length, pool := 5, inPt := none, tenant := none, refs := [], links := 0, source := 0
    direct := false, punt, hops := 0, fid, mark := false, recircs := bits (md hv 1) 11 9, born := 0, marked := [] }

/-- Send a packet or a copy to the host (R104 steps 2 and 4, R108, R154). -/
def State.punt (s : State) (egress copy : Bool) (pipe : Nat) (hv out : Octets) (bad tailIn : Bool) (fid : Nat) (trap : Option Octets) :
    State :=
  let m := md hv 3
  let p : Punt := ⟨bits m 30 23, copy, egress, pipe, if egress then bits (md hv 5) 63 54 else 0, (List.range 8).map (md hv), trap⟩
  (s.store1 (mkPkt out [] hv 0 bad tailIn 0 fid none (some p)) (hostKey (bits m 38 31)) .direct).2

/-- The drop reason that microcode set, or CODE_RANGE (R106). -/
def dropCode (hv : Octets) : Nat := let r := bits (md hv 3) 63 56; if 0x80 ≤ r then r else 0x25

/-- A packet's queue by its destination (R105, R243, R244): none when PORT mode cannot name it. -/
def State.destQueue (s : State) (dest tc : Nat) : Option Nat :=
  let d := dest / 1024 % 4096
  let p := dest % 1024
  if d = s.rd R.ident_DEVICE_ID 0 % 4096 then some (egKey (p * 8 + tc))
  else if s.rd R.store_VOQ_MODE 0 = 0 then (if 128 ≤ d then none else some (voqKey (d * 8192 + p * 8 + tc)))
  else some (voqKey (d * 256 + p / 24 * 8 + tc))

/-- A destination device is LOST (R425): a packet toward it is dropped with DEST_LOST, before admission, and counted there (R427). -/
def State.toLost (s : State) (dest : Nat) : Bool :=
  dest / 1024 % 4096 != s.rd R.ident_DEVICE_ID 0 % 4096 && s.rd R.reach_DEST_STATE (dest / 1024 % 4096) == 2
def State.dropLost (s : State) (dest tc len : Nat) : State :=
  (s.qmDrop 0x0B len (s.destQueue dest tc) none).bump R.reach_DEST_LOST_PACKETS (dest / 1024 % 4096)

/-- The VOQ that the resolver writes into MD2 (R104). -/
def State.resolveVoq (s : State) (hv : Octets) : Octets :=
  if bits (md hv 2) 63 62 = 1 then
    match s.destQueue (bits (md hv 2) 61 40) (bits (md hv 1) 35 33) with
    | some q => if qKind q = 0 then setField hv 2 39 20 q else hv
    | none => hv
  else hv

/-- A packet toward a unicast destination enters the store (R104 step 7, R111). -/
def State.sendUnicast (s : State) (g pipe : Nat) (hv out : Octets) (pkt : InPkt) : State :=
  let dest := bits (md hv 2) 61 40
  let tc := bits (md hv 1) 35 33
  if 768 ≤ dest % 1024 then s.pipeDrop false g 0x21 (hvLen hv)
  else
    let local_ := dest / 1024 == s.rd R.ident_DEVICE_ID 0 % 4096
    let want := bit (md hv 4) 15
    let s1 := if want && !local_ then s.bump R.gcnt_LAUNCH_CLEARED g else s
    if s1.toLost dest then s1.dropLost dest tc out.length
    else match s1.destQueue dest tc with
    | none => s1.qmDrop 0x0D out.length none none
    | some q =>
      let p := { mkPkt out (s1.bridge g hv) hv dest pkt.bad pkt.tailIn pkt.rate pkt.fid
        (if want && local_ then some (bits (md hv 4) 63 16) else none) none with born := pkt.born }
      let (ok, s2) := s1.store1 p q (.ingress (bits (md hv 0) 9 0 * 8 + tc) (hvTenant hv))
      if ok && bit (md hv 1) 4 then
        let e := ((s2.queue q).ents.getLast?).getD QEnt.none
        s2.queueRecord g q (hvTenant hv) (s2.traceTag g pipe false hv) false e.depth false e.mark
      else s2

/-- A group entry names a run that lies in the replication list (R245). -/
def State.runOk (s : State) (n : Nat) : Bool :=
  decide (n < s.rd R.store_REPL_GROUPS 0) && s.on R.mgrp_VALID n && decide (s.rd R.mgrp_FIRST n + s.rd R.mgrp_COUNT n ≤ 262144)

/-- A packet toward a multicast group joins the group's replication queue of 4,096 (R246). -/
def State.sendMulticast (s : State) (g : Nat) (hv out : Octets) (pkt : InPkt) : State :=
  let n := bits (md hv 2) 55 40
  if !s.runOk n then s.pipeDrop false g 0x21 (hvLen hv)
  else
    let s1 := if bit (md hv 4) 15 then s.bump R.gcnt_LAUNCH_CLEARED g else s
    let queue := mget [] s1.sto.repl g
    if 4096 ≤ queue.length then s1.qmDrop 0x0E out.length none none
    else
      let p := { mkPkt out (s1.bridge g hv) hv n pkt.bad pkt.tailIn pkt.rate pkt.fid none none with born := pkt.born }
      let (pid, s2) := s1.newPkt { p with refs := List.replicate p.cells 1, links := 1 }
      { s2 with sto := { s2.sto with
        repl := mput [] s2.sto.repl g (queue ++ [(⟨pid, bits (md hv 0) 9 0, hvTenant hv, n, false, []⟩ : Repl)]) } }

/-- The pass of a packet that leaves its ingress pipeline toward a destination ends: as TRANSMIT, or dropped with BAD_DEST (R105, R502). -/
def State.endSend (s : State) (g : Nat) (r : Run) (hv : Octets) (badDest : Bool) : State :=
  if badDest then s.endPass g r.pipe false hv r.recs 0x21 1 0 else s.endPass g r.pipe false hv r.recs 0 0 0

/-- The end actions of an ingress pipeline (R104). Two points are the model's choice (log entry 68): headers too long to write back end the
packet before any mirror or punt copy, whatever drop the microcode asked for (R100); and DEST_KIND 3, which is reserved, ends as NO_DEST. -/
def State.ingressEnd (s : State) (r : Run) (hv0 : Octets) : State :=
  let g := r.g
  let hv := s.resolveVoq hv0
  match deparse (s.deparseOf g 0) false r.orig hv r.pkt.frame with
  | none => (s.pipeDrop false g 0x24 (hvLen hv)).endPass g r.pipe false hv r.recs 0x24 1 0
  | some out =>
    let m := md hv 3
    let s1 := s.mirrors g false hv out
    let s2 := if bit m 40 && bit m 39 then s1.punt false true r.pipe hv out r.pkt.bad r.pkt.tailIn r.pkt.fid r.pkt.trapFrame else s1
    if bit m 55 then (s2.pipeDrop false g (dropCode hv) (hvLen hv)).endPass g r.pipe false hv r.recs (dropCode hv) 1 0
    else if bit m 40 && !bit m 39 then
      (s2.punt false false r.pipe hv out r.pkt.bad r.pkt.tailIn r.pkt.fid r.pkt.trapFrame).endPass g r.pipe false hv r.recs 0 2 0
    else match bits (md hv 2) 63 62 with
      | 1 => (s2.endSend g r hv (decide (768 ≤ bits (md hv 2) 61 40 % 1024))).sendUnicast g r.pipe hv out r.pkt
      | 2 => (s2.endSend g r hv (!s2.runOk (bits (md hv 2) 55 40))).sendMulticast g hv out r.pkt
      | _ => (s2.pipeDrop false g 0x20 (hvLen hv)).endPass g r.pipe false hv r.recs 0x20 1 0

/-! ## The ingress stages -/

/-- Run the stages of an ingress pipeline from stage `14 - n` on. -/
def State.ingressFrom : Nat → State → Run → Nat → Octets → Option Resume → State
  | 0, s, r, _, hv, _ => s.ingressEnd r hv
  | n + 1, s, r, pc, hv, back =>
    let st := 13 - n
    let g := r.g
    let (e, s1) := s.stage g 0 st pc hv back (meetsWalk g r.seq (hvTag hv)) (s.behindFence r.pipe r.seq (hvHash hv))
    match e with
    | .next hv' pc' w2 t0 =>
      let (recs, s2) := s1.traceIf g r.pipe false hv' r.recs 1 st pc (stamp48 s1.now * 2 ^ 16 + w2) (t0 * 2 ^ 32)
      ((s2.leaveLists g r.pipe r.seq).refreshEligible g).ingressFrom n { r with recs } pc' hv' none
    | .parity nano word => (s1.leaveLists g r.pipe r.seq).storeParity g 0 st nano word r.pkt.frame.length r.pipe hv r.recs
    | .trap t =>
      let walk := if t.kind = 0 then s1.walkIdFor g t.handle t.key else 0
      let kindRec (kind detail : Nat) (u : State) : List LogRec × State :=
        u.traceIf g r.pipe false hv r.recs 2 st pc (stamp48 u.now * 2 ^ 16 + kind * 2 ^ 12 + detail * 2 ^ 4 + min 15 (bits (md hv 1) 8 5 + 1))
          (if kind ≤ 2 then t.addr % 2 ^ 40 * 2 ^ 24 + (if kind = 0 then walk * 2 ^ 14 else 0) else 0)
      let (recs, s2) := kindRec t.kind t.detail s1
      match s2.park { r with recs } t st pc hv back with
      | .parked s3 => s3.countTrap g false t.kind t.addr
      | .limit d =>
        -- the trap runs in place as LIMIT (R138, R151)
        let (recs, s3) := kindRec 3 d s1
        let s4 := ((s3.countTrap g false 3 0).leaveLists g r.pipe r.seq).refreshEligible g
        if st = 13 then
          let code := (s4.ucode g).limitCode
          (s4.pipeDrop false g code (hvLen hv)).endPass g r.pipe false hv recs code 1 0
        else s4.ingressFrom n { r with recs } ((s4.ucode g).handler.getD 2 0 % 2048) (withCause hv 3 st d) none

/-- A packet enters an ingress parser: numbered, tagged, parsed, and run (R86, R92, R94, R144). -/
def State.enterIngress (s : State) (pipe : Nat) (p : InPkt) : State :=
  let g := pipe / 4
  let seq := (s.pipe pipe).seq
  let s1 := s.setPipe pipe { s.pipe pipe with seq := (seq + 1) % 2 ^ 32 }
  let (tagged, s2) := if p.source = 2 then (false, s1.setPipe pipe { s1.pipe pipe with lfsr := lfsrNext 32 (s1.pipe pipe).lfsr })
    else s1.drawTag pipe
  let p0 := if p.source = 2 then p else { p with born := s2.slotNo + 1 }
  let p1 := if p0.sw && p0.source == 0 then { p0 with stamp := stamp48 s2.now } else p0
  let parsed := parse (s2.graph g 0) p1.frame
  let hv := withMds parsed.hv (ingressMds p1 (s2.rd R.gen_CURRENT 0 % 2) (s2.rd R.grp_FEATURES g) tagged parsed)
  let s3 := if parsed.err then s2.bump R.gcnt_IN_PARSE_ERR g else s2
  let s4 := if parsed.trunc then s3.bump R.gcnt_IN_PARSE_TRUNC g else s3
  s4.ingressFrom 14 ⟨g, pipe, seq, p1, hv, []⟩ ((s4.ucode g).entry.getD p.source 0 % 2048) hv none

/-! ## Ingress slots (R24, R83) -/

/-- A ring has carried a packet of a number of octets. -/
def State.carried (s : State) (r octets : Nat) : State := (s.bump R.ring_PACKETS r).add R.ring_BYTES r octets

/-- DONE in `n` descriptors of a transmit ring, EOP last, the packet counted, and the fetch of its next packet (R535, R550). -/
def State.txDone (s : State) (r n octets : Nat) (dropped : Bool) : State :=
  let s1 := (s.carried r octets).each (List.range n) (fun t _ => t.completeDesc r (2 ^ 63 + b2n dropped * 2 ^ 62))
  (s1.setRing r { s1.ring r with fetching := false }).startFetch r


/-- Ports of a pipeline whose input buffer holds a frame that may take its slot; while the die-to-die link retrains the frames wait (R346). -/
def State.readyPorts (s : State) (pipe : Nat) : List Nat :=
  ((List.range 24).map (· + 24 * pipe)).filter (fun p => s.rd R.port_STATE p == 3 && !(s.inbuf p).isEmpty
    && s.rd R.d2d_LINK_STATE (p / 96) != 1)

/-- Weighted round robin among ports, each weighted by its lane count: the port served last while its weight lasts, then the next in
order; and the weight it has left (R24, R303). -/
def State.turn (s : State) (last credit : Nat) (ready : List Nat) : Option (Nat × Nat) :=
  if credit ≠ 0 ∧ ready.contains last then some (last, credit - 1)
  else match ready.find? (fun p => last < p) with
    | some p => some (p, s.lanesOf p - 1)
    | none => match ready with
      | p :: _ => some (p, s.lanesOf p - 1)
      | [] => none

/-- The port that weighted round robin gives the slot (R24). -/
def State.portTurn (s : State) (pipe : Nat) : Option (Nat × Nat) :=
  s.turn (s.pipe pipe).lastPort (s.pipe pipe).credit (s.readyPorts pipe)

/-- The shares used start anew with each round of 64 slots. -/
def PipeSt.slot (x : PipeSt) : PipeSt :=
  if x.pos = 63 then { x with pos := 0, usedRe := 0, usedRec := 0, usedHost := 0 } else { x with pos := x.pos + 1 }

/-- Re-injection takes the present slot: it has a packet and is within its share. -/
def State.reinjects (s : State) (pipe : Nat) : Bool :=
  (s.nextReinject pipe).isSome && decide ((s.pipe pipe).usedRe < s.rd R.ipipe_REINJECT_SHARE pipe)

/-- INGRESS_SLOT (R83): the present ingress slot of a pipeline is allotted to recirculation, to the host or to a port, and the packet
runs the pipeline to its end actions or its trap. A slot that re-injection takes is REINJECT's. `errs` are the memory errors that
words read in this pass turned out to have. -/
def execIngressSlot (pipe : Nat) (errs : List (Nat × Nat)) (s : State) : Host.Outcome State Fault Refusal :=
  outcome (pipe < 32) s <|
    if !s.grpRuns (pipe / 4) || s.reinjects pipe then s
    else
      let s0 := s.strike errs
      let x := s0.pipe pipe
      match x.recirc, decide (x.usedRec < s0.rd R.ipipe_RECIRC_SHARE pipe) with
      | p :: rest, true =>
        ((s0.setPipe pipe { x with recirc := rest, usedRec := x.usedRec + 1 }.slot).bump R.ipipe_RECIRC_SLOTS pipe).enterIngress pipe p
      | _, _ =>
        match x.host, decide (x.usedHost < s0.rd R.ipipe_HOST_SHARE pipe) with
        | (n, p) :: rest, true =>
          let s1 := (s0.setPipe pipe { x with host := rest, usedHost := x.usedHost + 1 }.slot).bump R.ipipe_HOST_SLOTS pipe
          (s1.txDone (n % 256) (n / 256) (p.frame.length - 4) false).enterIngress pipe p
        | _, _ =>
          match s0.portTurn pipe with
          | none => (s0.setPipe pipe x.slot).bump R.ipipe_IDLE_SLOTS pipe
          | some (port, credit) =>
            match s0.inbuf port with
            | [] => s0
            | f :: rest =>
              let s1 := (s0.setInbuf port rest).setPipe pipe { x.slot with lastPort := port, credit }
              let s2 := if f.tailIn then s1
                else { s1 with prt := { s1.prt with arriving := s1.prt.arriving ++ [(port, f.fid, f.wire, f.err)] } }
              (s2.bump R.ipipe_PORT_SLOTS pipe).enterIngress pipe (if f.tailIn then { f with fid := 0 } else f)

/-- REINJECT (R85, R140, R149, R151): the first eligible parked packet of a pipeline takes the present slot and resumes at its
trapping microword, or runs its handler there. -/
def execReinject (pipe : Nat) (errs : List (Nat × Nat)) (s : State) : Host.Outcome State Fault Refusal :=
  outcome (pipe < 32) s <|
    if !s.grpRuns (pipe / 4) || !s.reinjects pipe then s
    else
      match s.nextReinject pipe with
      | none => s
      | some p =>
        let g := pipe / 4
        let s0 := s.strike errs
        let x := s0.pipe pipe
        let s1 := s0.setPipe pipe { x with usedRe := x.usedRe + 1 }.slot
        let s2 := s1.setParked g ((s1.parkedOf g).filter (fun q => !(q.pipe == p.pipe && q.seq == p.seq)))
        let s3 := (s2.bump R.ipipe_REINJECT_SLOTS pipe).bump R.trap_REINJECTED g
        let hv := setField p.hv 1 8 5 (min 15 (bits (md p.hv 1) 8 5 + 1))
        let run : Run := ⟨g, pipe, p.seq, p.pkt, p.orig, p.trace⟩
        if p.kind = 1 ∨ p.kind = 2 then
          s3.ingressFrom (14 - p.stage) { run with pkt := { p.pkt with trapFrame := some (trapFrame p g) } }
            ((s3.ucode g).handler.getD (p.kind - 1) 0 % 2048) (withCause hv p.kind p.stage p.detail) none
        else
          s3.ingressFrom (14 - p.stage) run p.pc hv
            (some ⟨p.ended, if p.assists.isEmpty then none else some p.assists, p.colour, p.meterDone⟩)

/-! ## Replication (R245, R246) -/

/-- A replication list entry. -/
def State.listEntry (s : State) (e : Nat) : Nat := s.rd (Reg.at R.rlist_ENTRY0 (e % 4)) (e / 4)

/-- The valid entries of a group's run, each with its position (R245). -/
def State.runEntries (s : State) (n : Nat) : List (Nat × Nat) :=
  ((List.range (s.rd R.mgrp_COUNT n)).map (fun i => (s.listEntry (s.rd R.mgrp_FIRST n + i), i))).filter (fun e => bit e.1 31)

/-- Link one replica of a packet to the queue that a list entry `v` names; `pos` is its REPLICA_ID. The QUEUE record of a tagged packet's
replica takes its pipeline from the ingress port (R502): the replica carries no other (DESIGN CHOICE, log entry 68). -/
def State.linkReplica (s : State) (g : Nat) (r : Repl) (v pos : Nat) : State :=
  match s.pkt? r.pid with
  | none => s
  | some p =>
    let tc := if bit v 24 then bits v 27 25 else p.tc
    let dest := v % 2 ^ 22
    if 768 ≤ dest % 1024 then s.pipeDrop false g 0x21 p.frame.length
    else if s.toLost dest then s.dropLost dest tc p.frame.length
    else match s.destQueue dest tc with
      | none => s.qmDrop 0x0D p.frame.length none none
      | some q =>
        let (ok, s1) := s.linkTo r.pid q pos tc dest (.ingress (r.port * 8 + p.tc) r.tenant)
        if ok && bit (w p.words 0) 27 then
          let e := ((s1.queue q).ents.getLast?).getD QEnt.none
          s1.queueRecord g q r.tenant ⟨s.rd R.ident_DEVICE_ID 0 % 4096, r.port, g, portPipe r.port % 4, false,
            (if 2 ≤ bridgeWords p.words then bits (w p.words 1) 63 16 else 0), p.hash⟩ false e.depth false e.mark
        else s1

/-- REPLICATE (R245, R246): a pipeline group links one replica of the packet at the head of its replication queue, under the list entries
as they stood when its replication began; the packet leaves the queue with its last. A BAD_DEST drop adds the length of the stored frame to
BYTES, not that of the frame as received (DESIGN CHOICE, log entry 68: R121 does not say which). -/
def execReplicate (g : Nat) (s : State) : Host.Outcome State Fault Refusal :=
  outcome (g < 8) s <|
    match mget [] s.sto.repl g with
    | [] => s
    | r :: rest =>
      let set (u : State) (l : List Repl) : State := { u with sto := { u.sto with repl := mput [] u.sto.repl g l } }
      if !r.started && !s.runOk r.group then
        let len := match s.pkt? r.pid with
          | some p => p.frame.length
          | none => 0
        (set (s.pipeDrop false g 0x21 len) rest).endRepl r.pid
      else
        match (if r.started then r.left else s.runEntries r.group) with
        | [] => (set s rest).endRepl r.pid
        | e :: left =>
          let s1 := s.linkReplica g r e.1 e.2
          if left.isEmpty then (set s1 rest).endRepl r.pid else set s1 ({ r with started := true, left } :: rest)

end Sys2Proof.Machine
end

