-- ==== Sys2Proof/Machine/Egress.lean ====
section
/-! DEFINITION. Egress: port scheduling, the egress pipeline, the transmitting MAC, timed launch and pause frames
(09_traffic_management.md R300 to R312, 03_packet_pipeline.md R100 to R114, 11_ethernet_ports.md R365 to R368, 14_time.md R454 to
R461). -/

namespace Sys2Proof.Machine

/-! ## Timed launch (R460, R461) -/

/-- The full time, in ns, that a STAMP48 names: the nearest to the present (R460). -/
def State.fullNs (s : State) (stamp : Nat) : Int :=
  let sec := s.nowNs / 1000000000
  let d : Nat := (stamp / 2 ^ 32 + 65536 - sec % 65536) % 65536
  let off : Int := if d < 32768 then (d : Int) else (d : Int) - 65536
  let ns : Nat := stamp % 2 ^ 32
  ((sec : Int) + off) * 1000000000 + (ns : Int)

/-- How far ahead a launch time lies, in ns. -/
def State.launchAhead (s : State) (stamp : Nat) : Int := s.fullNs stamp - s.nowNs

/-- A launch that lies too far ahead goes as an ordinary packet (R461). -/
def State.launchFar (s : State) (port stamp : Nat) : Bool :=
  decide ((s.rd R.ptime_LAUNCH_MAX_AHEAD port * 1000000 : Nat) < s.launchAhead stamp)

/-- The head of an egress queue waits for its launch time. -/
def State.launchWaits (s : State) (q : Nat) : Bool :=
  match (s.queue (egKey q)).ents with
  | e :: _ => (match s.pkt? e.pid with
    | some p => (match p.launch with
      | some t => !s.launchFar (q / 8) t && decide ((Config.launchLead : Int) < s.launchAhead t)
      | none => false)
    | none => false)
  | [] => false

/-! ## Selection (R300 to R302) -/

/-- A local packet may be cut through: it comes in at the rate of its egress port or faster (R15). -/
def State.localCut (s : State) (port : Nat) (p : Pkt) : Bool := decide (p.rate ≠ 0 ∧ s.rateOf port ≤ p.rate)

/-- Egress queue q = port × 8 + t is eligible (R300), launch apart. -/
def State.queueServes (s : State) (q : Nat) : Bool :=
  s.frontReady (egKey q) (s.localCut (q / 8)) && s.shaperOk (768 + q) && !s.tcPaused (q / 8) (q % 8)

def State.egEligible (s : State) (q : Nat) : Bool := s.queueServes q && !s.launchWaits q

/-- The counted length of a queue's head under the profile of its TC shaper. -/
def State.headLen (s : State) (q : Nat) : Nat :=
  match (s.queue (egKey q)).ents with
  | e :: _ => (match s.pkt? e.pid with
    | some p => s.counted p.frame.length (s.shProfile (768 + q))
    | none => 0)
  | [] => 0

/-- Queues of a priority group of a port in TC order, from a place on, wrapping. -/
def State.groupFrom (s : State) (port g from_ : Nat) : List Nat :=
  let all := (List.range 8).filter (fun t => s.rd R.tcsch_PRIO_GROUP (8 * port + t) == g)
  ((all.filter (fun t => from_ ≤ t)) ++ (all.filter (fun t => t < from_))).map (fun t => 8 * port + t)

/-- The TC a group's pointer stands at. -/
def State.drrPointer (s : State) (port g : Nat) : Nat := mget 0 s.trf.pointer (4 * port + g)

/-- Whole quanta a queue needs before its head fits its deficit. -/
def State.quantaNeeded (s : State) (q : Nat) : Nat :=
  let d := sext 32 (s.rd R.tcsch_DEFICIT q)
  let short := (s.headLen q : Int) - d
  if short ≤ 0 then 0 else ceilDiv short.toNat (max 1 (s.rd R.tcsch_QUANTUM q))

/-- Visits, after the first, until a queue is served: a queue that is fresh gains a quantum on every visit, one that is not gains none
on the first (R301). -/
def State.passesFor (s : State) (q : Nat) : Nat :=
  if s.trf.stale.contains q then s.quantaNeeded q else max 1 (s.quantaNeeded q) - 1

/-- DRR within a group (R301): the queue served and the state with deficits, freshness and pointer as its passes leave them. -/
def State.drr (s : State) (port g : Nat) : Option (Nat × State) :=
  let order := s.groupFrom port g (s.drrPointer port g)
  let live := order.filter s.egEligible
  match live with
  | [] => none
  | q0 :: rest =>
    let best := rest.foldl (fun b q => if s.passesFor q < s.passesFor b then q else b) q0
    let passes := s.passesFor best
    let before := order.takeWhile (· != best)
    let gain (q : Nat) : Nat :=
      let visits := if before.contains q || q == best then passes + 1 else passes
      if s.trf.stale.contains q then visits - 1 else visits
    let s1 := s.each live (fun u q => u.wrI R.tcsch_DEFICIT q (u.rdI R.tcsch_DEFICIT q + gain q * u.rd R.tcsch_QUANTUM q))
    let s2 := s1.wrI R.tcsch_DEFICIT best (s1.rdI R.tcsch_DEFICIT best - s1.headLen best)
    some (best, { s2 with trf := { s2.trf with
      stale := best :: s2.trf.stale.filter (fun q => !order.contains q)
      pointer := mput 0 s2.trf.pointer (4 * port + g) (best % 8) } })

/-- Take the head of an egress queue toward its egress pipeline: charged, counted, dequeued (R302). `found` is what the store found
in its cells: 1 correctable, 2 uncorrectable (R266). -/
def State.takeHead (s : State) (q found : Nat) : State :=
  let port := q / 8
  let k := egKey q
  match (s.queue k).ents, s.dequeue k with
  | e0 :: _, (some (e, p, near), s1) =>
    let len := p.frame.length
    let s2 := (s1.charge (768 + q) len).charge port len
    let s3 := ((s2.bump R.psch_SELECTIONS port).bump R.tcsch_SELECTED_PACKETS q).add R.tcsch_SELECTED_BYTES q
      (s.counted len (s.shProfile (768 + q)))
    let s4 := if (s3.queue k).ents.isEmpty then s3.wr R.tcsch_DEFICIT q 0 else s3
    let s6 := (s4.countTails (withFound near found) e.pid p).readFound found
    let (launch, s7) : Option Nat × State := match p.launch with
      | some t => if s.launchFar port t then (none, s6.bump R.ptime_LAUNCH_FAR port) else (some t, s6)
      | none => (none, s6)
    let p' := { p with launch }
    let s8 := if bits (w p.words 0) 27 27 = 1 then
        s7.queueRecord (portGroup port) k (bits (w p.words 0) 41 30)
          ⟨bits (w p.words 0) 63 52, bits (w p.words 0) 51 42, portGroup port, portPipe port % 4, true,
            (if 2 ≤ bridgeWords p.words then bits (w p.words 1) 63 16 else 0), p.hash⟩ true e0.depth (near.any (· != 0)) e.mark
      else s7
    let held := mget [] s8.pip.atEgress port
    let l : Leaving := ⟨e, p', near, found == 2⟩
    ({ s8 with pip := { s8.pip with atEgress := mput [] s8.pip.atEgress port (held ++ [l]) } }).settle k
  | _, (_, s1) => s1

/-- The ports of a group still carry frames out: it is RUNNING, or STOPPING or FAULTED with packets that complete and are transmitted
(R13, R113, R157). -/
def State.grpSends (s : State) (g : Nat) : Bool := s.grpRuns g || s.fnState .group g == stStopping || s.fnState .group g == stFaulted

/-- A port's transmit path is open: group and port RUNNING, link UP (R13, R360). -/
def State.txOpen (s : State) (port : Nat) : Bool := s.grpRuns (portGroup port) && s.portUp port

/-- PORT_SELECT (R301): the egress scheduler of a port, whose transmit path can accept a packet, selects an eligible queue's head. A
port that is not RUNNING discards the packets that reach the head of its queues (R366). `found`: 3 an uncorrectable error in the
queue's link or descriptor memory, which discards the queue (R266); 1 and 2 as `takeHead`. -/
def execPortSelect (port found : Nat) (s : State) : Host.Outcome State Fault Refusal :=
  outcome (port < 768 && found < 4) s <|
    if s.rd R.port_STATE port ≠ 3 then
      (if s.grpRuns (portGroup port) then
        s.each (List.range 8) (fun u t =>
          let k := egKey (8 * port + t)
          if u.frontReady k (fun _ => false) then
            (match u.dequeue k with
              | (some (_, p, _), v) => (v.qmDrop 0x0A p.frame.length (some k) none).settle k
              | (none, v) => v)
          else u)
      else s)
    else if !s.txOpen port || !s.shaperOk port then s
    else match [0, 1, 2, 3].findSome? (s.drr port) with
      | none => s
      | some (q, s1) =>
        if found = 3 then
          let n := (s.queue (egKey q)).ents.length
          if n = 0 then s else s.linkBad (egKey q)
        else s1.takeHead q found

/-- LAUNCH_DUE (R461): the packet that a queue holds for its launch time is due, and goes ahead of the scheduler's order. What the store
found in its cells is as for PORT_SELECT (R266). -/
def execLaunchDue (due : LaunchPart) (s : State) : Host.Outcome State Fault Refusal :=
  outcome (due.queue < 6144 && due.found < 4) s <|
    let q := due.queue
    let held := match (s.queue (egKey q)).ents with
      | e :: _ => (match s.pkt? e.pid with
        | some p => (match p.launch with
          | some t => !s.launchFar (q / 8) t
          | none => false)
        | none => false)
      | [] => false
    if held && s.txOpen (q / 8) && s.shaperOk (q / 8) && s.egEligible q then
      if due.found = 3 then s.linkBad (egKey q) else s.takeHead q due.found
    else s

/-! ## The egress pipeline (R103, R104, R152) -/

/-- A packet in an egress pipeline. -/
structure EgRun where
  port : Nat
  ent : QEnt
  pkt : Pkt
  near : List Nat
  late : Bool
  orig : Octets
  parsed : Nat
  recs : List LogRec

/-- The packet is bad: it came so, a cell of it was known to be poisoned, or one was found bad as it was dequeued, which the egress
pipeline does not see (R266, R267). -/
def EgRun.bad (r : EgRun) : Bool := r.pkt.bad || badNear r.near || r.late

/-- The 64 KiB recirculation buffer of a pipeline (R110). -/
def PipeSt.recircOctets (x : PipeSt) : Nat := x.recirc.foldl (fun a p => a + p.frame.length) 0

/-- Recirculate a packet, or drop it (R94, R104 step 5, R110). Three points are the model's choice (log entry 68): a packet whose tail is
still arriving has rate 0, no port's, so that it is eligible only with its last cell (R15 speaks of an ingress port's rate); it goes into
the buffer in STOPPING too; and it waits there until the group runs again (R113). -/
def State.recirculate (s : State) (r : EgRun) (hv out : Octets) : State :=
  let pipe := portPipe r.port
  let g := portGroup r.port
  let n := bits (md hv 1) 11 9
  let drop (code : Nat) : State := (s.pipeDrop true g code (hvLen hv)).endPass g pipe true hv r.recs code 1 0
  if s.rd R.grp_RECIRC_MAX g ≤ n then drop 0x22
  else if 65536 < (s.pipe pipe).recircOctets + out.length then drop 0x23
  else
    let p : InPkt := ⟨out, 2, bits (md hv 0) 9 0, bits (md hv 0) 63 16, bit (md hv 0) 15, r.pkt.tailIn,
      r.bad, 0,
      [hvTag hv, bits (md hv 1) 4 4, hvTenant hv, hvHash hv, md hv 7, bits (md hv 6) 63 32, n + 1], r.pkt.fid, 0, none, r.pkt.born, 0⟩
    ((s.setPipe pipe { s.pipe pipe with recirc := (s.pipe pipe).recirc ++ [p] }).bump R.epipe_RECIRCULATED pipe).endPass g pipe true hv
      r.recs 0 3 0

/-- Frames waiting in a port's MAC. -/
def State.mac (s : State) (port : Nat) : List MacFrame := mget [] s.prt.mac port
def State.setMac (s : State) (port : Nat) (l : List MacFrame) : State := { s with prt := { s.prt with mac := mput [] s.prt.mac port l } }

/-- The end actions of an egress pipeline (R104). Two points are the model's choice (log entry 68): headers too long to write back end the
packet before any mirror or punt copy, whatever drop the microcode asked for (R100); and a packet in the pipeline in STOPPING keeps these
actions, drop and redirect among them (R113 item 6 says that it is completed and transmitted). -/
def State.egressEnd (s : State) (r : EgRun) (hv : Octets) : State :=
  let g := portGroup r.port
  let pipe := portPipe r.port
  let bad := r.bad
  match deparse (s.deparseOf g 1) true r.orig hv r.pkt.frame with
  | none => (s.pipeDrop true g 0x24 (hvLen hv)).endPass g pipe true hv r.recs 0x24 1 0
  | some out =>
    let m := md hv 3
    let s1 := s.mirrors g true hv out
    let s2 := if bit m 40 && bit m 39 then s1.punt true true pipe hv out bad r.pkt.tailIn r.pkt.fid none else s1
    if bit m 55 then (s2.pipeDrop true g (dropCode hv) (hvLen hv)).endPass g pipe true hv r.recs (dropCode hv) 1 0
    else if bit m 40 && !bit m 39 then
      (s2.punt true false pipe hv out bad r.pkt.tailIn r.pkt.fid none).endPass g pipe true hv r.recs 0 2 0
    else if bit m 22 then s2.recirculate r hv out
    else
      let f : MacFrame := ⟨r.pkt.fid, out, bad, r.pkt.tailIn, r.ent.tc, r.pkt.launch.map (fun t => (s2.fullNs t).toNat), hv,
        r.ent.stamp, bridgeWords r.pkt.words, r.parsed, r.pkt.source == 3, r.recs, r.pkt.born⟩
      s2.setMac r.port (s2.mac r.port ++ [f])

/-- Run the stages of an egress pipeline from stage `10 - n` on: a trap runs in place (R152). -/
def State.egressFrom : Nat → State → EgRun → Nat → Octets → State
  | 0, s, r, _, hv => s.egressEnd r hv
  | n + 1, s, r, pc, hv =>
    let st := 9 - n
    let g := portGroup r.port
    let pipe := portPipe r.port
    let (e, s1) := s.stage g 1 st pc hv none (fun _ _ _ => none) false
    match e with
    | .next hv' pc' w2 t0 =>
      let (recs, s2) := s1.traceIf g pipe true hv' r.recs 1 st pc (stamp48 s1.now * 2 ^ 16 + w2) (t0 * 2 ^ 32)
      s2.egressFrom n { r with recs } pc' hv'
    | .parity nano word => s1.storeParity g 1 st nano word r.pkt.frame.length pipe hv r.recs
    | .trap t =>
      let (recs, s2) := s1.traceIf g pipe true hv r.recs 2 st pc
        (stamp48 s1.now * 2 ^ 16 + t.kind * 2 ^ 12 + t.detail * 2 ^ 4) (t.addr % 2 ^ 40 * 2 ^ 24)
      let s3 := s2.countTrap g true t.kind t.addr
      if st = 9 then
        let code := (s3.ucode g).trapCode
        (s3.pipeDrop true g code (hvLen hv)).endPass g pipe true hv recs code 1 0
      else
        let h := if t.kind = 0 then 3 else if t.kind = 1 then 4 else if t.kind = 2 then 5 else 6
        s3.egressFrom n { r with recs } ((s3.ucode g).handler.getD h 0 % 2048) (withCause hv t.kind st t.detail)

/-- The ports of an egress pipeline that have a packet selected, and the one that weighted round robin serves (R303). -/
def State.egressTurn (s : State) (pipe : Nat) : Option (Nat × Nat) :=
  s.turn (s.pipe pipe).egPort (s.pipe pipe).egCredit
    (((List.range 24).map (· + 24 * pipe)).filter (fun p => !(mget [] s.pip.atEgress p).isEmpty))

/-- The packet that a port's scheduler dequeued leaves for its egress pipeline, and the port's turn is noted. -/
def State.takeSelected (s : State) (pipe port credit : Nat) (rest : List Leaving) : State :=
  { s with pip := { s.pip with atEgress := mput [] s.pip.atEgress port rest } }.setPipe pipe
    { s.pipe pipe with egPort := port, egCredit := credit }

/-- EGRESS_PASS (R103, R104, R303): the packet position of an egress pipeline goes to the port whose turn it is, and the packet that its
scheduler dequeued runs the pipeline; with no packet selected the position is unused. A pipeline whose group carries nothing has no
positions. `errs` are the memory errors that words read in this pass turned out to have. -/
def execEgressPass (pipe : Nat) (errs : List (Nat × Nat)) (s : State) : Host.Outcome State Fault Refusal :=
  outcome (pipe < 32) s <|
    let g := pipe / 4
    if !s.grpSends g then s
    else match s.egressTurn pipe with
    | none => s.bump R.epipe_IDLE_SLOTS pipe
    | some (port, credit) => match mget [] s.pip.atEgress port with
    | [] => s
    | l :: rest =>
      let s0 := (s.takeSelected pipe port credit rest).strike errs
      let parsed := parse (s0.graph g 1) l.pkt.frame
      let hv0 := withMds parsed.hv (egressMds l.pkt l.ent l.near port (s0.rd R.grp_FEATURES g) l.ent.dest parsed)
      let b := s0.rd R.store_ECN_HV_BIT 0
      let hv := if b < 64 then patch hv0 0 (toBE 8 (setBit (fieldAt hv0 0 8) b (l.ent.mark || l.pkt.mark))) else hv0
      let s1 := s0.bump R.epipe_PACKETS pipe
      let s2 := if parsed.err || bits (w l.pkt.words 0) 2 1 == 0 then s1.bump R.gcnt_EG_PARSE_ERR g else s1
      let s3 := if parsed.trunc then s2.bump R.gcnt_EG_PARSE_TRUNC g else s2
      s3.egressFrom 10 ⟨port, l.ent, l.pkt, l.near, l.late, parsed.hv, s3.now, []⟩
        ((s3.ucode g).entry.getD (if l.pkt.source = 3 then 4 else 3) 0 % 2048) hv

/-! ## The transmitting MAC (R365, R454 to R457, R461) -/

/-- Nanoseconds of a STAMP48, and the difference of two, modulo 65,536 s. -/
def stampNs (x : Nat) : Nat := x / 2 ^ 32 * 1000000000 + x % 2 ^ 32
def stampAfter (a b : Nat) : Nat := (stampNs a + 65536000000000 - stampNs b) % 65536000000000

/-- The latency of a packet from a start stamp (R495): a negative difference counts as 0. -/
def latency (tx start : Nat) : Nat :=
  let d := stampAfter tx start
  if 32768000000000 ≤ d then 0 else min (2 ^ 32 - 1) d

/-- A UDP checksum after a change of the frame it covers; zero stays zero (R456). -/
def fixUdp (before after : Octets) (at_ : Nat) : Octets :=
  let old := fieldAt before at_ 2
  if old = 0 then after
  else patch after at_ (toBE 2 (not16 (fold16 (fold16 (not16 old + not16 (fold16 (sum16 before))) + fold16 (sum16 after)))))

/-- PTP edits of a frame (R456): the octets, and the state with its counts. `tx` is the transmit stamp in units of 2^-16 ns. -/
def State.ptpEdit (s : State) (port word : Nat) (f : MacFrame) (body : Octets) (tx : Nat) : Octets × State :=
  let off := bits word 28 20
  let cs := bits word 19 11
  let ts := bit word 31
  let cf := bit word 30
  if !ts && !cf then (body, s)
  else if f.words < 2 || bit (md f.hv 0) 15 || !s.on R.ptime_STAMP_EN port then (body, s.bump R.ptime_PTP_SW_SKIPPED port)
  else
    -- an edit that would reach beyond the frame is not made, and is counted; the others are
    let n := body.length
    let doTs := ts && decide (off + 44 ≤ n)
    let doCf := cf && decide (off + 16 ≤ n)
    let doCs := cs != 0 && decide (cs + 2 ≤ n)
    let s1 := s.add R.ptime_PTP_EDIT_BAD port (b2n (ts && !doTs) + b2n (cf && !doCf) + b2n (cs != 0 && !doCs))
    let b1 := if doTs then patch body (off + 34) (toBE 6 (tx / fracPerSecond) ++ toBE 4 (tx / 65536 % 1000000000)) else body
    let delta : Int := stampDiff (stamp48 tx) (bits (md f.hv 0) 63 16) * 65536 + (tx % 65536 : Nat)
    let b2 := if doCf then patch b1 (off + 8) (toBE 8 (toWord 64 (sext 64 (fieldAt b1 (off + 8) 8) + delta))) else b1
    (if doCs then fixUdp body b2 cs else b2, s1)

/-- A transmit record (R457). -/
def State.txRecord (s : State) (port word : Nat) (body : Octets) (tx : Nat) (sw : Bool) : State :=
  let off := bits word 28 20
  let ws := [port * 2 ^ 54 + body.getD off 0 % 16 * 2 ^ 50 + fieldAt body (off + 30) 2 * 2 ^ 34 + b2n sw * 2 ^ 33,
    tx / fracPerSecond, tx / 65536 % 1000000000 * 2 ^ 32 + tx % 65536 * 2 ^ 16, 0]
  let (ok, s1) := s.record (s.rd R.tsvc_TX_STAMP_RING 0) 3 (wordsLE ws)
  if ok then s1.bump R.ptime_TX_RECORDS port else s1.bump R.ptime_TX_RECORD_LOST port

/-- Ticks that a frame of a length occupies a port, padded to 64, with its 20 octets of overhead (R23, R365). -/
def State.wireTicks (s : State) (port len : Nat) : Nat := ceilDiv ((max 64 len + 20) * 8 * 5) (4 * max 1 (s.rateOf port))

/-- A frame of the MAC is free to start: its TC is not paused and its launch time has come (R312, R461). -/
def State.macReady (s : State) (port : Nat) (f : MacFrame) : Bool :=
  !s.tcPaused port f.tc && (match f.launch with
    | some t => decide (t ≤ s.nowNs)
    | none => true)

/-- The next frame of a port's MAC: the first that is free to start, where none of its TC is before it (R461). -/
def State.macNext (s : State) (port : Nat) : Option Nat :=
  (s.mac port).zipIdx.findSome? (fun x =>
    if s.macReady port x.1 && ((s.mac port).take x.2).all (fun f => f.tc != x.1.tc) then some x.2 else none)

/-- Launch times that LAUNCH_GUARD keeps the port free for: in the MAC, and at the head of queues of priority group 0 (R461). -/
def State.guarded_launches (s : State) (port : Nat) : List Int :=
  let inMac := ((s.mac port).filter (fun f => s.rd R.tcsch_PRIO_GROUP (8 * port + f.tc) == 0)).filterMap
    (fun f => f.launch.map (fun t => (t : Int)))
  let atHead := (List.range 8).filterMap (fun t =>
    let q := 8 * port + t
    if s.rd R.tcsch_PRIO_GROUP q ≠ 0 then none
    else match (s.queue (egKey q)).ents with
      | e :: _ => (match s.pkt? e.pid with
        | some p => (match p.launch with
          | some l => if s.launchFar port l then none else some (s.fullNs l)
          | none => none)
        | none => none)
      | [] => none)
  (inMac ++ atHead).filter (fun l => (s.nowNs : Int) < l)

/-- A frame may start without ending after a guarded launch. -/
def State.guardAllows (s : State) (port : Nat) (f : MacFrame) : Bool :=
  !s.on R.ptime_LAUNCH_GUARD port
    || (s.guarded_launches port).all (fun l => decide ((s.nowNs : Int) + (s.wireTicks port f.frame.length * 4 / 5 : Nat) ≤ l))

/-- What telemetry and launch counts make of a frame that begins transmission (R461, R494, R495). `start` is the time at which it passes the
medium boundary, `tx` its transmit stamp. -/
def State.txAccount (s : State) (port : Nat) (f : MacFrame) (tx start : Nat) (bad : Bool) : State :=
  let g := portGroup port
  let st := stamp48 tx
  let mine := f.words ≥ 2 && !bit (md f.hv 0) 15
  let lat := latency st (if mine then bits (md f.hv 0) 63 16 else f.linked)
  let s1 := match f.launch with
    | none => s
    | some t =>
      let late : Int := (start : Int) - (t * 65536 : Nat)
      if 8 * 65536 < late then s.bump R.ptime_LAUNCH_LATE port else if -(8 * 65536) ≤ late then s.bump R.ptime_LAUNCHED port else s
  let u := if !mine && (s1.on R.gtel_FT_ENABLE g || bit (md f.hv 1) 4) then s1.bump R.telem_LAT_LOCAL 0 else s1
  let s2 := if s1.on R.gtel_FT_ENABLE g then
      u.flowUpdate (flowKey (domOctets (s1.rd R.gtel_FT_KEY g)) f.hv) (hvTenant f.hv) (hvHash f.hv) (hvLen f.hv)
        (bits (md f.hv 5) 37 14) lat st
    else u
  s2.endPass g (portPipe port) true f.hv f.trace 0 (if bad then 5 else 0) lat

/-- Send one frame of the MAC. `tx` is its transmit stamp, `start` the time at which it passes the medium, in units of 2^-16 ns. -/
def State.sendFrame (s : State) (port : Nat) (f : MacFrame) (tx start : Nat) (sw : Bool) : State :=
  let max_ := s.rd R.port_MAX_FRAME port
  let cut := decide (max_ < f.frame.length)
  let body0 := if cut then f.frame.take (max_ - 4) else f.frame.take (f.frame.length - 4)
  let (body1, s1) := match Config.ptpWord (s.deparseOf (portGroup port) 1) with
    | none => (body0, s)
    | some i =>
      let word := fieldAt f.hv (4 * i) 4
      let (b, u) := s.ptpEdit port word f body0 tx
      (b, if bit word 29 then u.txRecord port word b tx sw else u)
  let pad := decide (body1.length < 60)
  let body := if pad then body1 ++ List.replicate (60 - body1.length) 0 else body1
  let stomp := f.bad || cut
  let fcs := crc32 0xFFFFFFFF body
  let wire := body ++ toLE 4 (if stomp then 2 ^ 32 - 1 - fcs else fcs)
  let s2 := (s1.bump R.pcnt_TX_FRAMES port).add R.pcnt_TX_BYTES port wire.length
  let s3 := if stomp then s2.bump R.pcnt_TX_STOMPED port else s2
  let s4 := if cut then s3.bump R.pcnt_TX_OVERSIZE port else s3
  let s5 := if pad then s4.bump R.pcnt_TX_PADDED port else s4
  let s6 := (s5.txAccount port f tx start stomp).emit (.frame port wire stomp tx)
  let ends := mput 0 s6.prt.txEnd port (s6.clk.ticks + s6.wireTicks port wire.length)
  { s6 with prt := { s6.prt with
      txEnd := ends, txLen := mput 0 s6.prt.txLen port wire.length, sending := mins s6.prt.sending port (hvTag f.hv, f.born) } }

/-- No frame is in transmission on a port. -/
def State.txIdle (s : State) (port : Nat) : Bool := decide (mget 0 s.prt.txEnd port ≤ s.clk.ticks)

/-- A pause frame that is due precedes every data frame not yet begun (R309). -/
def State.pauseFirst (s : State) (port : Nat) : Bool :=
  s.trf.pauseDue.contains port && s.rd R.psch_FLOW_MODE port != 0 && s.grpRuns (portGroup port)

/-- TRANSMIT_FRAME (R365): the MAC of a port sends the first of its frames that may start; while its group carries nothing they wait (R13). The count that
is captured as the frame's start passes the medium boundary lies `stamp` ticks back (R442, R454); `underrun` says that the octets after so many of a frame reassembled from the fabric did not
arrive in time. -/
def execTransmitFrame (port stamp : Nat) (underrun : Option Nat) (s : State) : Host.Outcome State Fault Refusal :=
  outcome (port < 768) s <|
    if !s.grpSends (portGroup port) || !s.portUp port || !s.txIdle port || s.pauseFirst port then s
    else match s.macNext port with
      | none => s
      | some i => match (s.mac port)[i]? with
        | none => s
        | some f =>
          if !s.guardAllows port f then s
          else
            let s1 := s.setMac port ((s.mac port).eraseIdx i)
            let start := ((s.timeAgo stamp : Int) + sext 32 (s.rd R.ptime_TX_ADJ port) * 65536 / 1000).toNat
            let tx := if s.on R.ptime_STAMP_EN port then start else f.parsed
            if f.fabric && !f.tailIn && underrun.isSome then
              let sent := min (underrun.getD 0) f.frame.length
              ((((s1.bump R.pcnt_TX_FRAMES port).add R.pcnt_TX_BYTES port sent).bump R.pcnt_TX_UNDERRUN port).emit (.frameError port)).txAccount
                port f tx start true
            else if !f.tailIn then s
            else s1.sendFrame port f tx start (!s.on R.ptime_STAMP_EN port)

/-! ## Pause frames (R309, R310, R114, R367, R368) -/

/-- The priorities of a port that are in XOFF; under FLOW_MODE PAUSE bit 0 stands for any TC. -/
def State.xoffVector (s : State) (port : Nat) : Nat :=
  let on := (List.range 8).filter (fun t => s.on R.ptc_XOFF (8 * port + t))
  if s.rd R.psch_FLOW_MODE port = 2 then b2n (!on.isEmpty)
  else on.foldl (fun a t => setBit a (s.rd R.ptc_PFC_PRIORITY (8 * port + t)) true) 0

/-- A pause frame: its vector, and the time of each priority (R368). -/
def State.pauseFrame (s : State) (port vector : Nat) (time : Nat → Nat) : Octets :=
  let head := toBE 6 pauseAddr ++ toBE 6 (s.rd R.port_MAC_ADDRESS port % 2 ^ 48) ++ toBE 2 0x8808
  let body := if s.rd R.psch_FLOW_MODE port = 2 then toBE 2 1 ++ toBE 2 (time 0)
    else toBE 2 0x0101 ++ toBE 2 vector ++ (List.range 8).flatMap (fun t => toBE 2 (if bit vector t then time t else 0))
  let f := head ++ body ++ List.replicate (60 - (head ++ body).length) 0
  f ++ toLE 4 (crc32 0xFFFFFFFF f)

/-- Send a pause frame ahead of data frames. -/
def State.sendPause (s : State) (port vector : Nat) (time : Nat → Nat) : State :=
  let f := s.pauseFrame port vector time
  let s1 := ((s.bump R.pcnt_TX_FRAMES port).add R.pcnt_TX_BYTES port 64).bump
    (if s.rd R.psch_FLOW_MODE port = 2 then R.pcnt_TX_PAUSE else R.pcnt_TX_PFC) port
  let s2 := s1.emit (.frame port f false s1.now)
  { s2 with
    prt := { s2.prt with txEnd := mput 0 s2.prt.txEnd port (s2.clk.ticks + s2.wireTicks port 64), txLen := mput 0 s2.prt.txLen port 64, sending := mdel s2.prt.sending port }
    trf := { s2.trf with pauseSent := mput 0 s2.trf.pauseSent port s2.clk.ticks } }

/-- A port may send pause frames: RUNNING, link UP, a FLOW_MODE, no frame in transmission. -/
def State.mayPause (s : State) (port : Nat) : Bool := s.portUp port && s.txIdle port && s.rd R.psch_FLOW_MODE port != 0

/-- The TCs of a port that are in XOFF. -/
def State.xoffTcs (s : State) (port : Nat) : Nat :=
  (List.range 8).foldl (fun a t => setBit a t (s.on R.ptc_XOFF (8 * port + t))) 0

/-- XOFF or XON of any TC of a port changed at a slot boundary: a frame is due (R309). -/
def State.notePause (s : State) (port : Nat) : State :=
  if s.rd R.psch_FLOW_MODE port = 0 ∨ s.xoffTcs port = mget 0 s.trf.signalled port / 256 ∨ s.trf.pauseDue.contains port then s
  else { s with trf := { s.trf with pauseDue := s.trf.pauseDue ++ [port] } }

/-- PAUSE_FRAME_SEND (R309): the MAC of a port sends the frame that a change of XOFF or XON made due. -/
def execPauseFrameSend (port : Nat) (s : State) : Host.Outcome State Fault Refusal :=
  outcome (port < 768) s <|
    if !s.trf.pauseDue.contains port || !s.mayPause port || !s.grpRuns (portGroup port) then s
    else
      let now := s.xoffVector port
      let was := mget 0 s.trf.signalled port % 256
      let quanta := s.rd R.psch_PFC_QUANTA port
      let s1 := { s with trf := { s.trf with pauseDue := s.trf.pauseDue.filter (· != port), signalled := mput 0 s.trf.signalled port (s.xoffTcs port * 256 + now) } }
      s1.sendPause port (Nat.lor now was) (fun t => if bit now t then quanta else 0)

/-- Half a pause time has passed since a port's last pause frame. -/
def State.halfPast (s : State) (port quanta since : Nat) : Bool := s.past since (s.quantaTicks port quanta / 2)

/-- PFC_REFRESH (R310): while any priority of a port stays in XOFF, its frame is sent again each half pause time. -/
def execPfcRefresh (port : Nat) (s : State) : Host.Outcome State Fault Refusal :=
  outcome (port < 768) s <|
    let now := s.xoffVector port
    let quanta := s.rd R.psch_PFC_QUANTA port
    if now = 0 ∨ s.trf.pauseDue.contains port ∨ ¬ s.mayPause port ∨ ¬ s.grpRuns (portGroup port)
      ∨ ¬ s.halfPast port quanta (mget 0 s.trf.pauseSent port) then s
    else s.sendPause port now (fun t => if bit now t then quanta else 0)

/-- The priorities of a port on which PFC is enabled: those of its lossless TCs; under PAUSE bit 0 (R114). -/
def State.holdVector (s : State) (port : Nat) : Nat :=
  if s.rd R.psch_FLOW_MODE port = 2 then 1
  else ((List.range 8).filter (fun t => s.on R.ptc_LOSSLESS (8 * port + t))).foldl
    (fun a t => setBit a (s.rd R.ptc_PFC_PRIORITY (8 * port + t)) true) 0

/-- PFC_HOLD_REFRESH (R114): while a port's group is not RUNNING and its STOP_ACTION is PFC_HOLD, XOFF or PAUSE with quanta 0xFFFF is
sent on entry and again each half of the quanta time. -/
def execPfcHoldRefresh (port : Nat) (s : State) : Host.Outcome State Fault Refusal :=
  outcome (port < 768) s <|
    let g := portGroup port
    if s.grpRuns g ∨ s.rd R.grp_STOP_ACTION g ≠ 1 ∨ ¬ s.mayPause port ∨ s.holdVector port = 0 then s
    else
      let due := match mfind s.prt.holdSent port with
        | none => true
        | some t => s.halfPast port 0xFFFF t
      if !due then s
      else
        let s1 := { s with prt := { s.prt with holdSent := mins s.prt.holdSent port s.clk.ticks } }
        s1.sendPause port (s.holdVector port) (fun _ => 0xFFFF)

/-- A group enters RUNNING: ports held under PFC_HOLD send XON at once (R114). -/
def State.holdRelease (s : State) (g : Nat) : State :=
  s.each (s.prt.holdSent.filter (fun e => portGroup e.1 == g)) (fun u e =>
    let u1 := { u with prt := { u.prt with holdSent := mdel u.prt.holdSent e.1 } }
    if u1.portUp e.1 && u1.rd R.psch_FLOW_MODE e.1 != 0 then u1.sendPause e.1 (u1.holdVector e.1) (fun _ => 0) else u1)

/-- A pause frame of 64 octets arrives: counted as received, and the MAC's own whatever the group's state (R363, R367). One that an
uncorrectable codeword overlaps is bad (R356) and is not obeyed. -/
def State.rxPauseFrame (s : State) (port : Nat) (f : State → State) : State :=
  if !s.portUp port then s
  else
    let err := s.pcsSeen port 0
    let t := (s.frameBegun port).countRx port 64 err
    if err = 0 then f t else t.bump R.pcnt_RX_CTRL_DISCARD port

/-- RX_PAUSE (R312, R367): a good IEEE 802.3x PAUSE frame is received on a port. -/
def execRxPause (port quanta : Nat) (s : State) : Host.Outcome State Fault Refusal :=
  outcome (port < 768 && quanta < 65536) s (s.rxPauseFrame port (fun u => u.obeyPause port quanta))

/-- RX_PFC (R312, R367): a good PFC frame is received on a port. -/
def execRxPfc (port vector : Nat) (times : List Nat) (s : State) : Host.Outcome State Fault Refusal :=
  outcome (port < 768 && vector < 256 && times.length == 8 && times.all (· < 65536)) s
    (s.rxPauseFrame port (fun u => u.obeyPfc port vector times))

/-- PAUSE_EXPIRE (R312): the received pause time of a priority (8: IEEE 802.3x) has run out. -/
def execPauseExpire (port prio : Nat) (s : State) : Host.Outcome State Fault Refusal :=
  outcome (port < 768 && prio < 9) s <|
    match mfind s.trf.paused (pauseKey port prio) with
    | none => s
    | some x =>
      if x.until_ ≤ s.clk.ticks then
        ({ s with trf := { s.trf with paused := mdel s.trf.paused (pauseKey port prio) } }).countPaused port
      else s

/-- Octets of the frame in transmission that have not left: those of the ticks to its end, less the gap of 12 octets that `wireTicks` adds
after it. -/
def State.txLeft (s : State) (port : Nat) : Nat :=
  min (mget 0 s.prt.txLen port) ((mget 0 s.prt.txEnd port - s.clk.ticks) * s.rateOf port / 10 - 12)

/-- A frame in transmission is cut off (R360): counted, and its octets that did not leave were not transmitted (R371). -/
def State.abortTx (s : State) (port : Nat) : State :=
  (s.bump R.pcnt_TX_ABORTED port).wr R.pcnt_TX_BYTES port (s.rd R.pcnt_TX_BYTES port - s.txLeft port)

/-- Packets of a port that wait at its egress pipeline or in its MAC are discarded under STOP_DISCARD (R366); the pass of a frame in the MAC
ends (R503). -/
def State.dropSelected (s : State) (p : Nat) : State :=
  let s1 := s.each (s.mac p) (fun t f =>
    (t.qmDrop 0x0A f.frame.length (some (egKey (8 * p + f.tc))) none).endPass (portGroup p) (portPipe p) true f.hv f.trace 0x0A 1 0)
  let s2 := s1.each (mget [] s.pip.atEgress p) (fun t l => t.qmDrop 0x0A l.pkt.len (some (egKey (8 * p + l.ent.tc))) none)
  let s3 := s2.setMac p []
  { s3 with pip := { s3.pip with atEgress := mdel s3.pip.atEgress p } }

/-- The link of a port leaves UP: a frame in transmission is cut off, received pauses end, and no frame is left that a codeword spoilt (R360). -/
def State.linkLost (s : State) (port : Nat) : State :=
  let s1 := if s.txIdle port then s else s.abortTx port
  ({ s1 with
    prt := { s1.prt with txEnd := mdel s1.prt.txEnd port, spoilt := mdel s1.prt.spoilt port }
    trf := { s1.trf with paused := s1.trf.paused.filter (fun e => e.1 / 16 != port) } }).countPaused port

end Sys2Proof.Machine
end

