-- ==== Sys2Proof/Machine/Time.lean ====
section
/-! DEFINITION. Invar (14_time.md): changes of the triple, holdover, the fabric servo, alignment, pulse per second. -/

namespace Sys2Proof.Machine

/-! ## Blocks of a Xanla Link (R380, R381, R388) -/

def State.link (s : State) (l : Nat) : LinkSt := mget LinkSt.idle s.fab.links l
def State.setLinkSt (s : State) (l : Nat) (x : LinkSt) : State := { s with fab := { s.fab with links := mput LinkSt.idle s.fab.links l x } }

/-- The payload of a control block, bits [55:0], as its seven octets in network byte order; and the number that received octets spell. -/
def blockOctets (p : Nat) : Octets := toBE 7 (p % 2 ^ 56)
def blockPayload (bs : Octets) : Nat := fieldAt bs 0 7

/-- A link's class is IR (R388). -/
def State.irLink (s : State) (l : Nat) : Bool := s.rd R.link_CLASS l == 1

/-- A FILLER block. -/
def filler (l : Nat) : Out := .block l 0x11 (blockOctets 0)

/-- A unit of n blocks is preceded by FILLER on an IR link when it would make more than 2,047 other blocks since the last one (R388). -/
def State.fillerDue (s : State) (l n : Nat) : Bool := s.irLink l && decide (2047 < mget 0 s.fab.sinceFill l + n)

/-- What goes out with a unit, the newest first. -/
def State.unitOut (s : State) (l n : Nat) (o : Out) : List Out := if s.fillerDue l n then [o, filler l] else [o]

/-- A unit of n blocks goes out on a link (R381, R388). On a CR link nothing is counted: it sends no FILLER. -/
def State.sendUnit (s : State) (l n : Nat) (o : Out) : State :=
  let since := if s.fillerDue l n then n else mget 0 s.fab.sinceFill l + n
  { s with
    out := s.unitOut l n o ++ s.out
    fab := if s.irLink l then { s.fab with
        sinceFill := mput 0 s.fab.sinceFill l since
        slotBlocks := mput 0 s.fab.slotBlocks l (mget 0 s.fab.slotBlocks l + n + b2n (s.fillerDue l n)) }
      else s.fab }

/-! ## Time state and holdover (R443) -/

/-- The active sync link: the first of SYNC_LINK0 to SYNC_LINK3 whose link is UP; 0xFFFF for none (R449). -/
def State.activeSync (s : State) : Nat :=
  (((List.range 4).map (fun i => s.rd (R.sync_SYNC_LINK0.at i) 0)).find?
    (fun l => l != 0xFFFF && s.rd R.link_LINK_STATE l == 7)).getD 0xFFFF

/-- TIME_STATE as the present causes, lock, changes and exchanges give it (R443): exchanges succeed while the last is younger than the 16
intervals after which cause SYNC is set. -/
def State.timeStateNow (s : State) : Nat :=
  if s.rd R.invar_HOLD_CAUSE 0 ≠ 0 then 3
  else if !s.time.changed then 0
  else if s.rd R.invar_SYNC_SOURCE 0 = 0 then
    if s.on R.invar_SERVO_LOCKED 0 && !s.past s.time.lastChange (ticksMs (s.rd R.invar_SERVO_TIMEOUT 0)) then 2 else 1
  else if s.activeSync ≠ 0xFFFF ∧ s.time.lastSync ≠ 0 ∧ !s.past s.time.lastSync (16 * ticksUs (s.rd R.sync_TSYNC_INTERVAL 0)) then 2 else 1

/-- Payload of TIME_HOLDOVER and TIME_TRACKING (R443). -/
def State.holdPayload (s : State) : Nat :=
  s.rd R.invar_TIME_STATE 0 * 2 ^ 56 + s.rd R.invar_HOLD_CAUSE 0 % 256 * 2 ^ 48

/-- TIME_STATE brought up to date: each entry to and exit from HOLDOVER posts its event, each entry sends its message (R443). -/
def State.retime (s : State) : State :=
  let old := s.rd R.invar_TIME_STATE 0
  let new := s.timeStateNow
  let s1 := s.wr R.invar_TIME_STATE 0 new
  if old ≠ 3 ∧ new = 3 then
    let s2 := s1.wr R.invar_HOLDOVER_SINCE 0 s.slotNo
    (s2.event 0 0x0015 [s2.holdPayload]).fault 0x012 0x1D (s2.rd R.invar_HOLD_CAUSE 0)
  else if old = 3 ∧ new ≠ 3 then s1.event 0 0x0016 [s1.holdPayload]
  else s1

/-- A cause of holdover set or cleared (R443): bit 0 REF, 1 SERVO, 2 SYNC. -/
def State.setCause (s : State) (i : Nat) (b : Bool) : State :=
  (s.wr R.invar_HOLD_CAUSE 0 (setBit (s.rd R.invar_HOLD_CAUSE 0) i b)).retime

/-! ## Changing the triple (R439 to R441) -/

/-- The apply point lies at or before the boundary at count `c` (R439). -/
def TimeChange.due (ch : TimeChange) (s : State) (c : Nat) : Bool :=
  if ch.mode = 0 then ch.point ≤ c else if ch.mode = 3 then true else ch.point ≤ s.timeAt c

/-- An instant moved by a step of whole nanoseconds. -/
def stepTime (t : Nat) (ns : Int) : Nat := ((t : Int) + ns * 65536).toNat

/-- Transfer slots are counted by the slots they lie in (R280): a step of whole slots moves them all, and none comes again (R441). -/
def State.moveTransfers (s : State) (ns : Int) : State :=
  let by_ : Int := ns / 64 * 100
  let move (g : Nat) : Nat := ((g : Int) + by_).toNat
  { s with bab := { s.bab with
    next := s.bab.next.map (fun e => (e.1, move e.2))
    waiting := s.bab.waiting.map (fun e => (e.1, e.2.map (fun x => { x with first := move x.first })))
    taken := s.bab.taken.map (fun t => { t with slot := move t.slot }) } }

/-- The armed change applied at the boundary whose count is `c`: base, offset and rate in one tclk period (R439). -/
def State.applyChange (s : State) (c : Nat) (ch : TimeChange) : State :=
  let t := stepTime (s.timeAt c) ch.step
  let s1 := ((s.wr R.invar_BASE 0 c).wr R.invar_OFFSET 0 (timeRaw t)).wr R.invar_RATE 0 ch.rate
  let s2 := ((s1.wr R.tchg_STATUS 0 2).wr R.tchg_APPLIED_COUNT 0 c).wr R.tchg_APPLIED_SLOT 0 (t / 65536 / 64)
  let s3 := if ch.step = 0 then s2 else (s2.bump32 R.invar_STEPS 0).moveTransfers ch.step
  ({ s3 with clk := { s3.clk with change := none, prior := some (s.rd R.invar_BASE 0, s.rd R.invar_OFFSET 0, s.rd R.invar_RATE 0) },
             time := { s3.time with changed := true, lastChange := s.clk.ticks } }).setCause 1 false

/-- The limits of NEW_RATE: nominal within 500 ppm (R440). -/
def rateLow : Nat := 0x0000CCB295E9E1B1
def rateHigh : Nat := 0x0000CCE703AFB7E9
def rateNominal : Nat := 0x0000CCCCCCCCCCCD

/-! ## The fabric servo and alignment (R450 to R452) -/

/-- A quotient the manual leaves unrounded: the floor, or one more by a free value when the division is not exact. -/
def State.divFree (s : State) (a : Int) (b : Nat) : Int × State :=
  if a % b = 0 then (a / b, s) else let (f, s1) := s.free 1; (a / b + f, s1)

/-- The nearest multiple of 64 ns to an offset in ps; a tie goes either way, by a free value (R451). -/
def State.stepFor (s : State) (ps : Int) : Int × State :=
  let r := ps % 64000
  let q := ps / 64000
  if r < 32000 then (64 * q, s) else if 32000 < r then (64 * (q + 1), s)
  else let (f, s1) := s.free 1; (64 * (q + f), s1)

/-- SCHED_STATE follows FENCE and ALIGN_STATE (R452, R403). -/
def State.reSched (s : State) : State :=
  s.wr R.fsch_SCHED_STATE 0
    (if s.on R.fab_FENCE 0 then 2 else if s.rd R.sync_ALIGN_STATE 0 = 2 then 1 else 0)

/-- ALIGN_STATE moved (R452). -/
def State.setAlign (s : State) (new : Nat) : State :=
  let s1 := (s.wr R.sync_ALIGN_STATE 0 new).bump32 R.sync_ALIGN_CHANGES 0
  let err := s.rd R.sync_ALIGN_ERROR 0
  let s3 := if new = 0 then s1 else s1.event 0 0x0017 [new * 2 ^ 56 + err]
  (if new = 2 then s3.fault 0x012 0x20 err else s3).reSched

/-- The judgement of one reading of the offset, in ps (R452). -/
def State.judgeAlign (s : State) (ps : Int) : State :=
  let a := ps.natAbs
  let t := s.time
  let t' := { t with
    above16 := if 16000 < a then t.above16 + 1 else 0
    above48 := if 48000 < a then t.above48 + 1 else 0
    below12 := if a ≤ 12000 then t.below12 + 1 else 0
    below40 := if a ≤ 40000 then t.below40 + 1 else 0 }
  let s1 := (s.wrI R.sync_ALIGN_ERROR 0 ps)
  let s2 := { s1 with time := t' }
  let st := s.rd R.sync_ALIGN_STATE 0
  if st ≠ 2 ∧ 3 ≤ t'.above48 then s2.setAlign 2
  else if st = 0 ∧ 3 ≤ t'.above16 then s2.setAlign 1
  else if st = 1 ∧ 16 ≤ t'.below12 then s2.setAlign 0
  else if st = 2 ∧ 16 ≤ t'.below40 then s2.setAlign 1
  else s2

/-- The servo's correction for an offset in ps: a step beyond STEP_LIMIT, otherwise a slew (R451). -/
def State.servo (s : State) (ps : Int) : State :=
  if s.rd R.sync_STEP_LIMIT 0 * 1000 < ps.natAbs then
    let (q, s1) := s.stepFor ps
    let s2 := (s1.wrI R.sync_FREQ_PPB 0 0).bump32 R.sync_SERVO_STEPS 0
    { s2 with time := { s2.time with freqAcc := 0 },
              clk := { s2.clk with change := some ⟨s.rd R.invar_RATE 0, q, 3, 0⟩ } }.wr R.tchg_STATUS 0 1
  else
    let i := s.rd R.sync_TSYNC_INTERVAL 0
    let (d, s1) := s.divFree (ps * 2 ^ 32) (1024 * i)
    let acc := s1.time.freqAcc + d
    let (f, s2) := s1.divFree acc (2 ^ 32)
    let (p, s3) := s2.divFree (ps * 2 ^ 32) (32 * i)
    let lim : Int := (s.rd R.sync_RATE_LIMIT 0 : Int) * 2 ^ 32
    let total := clampInt (-lim) lim (acc + p)
    let (r, s4) := s3.divFree ((rateNominal : Int) * (1000000000 * 2 ^ 32 + total)) (1000000000 * 2 ^ 32)
    { s4.wrI R.sync_FREQ_PPB 0 f with
        time := { s4.time with freqAcc := acc },
        clk := { s4.clk with change := some ⟨r.toNat, 0, 3, 0⟩ } }.wr R.tchg_STATUS 0 1

/-- A completed exchange on link `l` with its four stamps (R450 to R452). -/
def State.exchangeDone (s : State) (l t1 t2 t3 t4 : Nat) : State :=
  let theta := (stampDiff t2 t1 - stampDiff t4 t3) * 500
  let delay := (stampDiff t2 t1 + stampDiff t4 t3) * 500
  let s1 := ((s.wrI R.ltime_OFFSET l theta).wrI R.ltime_DELAY l delay).bump R.ltime_EXCHANGES l
  if s.rd R.link_LINK_STATE l = 7 ∧ l = s.activeSync then
    let s2 := ({ s1 with time := { s1.time with lastSync := s.clk.ticks } }).wr R.sync_ACTIVE_LINK 0 l
    let s3 := if bit (s2.rd R.invar_HOLD_CAUSE 0) 2 then s2.setCause 2 false else s2.retime
    -- under cause REF the rate keeps its last value, so the servo arms nothing (R444)
    let s4 := if s.rd R.invar_SYNC_SOURCE 0 = 1 ∧ !bit (s3.rd R.invar_HOLD_CAUSE 0) 0 then s3.servo theta else s3
    s4.judgeAlign theta
  else s1

/-! ## Rows of the table: time -/

/-- A link from ALIGNING on, its function RUNNING: TSYNC passes (R392, R450). -/
def State.tsyncOpen (s : State) (l : Nat) : Bool := s.rd R.link_STATE l == 3 && s.rd R.link_LINK_STATE l != 0

/-- A TSYNC block: KIND, SEQ and STAMP48 (R380). -/
def tsyncBlock (l kind seq stamp : Nat) : Out := .block l 0x40 (blockOctets (kind * 2 ^ 52 + seq * 2 ^ 48 + stamp))

/-- TSYNC_REQ_SEND (R450): every TSYNC_INTERVAL a link sends a REQ with its transmit time. -/
def execTsyncReqSend (link : Nat) (s : State) : Host.Outcome State Fault Refusal :=
  let due := s.past (mget 0 s.time.reqSent link) (ticksUs (s.rd R.sync_TSYNC_INTERVAL 0))
  let seq := mget 0 s.time.nextSeq link
  let t1 := stamp48 s.now
  outcome (link < 768) s <|
    if s.tsyncOpen link && due then
      ({ s with time := { s.time with
          exch := mins s.time.exch (link * 16 + seq) ⟨t1, none, s.clk.ticks⟩
          nextSeq := mput 0 s.time.nextSeq link ((seq + 1) % 16)
          reqSent := mput 0 s.time.reqSent link s.clk.ticks } }).sendUnit link 1 (tsyncBlock link 1 seq t1)
    else s

/-- An exchange dropped and counted (R450). -/
def State.discardExchange (s : State) (link seq : Nat) : State :=
  ({ s with time := { s.time with exch := mdel s.time.exch (link * 16 + seq) } }).bump R.ltime_DISCARDED link

/-- An answer whose SEQ is not that of the exchange its link has open discards that exchange; with none open there is nothing to discard
(R450). -/
def State.outOfSeq (s : State) (link : Nat) : State :=
  match s.time.exch.find? (fun e => e.1 / 16 == link) with
  | some e => s.discardExchange link (e.1 % 16)
  | none => s

/-- The receive stamp of a TSYNC block: the present with the link's ASYMMETRY applied (R450). -/
def State.rxStamp (s : State) (link : Nat) : Nat :=
  stamp48 ((s.now : Int) + s.rdI R.ltime_ASYMMETRY link * 65536 / 1000).toNat

/-- TSYNC_RECEIVED (R450): REQ is answered with both stamps; the answers complete an exchange. -/
def execTsyncReceived (link kind seq : Nat) (stamp : Octets) (s : State) : Host.Outcome State Fault Refusal :=
  outcome (link < 768 && kind < 16 && seq < 16 && payloadOk ((kind * 16 + seq) :: stamp)) s <|
    let k := link * 16 + seq
    let stamp := bits (blockPayload ((kind * 16 + seq) :: stamp)) 47 0
    if !s.tsyncOpen link then s
    else if kind = 1 then
      (s.sendUnit link 1 (tsyncBlock link 2 seq (s.rxStamp link))).sendUnit link 1 (tsyncBlock link 3 seq (stamp48 s.now))
    else if kind = 2 ∨ kind = 3 then
      match mfind s.time.exch k with
      | none => s.outOfSeq link
      | some x =>
        if s.past x.sent (ticksUs 4 + 1) then s.discardExchange link seq
        else if kind = 2 then
          { s with time := { s.time with exch := mins s.time.exch k { x with t2? := some stamp } } }
        else match x.t2? with
          | none => s.discardExchange link seq
          | some t2 =>
            ({ s with time := { s.time with exch := mdel s.time.exch k } }).exchangeDone link x.t1 t2 stamp (s.rxStamp link)
    else s

/-- TSYNC_TIMEOUT (R450): an exchange whose answer is more than 4 µs late is discarded. -/
def execTsyncTimeout (link seq : Nat) (s : State) : Host.Outcome State Fault Refusal :=
  outcome (link < 768 && seq < 16) s <|
    match mfind s.time.exch (link * 16 + seq) with
    | some x => if s.past x.sent (ticksUs 4 + 1) then s.discardExchange link seq else s
    | none => s

/-- SERVO_TIMEOUT (R443): under HOST, lock claimed and no change applied within the time: cause SERVO. -/
def execServoTimeout (s : State) : Host.Outcome State Fault Refusal :=
  completes (
    if s.rd R.invar_SYNC_SOURCE 0 = 0 ∧ s.on R.invar_SERVO_LOCKED 0 ∧
        s.past s.time.lastChange (ticksMs (s.rd R.invar_SERVO_TIMEOUT 0)) ∧ !bit (s.rd R.invar_HOLD_CAUSE 0) 1 then
      s.setCause 1 true
    else s)

/-- SYNC_LOSS (R443): under FABRIC, no sync link UP or no exchange for 16 TSYNC_INTERVALs: cause SYNC. -/
def execSyncLoss (s : State) : Host.Outcome State Fault Refusal :=
  completes (
    if s.rd R.invar_SYNC_SOURCE 0 = 1 ∧ !bit (s.rd R.invar_HOLD_CAUSE 0) 2 ∧
        (s.activeSync = 0xFFFF ∨ s.past s.time.lastSync (16 * ticksUs (s.rd R.sync_TSYNC_INTERVAL 0))) then
      ({ s with time := { s.time with syncCauseSince := s.clk.ticks } }.wr R.sync_ACTIVE_LINK 0 s.activeSync).setCause 2 true
    else s)

/-- A root: under HOST with no sync link named (R449). -/
def State.isRoot (s : State) : Bool :=
  s.rd R.invar_SYNC_SOURCE 0 == 0 && (List.range 4).all (fun i => s.rd (R.sync_SYNC_LINK0.at i) 0 == 0xFFFF)

/-- No reading of the offset counts as one of a run any more: exchanges have failed since. -/
def State.endRuns (s : State) : State :=
  { s with time := { s.time with above16 := 0, above48 := 0, below12 := 0, below40 := 0 } }

/-- ALIGN_HOLD_EXPIRE (R449, R452): ALIGN_HOLD has passed with cause SYNC: OUT_OF_STEP. The state of a root stays NORMAL. -/
def execAlignHoldExpire (s : State) : Host.Outcome State Fault Refusal :=
  completes (
    if bit (s.rd R.invar_HOLD_CAUSE 0) 2 ∧ s.rd R.sync_ALIGN_STATE 0 ≠ 2 ∧ !s.isRoot ∧
        s.past s.time.syncCauseSince (ticksMs (s.rd R.sync_ALIGN_HOLD 0)) then (s.setAlign 2).endRuns
    else s)

/-- The time PLL's reference that is not in use: where a switch would go, 0xFF for none (R448). -/
def State.timeStandby (s : State) : Nat :=
  if s.rd R.invar_TIME_REF_IN_USE 0 = s.rd R.invar_TIME_REF_STANDBY 0 then s.rd R.invar_TIME_REF_PRIMARY 0
  else s.rd R.invar_TIME_REF_STANDBY 0

/-- A reference input is HEALTHY (R447). -/
def State.refHealthy (s : State) (r : Nat) : Bool := r < 4 && s.rd R.refm_REF_STATE r == 0

/-- An epoch boundary has just run: the slot in progress begins an epoch and its actions are done (R21). -/
def State.atEpoch (s : State) : Bool := s.clk.epochAt && !s.clk.epochDue

/-- TIME_REF_SWITCH (R448): at an epoch boundary the time PLL moves to its HEALTHY standby and relocks; the count goes on. -/
def State.timeRefSwitch (s : State) : State :=
  if s.time.pllPending && s.atEpoch then
    if s.refHealthy s.timeStandby then
      { s.wr R.invar_TIME_REF_IN_USE 0 s.timeStandby with
          time := { s.time with pllPending := false, pllRelocking := true } }
    else { s with time := { s.time with pllPending := false } }
  else s

/-- TIME_REF_SWITCH (R448). -/
def execTimeRefSwitch (s : State) : Host.Outcome State Fault Refusal := completes s.timeRefSwitch

/-- TIME_PLL_RELOCKED (R443, R448): the PLL has relocked to a healthy reference, the standby it switched to or the one in use once that
has recovered: cause REF clears. -/
def execTimePllRelocked (s : State) : Host.Outcome State Fault Refusal :=
  completes (
    if (s.time.pllRelocking || bit (s.rd R.invar_HOLD_CAUSE 0) 0) && s.refHealthy (s.rd R.invar_TIME_REF_IN_USE 0) then
      { s with time := { s.time with pllRelocking := false } }.setCause 0 false
    else s)

/-- PPS_IN (R458): a rising edge captures Invar time and count; the event goes out at most once per epoch. -/
def execPpsIn (s : State) : Host.Outcome State Fault Refusal :=
  completes (
    if s.on R.tsvc_PPS_IN_EN 0 then
      let s1 := ((s.wr R.tsvc_PPS_IN_TIME 0 (timeRaw s.now)).wr R.tsvc_PPS_IN_COUNT 0 s.clk.count).bump32
        R.tsvc_PPS_IN_EDGES 0
      if s.time.ppsEpoch = some (s.clk.slot / 16384) then s1
      else { s1 with time := { s1.time with ppsEpoch := some (s.clk.slot / 16384) } }.event 0 0x0018
        [stamp48 s.now * 2 ^ 16]
    else s)

/-- The last whole second plus PPS_OUT_OFFSET at or before now, in ns (R459). -/
def State.ppsTarget (s : State) : Int :=
  let off := s.rdI R.tsvc_PPS_OUT_OFFSET 0
  ((s.nowNs : Int) - off) / 1000000000 * 1000000000 + off

/-- PPS_OUT_RISE (R459): Invar time has reached a whole second plus the offset within this slot. -/
def execPpsOutRise (s : State) : Host.Outcome State Fault Refusal :=
  completes (
    if s.on R.tsvc_PPS_OUT_EN 0 ∧ s.rd R.invar_TIME_STATE 0 ≠ 0 ∧ s.time.ppsOut = false ∧
        s.ppsTarget / 64 = (s.clk.slot : Int) then
      { s with time := { s.time with ppsOut := true, ppsRise := s.clk.ticks } }.emit (.pin 1 1)
    else s)

/-- PPS_OUT_FALL (R441, R459): PPS_OUT_WIDTH after the rise, and never later than 100 ns before the next edge, which a change of time or of
the offset may bring near. -/
def execPpsOutFall (s : State) : Host.Outcome State Fault Refusal :=
  completes (
    if s.time.ppsOut ∧ (s.past s.time.ppsRise (ticksNs (s.rd R.tsvc_PPS_OUT_WIDTH 0)) ∨
        s.ppsTarget + 1000000000 ≤ (s.nowNs : Int) + 100) then
      { s with time := { s.time with ppsOut := false } }.emit (.pin 1 0)
    else s)

end Sys2Proof.Machine
end

