-- ==== Sys2Proof/Machine/Links.lean ====
section
/-! DEFINITION. Xanla Links: routes, link queues, credit returned, and LINK_STATE (12_fabric.md R379, R387, R392, R396, R400, R401;
13_fabric_scheduling.md R424, R426). -/

namespace Sys2Proof.Machine

/-- This device's ID. -/
def State.myId (s : State) : Nat := s.rd R.ident_DEVICE_ID 0 % 4096

/-- A link is UP. -/
def State.linkIsUp (s : State) (l : Nat) : Bool := s.rd R.link_LINK_STATE l == 7

/-- The instances of a register that hold a value other than its default, with the value. -/
def State.instances (s : State) (r : Reg) : List (Nat × Nat) :=
  (s.dict.filter (fun e => keyIndex e.1 == r.index && keySub e.1 == r.sub)).map (fun e => (keyInst e.1, e.2))

/-- Links and ports whose function holds a state. -/
def State.fnsIn (s : State) (f : Fn) (st : Nat) : List Nat :=
  ((s.instances ⟨fnIndex f, 1⟩).filter (fun e => e.2 == st)).map (·.1)

/-- CREDITS of a link (R387): the value written, or 40 cells per lane for VL 0 to VL 2 and 8 for VL 3. A written 0 is held as 2 to the
64, so that it is not taken for the default. -/
def creditsOf (raw width : Nat) : Nat :=
  if raw = 0 then 40 * width * (2 ^ 48 + 2 ^ 32 + 2 ^ 16) + 8 * width else raw % 2 ^ 64
def State.credits (s : State) (l : Nat) : Nat := creditsOf (s.rd R.link_CREDITS l) (s.rd R.link_WIDTH l)

/-- The credits of one VL. -/
def creditVl (c vl : Nat) : Nat := bits c (63 - 16 * vl) (48 - 16 * vl)

/-! ## Routes (R400) -/

/-- Member word m of a route entry. -/
def State.routeWord (s : State) (d m : Nat) : Nat := s.rd (Reg.at ⟨0x6020, 1⟩ m) d

/-- The link a member word is live through, for a test of links that are UP. -/
def memberLink (up : Nat → Bool) (w : Nat) : Option Nat :=
  if !bit w 31 then none
  else if up (bits w 25 16) then some (bits w 25 16)
  else if bit w 15 && up (bits w 9 0) then some (bits w 9 0)
  else none

/-- The live members of a route entry in member order: link, weight, BUMP. -/
def State.liveMembers (s : State) (d : Nat) : List (Nat × Nat × Nat) :=
  (List.range 16).filterMap (fun m =>
    let w := s.routeWord d m
    (memberLink s.linkIsUp w).map (fun l => (l, bits w 29 26, bits w 30 30)))

/-- LIVE of a route entry. -/
def State.liveMask (s : State) (d : Nat) : Nat :=
  (List.range 16).foldl (fun a m => if (memberLink s.linkIsUp (s.routeWord d m)).isSome then a + 2 ^ m else a) 0

/-- The first member whose running sum of weights exceeds r. -/
def pickMember : List (Nat × Nat × Nat) → Nat → Nat → Option (Nat × Nat)
  | [], _, _ => none
  | (l, w, b) :: t, sum, r => if r < sum + w then some (l, b) else pickMember t (sum + w) r

/-- The link and BUMP a cell toward device d takes by its flow hash (R400). -/
def State.pickLink (s : State) (d hash : Nat) : Option (Nat × Nat) :=
  let ms := s.liveMembers d
  let total := ms.foldl (fun a m => a + m.2.1) 0
  if total = 0 then none else pickMember ms 0 (hash * total / 65536)

/-- Route entries with members that are not zero. -/
def State.routesUsed (s : State) : List Nat :=
  ((s.dict.filter (fun e => keyIndex e.1 == 0x6020 && decide (1 ≤ keySub e.1) && decide (keySub e.1 ≤ 16))).map
    (fun e => keyInst e.1)).eraseDups

/-- A member is live through its alternate. -/
def State.repaired (s : State) (d m : Nat) : Bool :=
  let w := s.routeWord d m
  memberLink s.linkIsUp w == some (bits w 9 0) && !s.linkIsUp (bits w 25 16)

/-- REPAIRS (R406): members that became live through ALT_LINK since another state, by a change of a link or of their words. -/
def State.countRepairs (s before : State) : State :=
  s.each s.routesUsed (fun t d =>
    t.each (List.range 16) (fun u m =>
      if u.repaired d m && !before.repaired d m then u.bump32 ⟨0x6020, 0x12⟩ d else u))

/-! ## Cells (R382, R424, R426) -/

/-- One credit of a VL goes back to the sender of a link (R387). -/
def State.returnCredit (s : State) (l vl : Nat) : State :=
  let x := s.link l
  s.setLinkSt l { x with returned := x.returned.set vl ((x.returned.getD vl 0 + 1) % 4096) }

/-- A cell leaves the device or is dropped: its place in the store and its credit are given up (R387, R418, R424). -/
def State.releaseOrigin (s : State) (o : Origin) : State :=
  match o with
  | .built => s
  | .transit l vl => s.returnCredit l vl
  | .stored pid cell near last =>
    let s1 := s.releaseCell pid cell near
    if last then s1.unlink pid else s1

/-- The packet of a cell as one number: source, destination, tag. -/
def FabCell.packet (c : FabCell) : Nat := (c.src * 4096 + c.dest) * 4096 + c.tag

/-- A packet whose last cell has been acknowledged or dropped is no longer in transit here (R478). -/
def State.passed (s : State) (c : FabCell) : State :=
  if c.kind = 0 ∧ c.eop then { s with fab := { s.fab with passing := mdel s.fab.passing c.packet } } else s

/-- The VOQ that a stored cell came from; a cell in transit came from no queue of this device. -/
def State.cellQueue (s : State) (q : QCell) : Option Nat :=
  match q.origin with
  | .stored _ _ _ _ => s.destQueue (q.cell.dest * 1024 + q.cell.port) q.cell.tc
  | _ => none

/-- A DATA cell whose destination has no live member is dropped with IN_FLIGHT_LOST; its packet is counted once, at its first
dropped cell (R264, R426). The length of a packet in transit is not in its cells: the manual gives no figure for it. -/
def State.inFlightLost (s : State) (q : QCell) (at_ : Option Nat) : State :=
  let s0 := match at_ with
    | some l => s.bump R.linkq_IN_FLIGHT_LOST l
    | none => s
  let p := q.cell.packet
  let first := q.cell.kind == 0 && !s.fab.lost.contains p
  let s1 :=
    if !first then s0
    else match q.origin with
      | .stored pid _ _ _ => s0.qmDrop 0x0F (match s0.pkt? pid with
          | some k => k.len
          | none => 0) (s0.cellQueue q) none
      | _ => let (n, u) := s0.free 14; u.qmDrop 0x0F n none none
  let lost := if q.cell.kind ≠ 0 then s1.fab.lost
    else if q.cell.eop then s1.fab.lost.filter (· != p) else if first then p :: s1.fab.lost else s1.fab.lost
  ({ s1 with fab := { s1.fab with lost } }.releaseOrigin q.origin).passed q.cell

/-- A cell joins a link queue. -/
def State.putCell (s : State) (l vl : Nat) (q : QCell) : State :=
  let x := s.link l
  s.setLinkSt l { x with queues := lmodify x.queues vl (fun c => c ++ [{ q with cell := { q.cell with vl } }]) }

/-- A cell is routed (R400, R401): DATA moves up BUMP virtual lanes and is dropped beyond VL 2; MGMT and SCHED use VL 3. `at_` is the
link it leaves, where it is dropped for want of a live member. -/
def State.routeCell (s : State) (q : QCell) (at_ : Option Nat) : State :=
  match s.pickLink q.cell.dest q.cell.hash with
  | none => s.inFlightLost q at_
  | some (l, b) =>
    if q.cell.kind ≠ 0 then s.putCell l 3 q
    else if 2 < q.inVl + b then ((s.bump R.lcnt_VL_OVERFLOW l).releaseOrigin q.origin).passed q.cell
    else s.putCell l (q.inVl + b) q

/-- A link-directed cell (R392). -/
def FabCell.directed (c : FabCell) : Bool := c.dest == 0xFFF

/-- The cells of a link that left UP are handed back to route selection in queue order (R396). -/
def State.handBack (s : State) (l : Nat) : State :=
  let x := s.link l
  let (stay, go) := (x.queues.getD 3 []).partition (fun q => q.cell.directed)
  let s1 := s.setLinkSt l { x with queues := [[], [], [], stay] }
  s1.each ((x.queues.take 3).flatMap id ++ go) (fun t q => t.routeCell q (some l))

/-! ## LINK_STATE (R392) -/

/-- LINK_STATE moves, with its REASON; a change to or from UP is counted, moves routes, and hands back or resets what it must. -/
def State.setLink (s : State) (l st reason : Nat) : State :=
  let old := s.rd R.link_LINK_STATE l
  let s1 := (s.wr R.link_LINK_STATE l st).wr R.link_REASON l reason
  if old = st then s1
  else if old = 7 then
    ((s1.bump32 R.lcnt_LINK_CHANGES l).countRepairs s |>.handBack l).retime
  else if st = 7 then
    let x := s1.link l
    let c := s1.credits l
    let s2 := s1.setLinkSt l { x with granted := [0, 0, 0, 0], charged := [0, 0, 0, 0], said := [0, 0, 0, 0], creditAt := 0
                                      returned := (List.range 4).map (fun v => creditVl c v % 4096), progress := s1.clk.ticks }
    ((s2.bump32 R.lcnt_LINK_CHANGES l).countRepairs s).retime
  else s1

/-- The payload of a link's event (R392). -/
def State.linkPayload (s : State) (l : Nat) : List Nat := [l * 2 ^ 54 + s.rd R.link_NB_ID l % 4096 * 2 ^ 42]

/-- Cells that were outstanding on a link are dropped and counted in CELLS_LOST (R386); the numbers go on from the first of them. -/
def State.loseReplay (s : State) (l : Nat) : State :=
  let x := s.link l
  let next := match x.replay with
    | [] => x.txSeq
    | e :: _ => e.1
  let s1 := (s.setLinkSt l { x with replay := [], resend := [], failed := 0, txSeq := next }).add R.lcnt_CELLS_LOST l x.replay.length
  s1.each x.replay (fun t e => match e.2.origin with
    | .transit _ _ => t.passed e.2.cell
    | _ => t)

/-- A link goes DOWN with a reason. -/
def State.linkDown (s : State) (l reason : Nat) : State := s.setLink l 0 reason

end Sys2Proof.Machine
end

