-- ==== Sys2Proof/Machine/Patterns.lean ====
section
/-! DEFINITION. The test patterns of a lane, its generator and its checker, bit by bit (10_lanes.md R338, R340). -/

namespace Sys2Proof.Machine

/-! ## Patterns (R338) -/

/-- The exponents of a binary pattern's polynomial; PRBS13Q and PRBS31Q are PRBS13 and PRBS31 in the PAM4 coding (log entry 66). -/
def patternTaps (p : Nat) : List Nat :=
  match p with
  | 1 => [7, 6]
  | 2 => [9, 5]
  | 3 | 7 => [13, 12, 2, 1]
  | 4 => [15, 14]
  | 5 => [23, 18]
  | 6 | 8 => [31, 28]
  | _ => []

/-- How many of the last bits sent determine the next one. SQUARE8 needs 8; of SSPRQ the model takes 64 (log entry 66). -/
def patternLen (p : Nat) : Nat := if p = 9 then 64 else if p = 10 then 8 else (patternTaps p).headD 0

/-- The bit that follows the last bits sent, the newest lowest in `r`. -/
def patternNext (p r : Nat) : Nat :=
  if p = 9 then Config.ssprqNext r % 2
  else if p = 10 then 1 - r / 128 % 2
  else (patternTaps p).foldl (fun a t => a + r / 2 ^ (t - 1)) 0 % 2

/-- The last bits, with one more. -/
def patternShift (p r b : Nat) : Nat := (2 * r + b) % 2 ^ patternLen p

/-- Two bits as a Gray-coded PAM4 symbol, the first sent uppermost; and the bits of a symbol. In the NRZ modes a symbol is a bit. -/
def symbolOf (a b : Nat) : Nat := 2 * a + (a + b) % 2
def symbolBits (pam4 : Bool) (x : Nat) : List Nat := if pam4 then [x / 2 % 2, (x + x / 2) % 2] else [x % 2]

/-- Bits as the symbols that carry them. -/
def bitSymbols (pam4 : Bool) : List Nat → List Nat
  | a :: b :: t => if pam4 then symbolOf a b :: bitSymbols pam4 t else a :: b :: t
  | l => if pam4 then [] else l

/-! ## The generator (R338, R340) -/

/-- The generator sends one bit; with bits of an injection left, one in each block of 1,024 is inverted. -/
def LaneTest.sendBit (p : Nat) (x : LaneTest) : Nat × LaneTest :=
  let b := patternNext p x.gen
  let left := x.inject - 1
  let hit := x.inject ≠ 0 && left % 1024 == Config.injectAt x.spot (left / 1024) % 1024
  (if hit then 1 - b else b, { x with gen := patternShift p x.gen b, inject := left })

/-- The generator sends so many bits. -/
def LaneTest.send (p : Nat) (x : LaneTest) : Nat → List Nat × LaneTest
  | 0 => ([], x)
  | n + 1 =>
    let (b, y) := x.sendBit p
    let (bs, z) := y.send p n
    (b :: bs, z)

/-- A generator begins a pattern. The register a pattern starts from is a free value that its sequence holds; SQUARE8 begins with its ones. -/
def LaneTest.regenerate (x : LaneTest) (p f : Nat) : LaneTest :=
  { x with gen := if p = 10 then 0 else 1 + f % (2 ^ patternLen p - 1), inject := 0 }

/-! ## The checker (R340) -/

/-- A checker that seeds itself afresh. -/
def LaneTest.reseed (x : LaneTest) : LaneTest := { x with chk := 0, fill := 0, good := 0, window := 0, wrong := 0 }

/-- A checker over a run of bits: whether it is LOCKED, and what it counted. -/
structure CheckRun where
  test : LaneTest
  locked : Bool
  compared : Nat
  errors : Nat
  resyncs : Nat
deriving DecidableEq, Repr

/-- A LOCKED checker compares a bit: it is counted; with 64 of the last 256 in error the lock is lost and the checker seeds again. -/
def CheckRun.compare (p : Nat) (c : CheckRun) (b : Nat) : CheckRun :=
  let x := c.test
  let want := patternNext p x.chk
  let err := b2n (want != b)
  let wrong := x.wrong + err - x.window / 2 ^ 255
  let c1 := { c with compared := c.compared + 1, errors := c.errors + err }
  if 64 ≤ wrong then { c1 with test := x.reseed, locked := false, resyncs := c.resyncs + 1 }
  else { c1 with test := { x with chk := patternShift p x.chk want, window := (2 * x.window + err) % 2 ^ 256, wrong := wrong } }

/-- A checker receives a bit. One that is not LOCKED follows the received bits, and locks with the 256th in a row that its pattern gives; a
register of zeros is no part of a pseudo-random sequence and seeds nothing. Of SQUARE8 there is a generator only (R338). -/
def CheckRun.bit (p : Nat) (c : CheckRun) (b : Nat) : CheckRun :=
  let x := c.test
  if patternLen p = 0 ∨ p = 10 then c
  else if c.locked then c.compare p b
  else if x.fill < patternLen p then { c with test := { x with chk := patternShift p x.chk b, fill := x.fill + 1 } }
  else
    let good := if patternNext p x.chk = b ∧ x.chk ≠ 0 then x.good + 1 else 0
    let y := { x with chk := patternShift p x.chk b, good := good }
    if good < 256 then { c with test := y } else { c with test := { y with good := 0, window := 0, wrong := 0 }, locked := true }

end Sys2Proof.Machine
end

