-- ==== Sys2Proof/Machine/Lanes.lean ====
section
/-! DEFINITION. Lanes and PHY chiplets: ownership, equalisation, training, reference switches, test patterns, FEC histograms and
die-to-die links (10_lanes.md). -/

namespace Sys2Proof.Machine

/-! ## Owners (R321 to R323) -/

def laneChip (l : Nat) : Nat := l / 96

/-- The map pattern that an octet of lanes selects in the live settings record (R324, R601). -/
def State.octetPattern (s : State) (o : Nat) : Nat :=
  let m := s.setting (895 - 3 * o) (893 - 3 * o)
  s.setting (1279 - 48 * m) (1232 - 48 * m)

/-- A code of a pattern is invalid (R325). -/
def patternBad (p : Nat) : Bool := decide (40319 < bits p 47 32) || decide (40319 < bits p 31 16)

/-- OWNER of a port's and of a link's lanes (R348). -/
def portOwner (p : Nat) : Nat := 2 ^ 14 + p
def linkOwner (l : Nat) : Nat := 2 ^ 15 + l

/-- The function that an OWNER value names. -/
def ownerFn (o : Nat) : Option (Fn × Nat) :=
  if bits o 15 14 = 1 then some (.port, o % 1024) else if bits o 15 14 = 2 then some (.link, o % 1024) else none

/-- The OWNER value of a function that owns lanes. -/
def fnOwner (f : Fn) (n : Nat) : Nat :=
  match f with
  | .port => portOwner n
  | .link => linkOwner n
  | _ => 0

/-- The lanes an owner holds. -/
def State.ownerLanes (s : State) (o : Nat) : List Nat :=
  if o = 0 then [] else ((List.range 8).map (· + o % 1024)).filter (fun l => decide (l < 768) && s.rd R.lane_OWNER l == o)

/-- Lane mode of a PORT_MODE (R354). -/
def portLaneMode (mode : Nat) : Nat :=
  match mode with
  | 1 | 2 | 4 | 6 => 1
  | 3 | 5 | 7 | 8 => 2
  | 9 => 3 | 10 => 4 | 11 => 5 | _ => 0

def State.chipRuns (s : State) (k : Nat) : Bool := s.rd R.chip_STATE k == 3

/-- The state of a lane's owner; OFF when it has none. -/
def State.ownerState (s : State) (lane : Nat) : Nat :=
  match ownerFn (s.rd R.lane_OWNER lane) with
  | some (f, n) => s.fnState f n
  | none => 0

/-- A lane may be under test: its chiplet runs, and it has no owner or a STOPPED one (R339). -/
def State.testAllowed (s : State) (lane : Nat) : Bool :=
  s.chipRuns (laneChip lane) && (s.rd R.lane_OWNER lane == 0 || s.ownerState lane == 1)

/-- Its settings put it under test. -/
def State.testWanted (s : State) (lane : Nat) : Bool :=
  s.on R.ltest_GEN_EN lane || s.on R.ltest_CHK_EN lane || s.rd R.ltest_LOOPBACK lane != 0

/-! ## Equalisation (R333) -/

/-- The default taps: 0, 0, 0, 64, 0. -/
def firDefault : Nat := 64 * 2 ^ 7

/-- The record of the held table for a lane and mode. -/
def State.boardRecord (s : State) (lane mode : Nat) : Option (Nat × Nat) :=
  match s.lan.board with
  | none => none
  | some rs => rs.find? (fun r => bits r.1 63 54 == lane && bits r.1 53 51 == mode)

/-- Bounds of a lane's adaptation: PEAK_MIN, PEAK_MAX, VGA_MAX, DFE1_MAX, of the record it took as it began to train. -/
def State.eqBounds (s : State) (lane : Nat) : Nat × Nat × Nat × Nat :=
  match mget 0 s.lan.bounds lane with
  | 0 => (0, 31, 63, 63)
  | w + 1 => (bits w 54 50, bits w 49 45, bits w 44 39, bits w 38 33)

/-- A lane takes its equalisation for a lane mode: EQ_SOURCE, the taps, and the receiver's starting point, of which the manual gives
the peaking and the DC gain; its gain and first tap are free values within their bounds (R335). The bounds of the record it takes stay with it until it trains again: a load changes nothing meanwhile. -/
def State.equalise (s : State) (lane mode : Nat) : State :=
  let rec_ := s.boardRecord lane mode
  let ov := s.rd R.lane_TX_OVERRIDE lane
  let src := if bit ov 63 then 2 else if rec_.isSome then 0 else 1
  let fir := if bit ov 63 then bits ov 34 0 else match rec_ with
    | some r => bits r.1 47 13
    | none => firDefault
  let (peak, dc) := match rec_ with
    | some r => (bits r.2 63 59, bits r.2 58 55)
    | none => (16, 8)
  let kept := mput 0 s.lan.bounds lane (match rec_ with
    | some r => r.2 + 1
    | none => 0)
  let (f, s1) := { s with lan := { s.lan with bounds := kept } }.free 13
  let (_, _, vga, dfe) := s1.eqBounds lane
  ((s1.wr R.lane_EQ_SOURCE lane src).wr R.lane_TX_FIR lane fir).wr R.lane_RX_EQ lane
    (peak * 2 ^ 59 + dc * 2 ^ 55 + min vga (f / 128) * 2 ^ 49 + toWord 7 (max (-(dfe : Int)) (min dfe (sext 7 (f % 128)))) * 2 ^ 42)

/-- What a receiver reports it adapted to lies within the bounds (R335). -/
def State.eqInBounds (s : State) (lane rx : Nat) : Bool :=
  let (lo, hi, vga, dfe) := s.eqBounds lane
  decide (lo ≤ bits rx 63 59) && decide (bits rx 63 59 ≤ hi) && decide (bits rx 54 49 ≤ vga)
    && decide ((sext 7 (bits rx 48 42)).natAbs ≤ dfe)

/-- A receiver reports the settings it adapted to: they show when they lie within its bounds. The DC gain is none of those that it adapts. -/
def State.adapted (s : State) (lane rx : Nat) : State :=
  if s.eqInBounds lane rx then s.wr R.lane_RX_EQ lane (setBits (rx / 2 ^ 42 * 2 ^ 42) 58 55 (bits (s.rd R.lane_RX_EQ lane) 58 55)) else s

/-- The first slot in which a lane may still count a hit of a bound; after a step of time back, the present one. -/
def State.hitSlot (s : State) (lane : Nat) : Nat :=
  let b := mget 0 s.lan.hitFrom lane
  if s.clk.slot + 1 < b then s.clk.slot else b

/-- Slots in which adaptation held at a bound are counted, each slot once (R335). -/
def State.countHits (s : State) (lane hits : Nat) : State :=
  let n := min hits (s.clk.slot + 1 - s.hitSlot lane)
  if n = 0 then s
  else { s with lan := { s.lan with hitFrom := mput 0 s.lan.hitFrom lane (s.clk.slot + 1) } }.add R.lane_BOUND_HITS lane n

/-- A lane keeps adapting in READY and in TEST (R335, R339). -/
def State.adapting (s : State) (lane : Nat) : Bool :=
  decide (lane < 768) && (s.rd R.lane_TRAIN_STATE lane == 5 || s.rd R.lane_TRAIN_STATE lane == 6)

/-- What an adapting lane reports of the ending epoch: the settings it has reached, within the same bounds. -/
def State.keepsAdapting (s : State) (lane rx : Nat) : State := if s.adapting lane then s.adapted lane rx else s

/-- What it reports besides: the slots of the epoch in which it held at a bound. -/
def State.holdsAtBound (s : State) (lane hits : Nat) : State := if s.adapting lane then s.countHits lane (min hits 16384) else s

/-! ## Tests of a lane (R338 to R340) -/

def State.laneTest (s : State) (lane : Nat) : LaneTest := mget LaneTest.none s.lan.tests lane
def State.setLaneTest (s : State) (lane : Nat) (x : LaneTest) : State :=
  { s with lan := { s.lan with tests := mput LaneTest.none s.lan.tests lane x } }

/-- The generator of a lane begins its pattern. -/
def State.regenerate (s : State) (lane : Nat) : State :=
  let (f, s1) := s.free 64
  s1.setLaneTest lane ((s1.laneTest lane).regenerate (s.rd R.ltest_PATTERN lane) f)

/-- The checker of a lane seeds itself afresh; it is not LOCKED, which is no loss of lock. -/
def State.recheck (s : State) (lane : Nat) : State := (s.setLaneTest lane (s.laneTest lane).reseed).wr R.ltest_LOCKED lane 0

/-! ## Training (R334 to R337) -/

/-- TRAIN_STATE of a lane that is not training: TEST, IDLE or DOWN. Under test it runs in TEST_MODE, with the equalisation of that mode, which
it takes anew as TEST_MODE changes (R334, R339). -/
def State.restLane (s : State) (lane : Nat) : State :=
  let untrained := { s with lan := { s.lan with trainSince := mdel s.lan.trainSince lane } }
  if s.testAllowed lane && s.testWanted lane then
    let m := s.rd R.ltest_TEST_MODE lane
    if s.rd R.lane_TRAIN_STATE lane = 6 ∧ s.rd R.lane_LANE_MODE lane = m then untrained
    else ((((untrained.wr R.lane_LANE_MODE lane m).equalise lane m).wr R.lane_TRAIN_STATE lane 6).regenerate lane).recheck lane
  else
    let s1 := if s.rd R.lane_TRAIN_STATE lane = 6 then ((untrained.setLaneTest lane LaneTest.none).wr R.ltest_LOCKED lane 0).wr R.lane_LANE_MODE lane
        (match ownerFn (s.rd R.lane_OWNER lane) with
          | some (.port, p) => portLaneMode (s.stpOr R.port_PORT_MODE p)
          | some (.link, l) => s.stpOr R.link_LANE_MODE l
          | _ => 0)
      else untrained
    s1.wr R.lane_TRAIN_STATE lane (if s.rd R.lane_OWNER lane ≠ 0 ∧ s.chipRuns (laneChip lane) ∧ s.ownerState lane ≠ 0 then 1 else 0)

/-- Every lane of a chiplet brought to rest. -/
def State.restChip (s : State) (k : Nat) : State := s.each ((List.range 96).map (· + 96 * k)) State.restLane

/-- A write of a test's settings is in effect (R339): a generator begins its pattern, a checker seeds itself afresh, when what they run on
has changed. -/
def State.testWritten (s : State) (lane sub v : Nat) : State :=
  let r : Reg := ⟨R.ltest_PATTERN.index, sub⟩
  let t := s.wr r lane v
  let changed := s.rd r lane != v
  let t1 := if changed && (sub == R.ltest_PATTERN.sub || sub == R.ltest_GEN_EN.sub) then t.regenerate lane else t
  (if changed && (sub == R.ltest_PATTERN.sub || sub == R.ltest_CHK_EN.sub) then t1.recheck lane else t1).restLane lane

/-- A lane has an owner and the owner's lane mode, which shows once the lane is not under test. -/
def State.ownLane (s : State) (lane o mode : Nat) : State :=
  let s1 := s.wr R.lane_OWNER lane o
  (if s.rd R.lane_TRAIN_STATE lane = 6 then s1 else s1.wr R.lane_LANE_MODE lane mode).restLane lane

/-- An owner gives up its lanes (R353, R379). -/
def State.releaseLanes (s : State) (o : Nat) : State := s.each (s.ownerLanes o) (fun t l => t.ownLane l 0 0)

/-- An owner takes lanes in a lane mode; lanes of an octet whose pattern holds an invalid code stay UNUSED (R325). -/
def State.takeLanes (s : State) (o n mode : Nat) : State :=
  if patternBad (s.octetPattern (o % 1024 / 8)) then s
  else s.each ((List.range n).map (· + o % 1024)) (fun t l => t.ownLane l o mode)

/-- A lane begins to train: ACQUIRE, with the equalisation of R333. One training that goes on keeps the time at which it began (R337). -/
def State.acquire (s : State) (goesOn : Bool) (lane : Nat) : State :=
  let s1 := (s.equalise lane (s.rd R.lane_LANE_MODE lane)).wr R.lane_TRAIN_STATE lane 2
  let since := mget 0 s1.lan.trainSince lane
  { s1 with lan := { s1.lan with
      trainSince := mput 0 s1.lan.trainSince lane (if goesOn ∧ since ≠ 0 then since else s1.clk.ticks + 1)
      hitFrom := mput 0 s1.lan.hitFrom lane (max (s1.hitSlot lane) s1.clk.slot) } }

/-- Every lane of an owner begins to train. -/
def State.trainOwner (s : State) (o : Nat) : State := s.each (s.ownerLanes o) (fun t l => t.acquire false l)

/-- What a port transmits in a LINK_STATE (R360): while DOWN, what its lanes send of themselves. -/
def linkSignal (st : Nat) : LineSignal :=
  match st with
  | 0 => .training
  | 1 => .remoteFault
  | 2 => .idle
  | _ => .frames

/-- What a lane transmits (R334, R338, R339, R360). Under test with no generator it sends nothing (log entry 66). -/
def State.laneSends (s : State) (lane : Nat) : LineSignal :=
  match s.rd R.lane_TRAIN_STATE lane with
  | 2 | 3 | 4 => .training
  | 5 => match ownerFn (s.rd R.lane_OWNER lane) with
    | some (.port, p) => linkSignal (s.rd R.port_LINK_STATE p)
    | _ => .cells
  | 6 =>
    if s.rd R.ltest_LOOPBACK lane = 1 then .quiet
    else if s.rd R.ltest_LOOPBACK lane = 2 then .recovered
    else if s.on R.ltest_GEN_EN lane ∧ s.rd R.ltest_PATTERN lane ≠ 0 then .pattern else .quiet
  | _ => .quiet

/-- LINK_STATE of a port moves (R359, R360): counted, posted when it goes to or from UP; with the first UP the port is RUNNING. What the
port transmits follows. -/
def State.setPortLink (s : State) (p st : Nat) : State :=
  let old := s.rd R.port_LINK_STATE p
  if old = st then s
  else
    let s1 := ((s.wr R.port_LINK_STATE p st).bump32 R.port_LINK_CHANGES p).emit (.portSends p (linkSignal st))
    let s2 := if old = 3 ∨ st = 3 then s1.event 0 0x0006 [p * 2 ^ 54 + old * 2 ^ 50 + st * 2 ^ 46] else s1
    let s3 := if old = 3 then s2.linkLost p else s2
    if st = 3 then
      let s4 := s3.wr R.port_LINK_UP_SINCE p s3.slotNo
      if s4.fnState .port p = stStarting then s4.setFn .port p stRunning else s4
    else s3

/-- The lanes of an owner are no longer READY: its link is down (R360, R392). -/
def State.ownerDown (s : State) (o reason : Nat) : State :=
  match ownerFn o with
  | some (.port, p) => s.setPortLink p 0
  | some (.link, l) => if s.rd R.link_LINK_STATE l = 0 then s else s.setLink l 0 reason
  | _ => s

/-- An event of R336 meets an owner: its lanes return to ACQUIRE. While the owner trains, one of its lanes in ACQUIRE, ADAPT or TUNE, the one
training continues and the event is counted; `struck`, that the lane it happened to is in READY or TUNE, brings all of them back to ACQUIRE
within that training (R336, R337). A reference switch abandons the training and begins it anew: `abandon`. -/
def State.retrainOwner (s : State) (o reason : Nat) (abandon struck : Bool) : State :=
  let lanes := s.ownerLanes o
  let training := lanes.any (fun l => decide (2 ≤ s.rd R.lane_TRAIN_STATE l) && decide (s.rd R.lane_TRAIN_STATE l ≤ 4))
  let ready := lanes.any (fun l => s.rd R.lane_TRAIN_STATE l == 5)
  let s1 := s.each lanes (fun t l => t.bump32 R.lane_RETRAINS l)
  if (training && abandon) || (ready && !training) then (s1.trainOwner o).ownerDown o reason
  else if training && struck then (s1.each lanes (fun t l => t.acquire true l)).ownerDown o reason
  else s1

/-- A lane is in READY or TUNE. -/
def State.laneStruck (s : State) (lane : Nat) : Bool := s.rd R.lane_TRAIN_STATE lane == 4 || s.rd R.lane_TRAIN_STATE lane == 5

/-- A link whose lanes are all READY leaves DOWN, unless it is of class CR and a failed reference holds it (REASON REF_FAIL), or the reference
in use is in REF_FAIL (R389, R392). -/
def State.linkAligns (s : State) (l : Nat) : State :=
  let ref := s.rd R.chip_REF_IN_USE (laneChip l)
  let held := s.rd R.link_CLASS l == 0 && ref < 4 && (s.rd R.refm_REF_STATE ref == 2 || s.rd R.link_REASON l == 8)
  if s.fnState .link l = stRunning ∧ s.rd R.link_LINK_STATE l = 0 ∧ !held ∧ !(s.ownerLanes (linkOwner l)).isEmpty ∧
      (s.ownerLanes (linkOwner l)).all (fun x => s.rd R.lane_TRAIN_STATE x == 5) then
    s.setLink l 1 0
  else s

/-- Every lane of an owner is READY: a port leaves DOWN, a link may align (R360, R392). -/
def State.ownerReady (s : State) (o : Nat) : State :=
  if !(s.ownerLanes o).all (fun l => s.rd R.lane_TRAIN_STATE l == 5) then s
  else match ownerFn o with
    | some (.port, p) => if s.rd R.port_LINK_STATE p = 0 then s.setPortLink p 1 else s
    | some (.link, l) => s.linkAligns l
    | _ => s

/-! ## Reference switches (R326 to R328, R337) -/

/-- The reference a chiplet would switch to: its assigned reference that is not in use; 0xFF for none (R326). -/
def State.chipStandby (s : State) (k : Nat) : Nat :=
  if s.rd R.chip_REF_IN_USE k = s.rd R.chip_REF_STANDBY k ∧ s.rd R.chip_REF_IN_USE k < 4 then s.rd R.chip_REF_PRIMARY k
  else s.rd R.chip_REF_STANDBY k

/-- A chiplet runs from a reference: STARTING or RUNNING, its PLL on one. -/
def State.chipLocked (s : State) (k : Nat) : Bool := (s.rd R.chip_STATE k == 2 || s.chipRuns k) && decide (s.rd R.chip_REF_IN_USE k < 4)

/-- The reference that a chiplet in STARTING locks to; none when neither is healthy (R326). -/
def State.chipLock (s : State) (k : Nat) : Option Nat :=
  if s.refHealthy (s.rd R.chip_REF_PRIMARY k) then some (s.rd R.chip_REF_PRIMARY k)
  else if s.refHealthy (s.rd R.chip_REF_STANDBY k) then some (s.rd R.chip_REF_STANDBY k) else none

/-- A switch becomes pending on a chiplet: cause 1 from its reference, 2 from SWITCH_NOW; SWITCH_NOW outlasts the other. -/
def State.pendSwitch (s : State) (k cause : Nat) : State :=
  { s with lan := { s.lan with pendingSw := mput 0 s.lan.pendingSw k (max cause (mget 0 s.lan.pendingSw k)) } }.wr
    R.chip_SWITCH_PENDING k 1

/-- A pending switch is cancelled. -/
def State.cancelSwitch (s : State) (k : Nat) : State :=
  { s with lan := { s.lan with pendingSw := mdel s.lan.pendingSw k } }.wr R.chip_SWITCH_PENDING k 0

/-- A chiplet's pending switch follows its reference (R327, R337): it pends as the reference enters REF_ALERT or REF_FAIL, `was` telling the
states before, and is cancelled when the reference is healthy again. -/
def State.chipRef (s : State) (was : State) (k : Nat) : State :=
  let r := s.rd R.chip_REF_IN_USE k
  if !s.chipLocked k then s
  else
    let st := s.rd R.refm_REF_STATE r
    let want := st != was.rd R.refm_REF_STATE r && (st == 2 || (st == 1 && s.on R.chip_AUTO_SWITCH k))
    if want && s.refHealthy (s.chipStandby k) then s.pendSwitch k 1
    else if mget 0 s.lan.pendingSw k = 1 ∧ st = 0 then s.cancelSwitch k
    else s

/-- A SWITCH_NOW takes effect (R327). -/
def State.requestSwitchNow (s : State) (k : Nat) : State :=
  if s.chipLocked k && s.refHealthy (s.chipStandby k) then s.pendSwitch k 2 else s

/-- The CR links of a chiplet whose reference fails with no healthy standby go DOWN, reason REF_FAIL; their functions run on (R389). -/
def State.refFails (s : State) (k : Nat) : State :=
  let r := s.rd R.chip_REF_IN_USE k
  if s.chipRuns k ∧ r < 4 ∧ s.rd R.refm_REF_STATE r = 2 ∧ !s.refHealthy (s.chipStandby k) then
    s.each ((s.fnsIn .link stRunning).filter (fun l => laneChip l == k && s.rd R.link_CLASS l == 0 && s.rd R.link_REASON l != 8))
      (fun t l => t.setLink l 0 8)
  else s

/-- CR links that a failed reference holds retrain once the reference in use is healthy, by recovery or by a switch (R389). -/
def State.refReturns (s : State) (k : Nat) : State :=
  if s.refHealthy (s.rd R.chip_REF_IN_USE k) then
    s.each ((s.fnsIn .link stRunning).filter (fun l => laneChip l == k && s.rd R.link_REASON l == 8)) (fun t l =>
      ((t.wr R.link_REASON l 0).retrainOwner (linkOwner l) 0 false false))
  else s

/-- Every chiplet looks at its reference after a change of reference states, `was` the state before it. -/
def State.chipRefs (s : State) (was : State) : State :=
  s.each (List.range 8) (fun t k => ((t.chipRef was k).refFails k).refReturns k)

/-- The switch in progress has finished: every lane it waits for is READY or its owner has left RUNNING (one in STARTING trains on), or 100 ms
have passed. -/
def State.switchOver (s : State) (x : ChipSwitch) : Bool :=
  s.past x.since (ticksMs 100) || x.waiting.all (fun l => s.rd R.lane_TRAIN_STATE l == 5 || (s.ownerState l != 2 && s.ownerState l != 3))

/-- A finished switch is counted and ends. Its epoch stays known for the spacing of the next (R327). -/
def State.settleSwitch (s : State) : State :=
  match s.lan.switching with
  | none => s
  | some x =>
    if !x.waiting.isEmpty && s.switchOver x then
      { s with lan := { s.lan with switching := some { x with waiting := [] } } }.bump32 R.chip_SWITCHES x.chip
    else s

/-- The pending chiplet that switches next: the lowest whose standby is healthy (R327). -/
def State.switchNext (s : State) : Option Nat := (s.lan.pendingSw.map (·.1)).find? (fun k => s.refHealthy (s.chipStandby k))

/-- REF_SWITCH (R327): at an epoch boundary, the lowest pending chiplet with a healthy standby switches to it, when the previous switch
has finished and began two epoch boundaries ago or more. Its lanes in READY or TUNE retrain, their owners RUNNING. -/
def State.refSwitch (s : State) (chip : Nat) : State :=
  let s0 := s.settleSwitch
  let epoch := s.clk.slot / 16384
  let clear := match s0.lan.switching with
    | none => true
    | some x => x.waiting.isEmpty && decide (x.epoch + 2 ≤ epoch)
  if !(s.atEpoch && clear && s0.switchNext == some chip) then s0
  else
    let lanes := ((List.range 96).map (· + 96 * chip)).filter (fun l =>
      s0.rd R.lane_TRAIN_STATE l == 4 || s0.rd R.lane_TRAIN_STATE l == 5)
    let owners := (((List.range 96).map (· + 96 * chip)).map (fun l => s0.rd R.lane_OWNER l)).eraseDups.filter (fun o =>
      o != 0 && (s0.ownerLanes o).any (fun l => decide (2 ≤ s0.rd R.lane_TRAIN_STATE l) && decide (s0.rd R.lane_TRAIN_STATE l ≤ 5)))
    let s1 := ((s0.wr R.chip_REF_IN_USE chip (s0.chipStandby chip)).wr R.chip_LAST_SWITCH chip s0.slotNo).cancelSwitch chip
    let s2 := { s1 with lan := { s1.lan with switching := some ⟨chip, epoch, s1.clk.ticks, lanes⟩ } }
    let s3 := s2.each owners (fun t o => t.retrainOwner o 0 true false)
    (if lanes.isEmpty then s3.bump32 R.chip_SWITCHES chip else s3).refReturns chip

/-- REF_SWITCH (R327). -/
def execRefSwitch (chip : Nat) (s : State) : Host.Outcome State Fault Refusal := outcome (chip < 8) s (s.refSwitch chip)

/-! ## Rows: training -/

/-- A tap request of the link partner (R335): applied when it keeps the sum of R331 within 64, else answered as at its limit. -/
def State.tapRequest (s : State) (lane fir : Nat) : State :=
  if firSum fir ≤ 64 then (s.wr R.lane_TX_FIR lane fir).emit (.tapAnswer lane true) else s.emit (.tapAnswer lane false)

/-- LANE_READY (R335, R358, R392): a lane's clock recovery locks and it adapts (`reached` 3), its taps are being tuned at the partner's
request (4), or it is READY (5). `taps` are the partner's requests, `rxEq` what the receiver adapted to, `hits` the slots in which
adaptation held at a bound. -/
def execLaneReady (lane reached : Nat) (taps : List Nat) (rxEq hits : Nat) (s : State) : Host.Outcome State Fault Refusal :=
  outcome (lane < 768 && 3 ≤ reached && reached ≤ 5 && taps.all (· < 2 ^ 35) && rxEq < 2 ^ 64) s <|
    let st := s.rd R.lane_TRAIN_STATE lane
    let tunes := match ownerFn (s.rd R.lane_OWNER lane) with
      | some (.port, p) => s.on R.port_LINK_TRAINING p
      | _ => false
    if st < 2 ∨ 4 < st ∨ reached ≤ st ∨ (reached = 4 ∧ !tunes) then s
    else
      let s1 := s.wr R.lane_TRAIN_STATE lane reached
      let s2 := if tunes ∧ 4 ≤ reached then s1.each taps (fun t f => t.tapRequest lane f) else s1
      let s4 := (s2.adapted lane rxEq).countHits lane hits
      if reached ≠ 5 then s4
      else
        let since := mget 0 s.lan.trainSince lane - 1
        let s5 := s4.wr R.lane_TRAIN_TIME lane ((s.clk.ticks - since) / 1250)
        ({ s5 with lan := { s5.lan with trainSince := mdel s5.lan.trainSince lane } }.ownerReady (s.rd R.lane_OWNER lane)).settleSwitch

/-- CDR_LOSS (R336): a lane in READY or TUNE loses clock recovery lock; every lane of its owner returns to ACQUIRE. -/
def execCdrLoss (lane : Nat) (s : State) : Host.Outcome State Fault Refusal :=
  outcome (lane < 768) s <|
    let st := s.rd R.lane_TRAIN_STATE lane
    if 2 ≤ st ∧ st ≤ 5 then (s.bump32 R.lane_CDR_LOSSES lane).retrainOwner (s.rd R.lane_OWNER lane) 0 false (s.laneStruck lane) else s

/-- A RETRAIN takes effect on a lane (R336). -/
def State.retrainLane (s : State) (lane : Nat) : State :=
  if s.ownerState lane = 3 then s.retrainOwner (s.rd R.lane_OWNER lane) 0 false (s.laneStruck lane) else s

/-! ## Rows: tests (R338 to R340) -/

/-- The bits that a lane's checker hears when its line carries `rx` and its generator sends `sent`: with LOOPBACK NEAR its own (R339). -/
def State.heard (s : State) (lane : Nat) (rx sent : List Nat) : List Nat :=
  (if s.rd R.ltest_LOOPBACK lane = 1 then sent else rx).flatMap (symbolBits (s.rd R.lane_LANE_MODE lane ≤ 3))

/-- The symbols that a lane's generator sends while it receives so many, and the generator after them; none while LOOPBACK is FAR, which
ignores it (R339). -/
def State.generated (s : State) (lane n : Nat) : List Nat × LaneTest :=
  let p := s.rd R.ltest_PATTERN lane
  let pam4 : Bool := s.rd R.lane_LANE_MODE lane ≤ 3
  if s.on R.ltest_GEN_EN lane && p != 0 && s.rd R.ltest_LOOPBACK lane != 2 then
    let (bs, x) := (s.laneTest lane).send p (if pam4 then 2 * n else n)
    (bitSymbols pam4 bs, x)
  else ([], s.laneTest lane)

/-- The levels of `count` symbols, the first received first: each is a bit of `hi`, worth two, and one of `lo`. -/
def levels (count hi lo : Nat) : List Nat := (List.range count).map (fun i => 2 * bits hi (count - 1 - i) (count - 1 - i) + bits lo (count - 1 - i) (count - 1 - i))

/-- The levels of symbols on the balls of a lane that the map inverts, and the other way round (R325): the same as swapping P and N. -/
def State.inverted (s : State) (lane : Nat) (inv : Bool) (line : List Nat) : List Nat :=
  if inv then line.map (fun x => if s.rd R.lane_LANE_MODE lane ≤ 3 then 3 - x else 1 - x % 2) else line

/-- What a lane's checker makes of bits. -/
def State.checked (s : State) (lane : Nat) (x : LaneTest) (bs : List Nat) : CheckRun :=
  bs.foldl (fun c b => c.bit (s.rd R.ltest_PATTERN lane) b) ⟨x, s.on R.ltest_LOCKED lane, 0, 0, 0⟩

/-- CHECKER_LOCK (R338 to R340): a lane under test receives symbols, as many as it sends meanwhile; its checker seeds itself, locks, counts, or
drops its lock. `hi` and `lo` give the levels at the balls, and what is sent is given as it leaves them: an inverted lane negates both (R325). -/
def execCheckerLock (lane count hi lo : Nat) (s : State) : Host.Outcome State Fault Refusal :=
  outcome (lane < 768 && hi < 2 ^ count && lo < 2 ^ count) s <|
    let rx := s.inverted lane (bit (s.rd R.lane_POLARITY lane) 0) (levels count hi lo)
    if s.rd R.lane_TRAIN_STATE lane ≠ 6 then s
    else
      let (sent, x) := s.generated lane rx.length
      let line := if s.rd R.ltest_LOOPBACK lane = 2 then rx else if s.rd R.ltest_LOOPBACK lane = 1 then [] else sent
      let s1 := if line.isEmpty then s else s.emit (.lane lane (s.inverted lane (bit (s.rd R.lane_POLARITY lane) 1) line))
      if !s.on R.ltest_CHK_EN lane then s1.setLaneTest lane x
      else
        let c := s.checked lane x (s.heard lane rx sent)
        ((((s1.setLaneTest lane c.test).wr R.ltest_LOCKED lane (b2n c.locked)).add R.ltest_BITS lane c.compared).add
          R.ltest_ERRORS lane c.errors).wr R.ltest_RESYNCS lane ((s.rd R.ltest_RESYNCS lane + c.resyncs) % 2 ^ 32)

/-- An INJECT takes effect: the generator inverts one bit in each of the next n blocks of 1,024 (R340). Which bit is a free value; a request
while blocks of an earlier one are left asks for the more of the two. -/
def State.injectErrors (s : State) (lane n : Nat) : State :=
  if s.rd R.lane_TRAIN_STATE lane = 6 ∧ s.on R.ltest_GEN_EN lane ∧ s.rd R.ltest_LOOPBACK lane ≠ 2 then
    let (f, s1) := s.free 64
    let x := s1.laneTest lane
    s1.setLaneTest lane { x with inject := max x.inject (1024 * n), spot := f }
  else s

/-- A CLEAR of a lane's test counts takes effect. -/
def State.clearLaneTest (s : State) (lane : Nat) : State :=
  ((s.wr R.ltest_BITS lane 0).wr R.ltest_ERRORS lane 0).wr R.ltest_RESYNCS lane 0

/-! ## FEC histograms (R341, R342, R356) -/

/-- The symbols an owner's FEC corrects: 15 for RS(544,514), 7 for RS(528,514), none where it has neither. -/
def State.fecCorrects (s : State) (o : Nat) : Option Nat :=
  match ownerFn o with
  | some (.port, p) =>
    let m := s.rd R.port_PORT_MODE p
    if 1 ≤ m ∧ m ≤ 9 then some 15 else if m = 10 ∧ s.rd R.port_FEC_MODE p = 0 then some 7 else none
  | some (.link, _) => some 15
  | _ => none

/-- An uncorrectable codeword of a port overlaps so many of its frames: the one that is still arriving, then frames to come; each is bad
under R363 (R356). -/
def State.spoilFrames (s : State) (p frames : Nat) : State :=
  if !s.portUp p then s
  else
    -- an error block is the first check: it names the frame's error before length or FCS does (R363)
    let mark (err : Nat) : Nat := if err = 2 then 2 else 1
    let here := b2n (s.rxBusy p && frames != 0)
    let s1 := if here = 0 then s
      else { s.setInbuf p ((s.inbuf p).map (fun f => if f.tailIn then f else { f with err := mark f.err })) with
        prt := { (s.setInbuf p ((s.inbuf p).map (fun f => if f.tailIn then f else { f with err := mark f.err }))).prt with
          arriving := s.prt.arriving.map (fun x => if x.1 = p then (x.1, x.2.1, x.2.2.1, mark x.2.2.2) else x) } }
    { s1 with prt := { s1.prt with spoilt := mput 0 s1.prt.spoilt p (max (mget 0 s1.prt.spoilt p) (frames - here)) } }

/-- FEC_CODEWORD (R341, R342, R356): the owner whose lowest lane is `lane` decodes a codeword; `syms` are the symbols corrected on each of
its lanes in logical order; of one that could not be corrected, `bad` tells how many of a port's frames it overlaps. -/
def execFecCodeword (lane : Nat) (syms : List Nat) (bad : Option Nat) (s : State) : Host.Outcome State Fault Refusal :=
  outcome (lane < 768 && syms.length ≤ 8) s <|
    let o := s.rd R.lane_OWNER lane
    let k := syms.foldl (· + ·) 0
    match s.fecCorrects o with
    | none => s
    | some most =>
      if o % 1024 ≠ lane ∨ s.rd R.lane_TRAIN_STATE lane ≠ 5 ∨ most < k ∨ syms.length ≠ (s.ownerLanes o).length then s
      else match bad with
      | some frames =>
        let s1 := ((s.bump R.fec_CODEWORDS lane).bump R.fec_UNCORRECTABLE lane).wr R.fec_HIGHEST_BIN lane 16
        let s2 := { s1 with
          lan := { s1.lan with epochBin := mput 0 s1.lan.epochBin lane 16 }
          prt := if bits o 15 14 = 1 then { s1.prt with uncorr := mput 0 s1.prt.uncorr lane (mget 0 s1.prt.uncorr lane + 1) } else s1.prt }
        (if bits o 15 14 = 1 then s2.spoilFrames lane frames else s2).fault (0x020 + laneChip lane) 0x16 lane
      | none =>
        let s1 := ((s.bump R.fec_CODEWORDS lane).bump (Reg.at R.fec_BIN0 k) lane).raise R.fec_HIGHEST_BIN lane k
        let s2 := s1.each syms.zipIdx (fun t e => t.add (Reg.at R.fec_LANE_SYMBOLS0 e.2) lane e.1)
        let top := max k (mget 0 s2.lan.epochBin lane)
        let s3 := { s2 with lan := { s2.lan with epochBin := mput 0 s2.lan.epochBin lane top } }
        if k < s.rd R.fec_MARGIN_SYMBOLS lane then s3
        else
          let s4 := s3.bump R.fec_MARGIN_EVENTS lane
          if s4.lan.margin.contains lane then s4
          else { s4 with lan := { s4.lan with margin := lane :: s4.lan.margin } }.event 0 0x0005 [lane * 2 ^ 54 + top * 2 ^ 48]

/-- An instance of 0x2020 serves an owner: the one whose lowest lane it is, with a FEC of R341. -/
def State.fecServes (s : State) (lane : Nat) : Bool :=
  let o := s.rd R.lane_OWNER lane
  o != 0 && o % 1024 == lane && (s.fecCorrects o).isSome

/-- A CLEAR of a FEC histogram takes effect. -/
def State.clearFec (s : State) (n : Nat) : State :=
  (s.each ((List.range 19).map (· + 1) ++ (List.range 8).map (· + 0x18)) (fun t sub => t.wr ⟨0x2020, sub⟩ n 0)).wr R.fec_MARGIN_EVENTS n 0

/-! ## Die-to-die links (R343 to R346) -/

def State.d2d (s : State) (k : Nat) : D2d := mget D2d.idle s.lan.d2d k
def State.setD2d (s : State) (k : Nat) (x : D2d) : State := { s with lan := { s.lan with d2d := mput D2d.idle s.lan.d2d k x } }

/-- A link that begins anew: its flits gone, the retries of the epoch kept for its end (R344). -/
def D2d.restarted (x : D2d) : D2d := { D2d.idle with retries := x.retries }

/-- A flit is whole: its CRC-32C covers the octets before it, and it carries the number the sender gave it. The manual gives the fields, not
where they lie: the number in the first two octets, the CRC in the last four (log entry 67). -/
def flitGood (seq : Nat) (flit : Octets) : Bool := fieldAt flit 0 2 % 4096 == seq && fieldAt flit 252 4 == crc32c 0xFFFFFFFF (flit.take 252)

/-- One direction of a die-to-die link: the flit expected next, flits sent and not delivered, failures in a row of the next one. -/
def D2d.side (x : D2d) (toCore : Bool) : Nat × Nat × Nat := if toCore then (x.next0, x.held0, x.fails0) else (x.next1, x.held1, x.fails1)
def D2d.setSide (x : D2d) (toCore : Bool) (next held fails : Nat) : D2d :=
  if toCore then { x with next0 := next, held0 := held, fails0 := fails } else { x with next1 := next, held1 := held, fails1 := fails }

/-- The flit that is due fails (R343, R346): it is discarded, a negative acknowledgement is sent and counted, and the sender replays from it
on; one that fails 16 times in a row makes the link retrain, the replay buffer kept. -/
def State.flitFails (s : State) (chip : Nat) (toCore : Bool) : State :=
  let x := s.d2d chip
  let (next, held, fails) := x.side toCore
  let y := { x.setSide toCore next (max 1 held) (fails + 1) with retries := x.retries + 1 }
  let s1 := ((s.bump R.d2d_RETRIES chip).emit (.flitNak chip toCore next)).emit (.flitReplay chip toCore next (max 1 held))
  if fails + 1 < 16 then s1.setD2d chip y
  else ((s1.setD2d chip { y with fails0 := 0, fails1 := 0 }).wr R.d2d_LINK_STATE chip 1).bump32 R.d2d_RETRAINS chip

/-- FLIT_RECEIVED (R343, R346): a flit of chiplet `chip` arrives, toward the core or from it: `seq` is the number the sender gave it, `flit`
its 256 octets as received. The expected flit is delivered when it is whole; a later one is discarded until those before it have been
delivered; one from beyond the 512 of the replay buffer, or delivered before, is none of these. -/
def execFlitReceived (chip : Nat) (toCore : Bool) (seq : Nat) (flit : Octets) (s : State) : Host.Outcome State Fault Refusal :=
  outcome (chip < 8 && seq < 4096 && flit.length == 256 && flit.all (· < 256)) s <|
    let x := s.d2d chip
    let (next, held, fails) := x.side toCore
    let ahead := (seq + 4096 - next) % 4096
    if s.rd R.d2d_LINK_STATE chip ≠ 2 ∨ 512 ≤ ahead then s
    else if ahead ≠ 0 then s.setD2d chip (x.setSide toCore next (max held (ahead + 1)) fails)
    else if flitGood seq flit then
      (s.setD2d chip (x.setSide toCore ((next + 1) % 4096) (held - 1) 0)).bump (if toCore then R.d2d_FLITS_TX else R.d2d_FLITS_RX) chip
    else s.flitFails chip toCore

/-- RETRIES_LAST_EPOCH and D2D_RETRY of a link at an epoch boundary (R344). -/
def State.d2dEpoch (s : State) (k : Nat) : State :=
  let n := (s.d2d k).retries
  let s1 := (s.setD2d k { s.d2d k with retries := 0 }).wr R.d2d_RETRIES_LAST_EPOCH k (min n (2 ^ 32 - 1))
  if s.rd R.d2d_RETRY_LIMIT k < n then s1.fault (0x020 + k) 0x17 (n % 2 ^ 32) else s1

end Sys2Proof.Machine
end

