-- ==== Sys2Proof/Machine/Ports.lean ====
section
/-! DEFINITION. Ports' links and the I2C controllers: LINK_STATE, training timeouts, degraded ports, receive offset, counters, I2C
commands (11_ethernet_ports.md R358 to R377). -/

namespace Sys2Proof.Machine

/-! ## Links of ports (R358 to R362) -/

/-- The lanes of an owner are all READY. -/
def State.lanesReady (s : State) (o : Nat) : Bool :=
  !(s.ownerLanes o).isEmpty && (s.ownerLanes o).all (fun l => s.rd R.lane_TRAIN_STATE l == 5)

/-- LINK_STATE_CHANGE (R360): the PCS of a port is or is not aligned, and receives no fault sequences (0), local (1) or remote (2). -/
def execLinkStateChange (port : Nat) (aligned : Bool) (fault : Nat) (s : State) : Host.Outcome State Fault Refusal :=
  outcome (port < 768 && fault ≤ 2) s <|
    s.setPortLink port
      (if !s.lanesReady (portOwner port) then 0 else if !aligned || fault == 1 then 1 else if fault = 2 then 2 else 3)

/-- TRAIN_TIMEOUT (R358): the time of a port in STARTING runs out; it returns to STOPPED, its lanes to IDLE. -/
def execTrainTimeout (port : Nat) (s : State) : Host.Outcome State Fault Refusal :=
  outcome (port < 768) s <|
    let limit := s.rd R.port_TRAIN_TIMEOUT port
    if s.fnState .port port = stStarting ∧ limit ≠ 0 ∧ limit * 1000000 ≤ (s.slotNo - s.rd R.port_STATE_SINCE port) * 64 then
      let s1 := (s.setPortLink port 0).startFailed .port port
      s1.each (s1.ownerLanes (portOwner port)) State.restLane
    else s

/-- A CLEAR of a port's counters takes effect (R369). -/
def State.clearPort (s : State) (p : Nat) : State := s.each (List.range 22) (fun t i => t.wr (Reg.at R.pcnt_RX_FRAMES i) p 0)

/-- A port at an epoch boundary compares its uncorrectable codewords with DEGRADE_LIMIT (R361). -/
def State.degradePort (s : State) (p : Nat) : State :=
  let n := mget 0 s.prt.uncorr p
  let limit := s.rd R.port_DEGRADE_LIMIT p
  let s1 := { s with prt := { s.prt with uncorr := mdel s.prt.uncorr p } }
  if limit = 0 ∨ n < limit then { s1 with prt := { s1.prt with degraded := mdel s1.prt.degraded p } }
  else
    let run := mget 0 s1.prt.degraded p + 1
    if run < s.rd R.port_DEGRADE_EPOCHS p then { s1 with prt := { s1.prt with degraded := mput 0 s1.prt.degraded p run } }
    else
      ({ s1 with prt := { s1.prt with degraded := mdel s1.prt.degraded p } }.bump32 R.port_DEGRADE_RETRAINS p).retrainOwner
        (portOwner p) 0 false false

/-- The ports at an epoch boundary (R361): a run of epochs ends with a port that does not run, and the next epoch counts from zero. -/
def State.degradePorts (s : State) : State :=
  let on := s.fnsIn .port stRunning
  let s1 := s.each on State.degradePort
  { s1 with prt := { s1.prt with uncorr := [], degraded := s1.prt.degraded.filter (fun e => on.contains e.1) } }

/-- RX_PPM of a port as clock recovery measured it in the ending epoch (R362). -/
def State.rxPpm (s : State) (p : Nat) (ppb : Int) : State :=
  if 768 ≤ p ∨ !s.lanesReady (portOwner p) then s
  else
    let s1 := s.wrI R.port_RX_PPM p (clampInt (-2147483648) 2147483647 ppb)
    if 100000 < ppb.natAbs then s1.event 0 0x0007 [p * 2 ^ 54 + s1.rd R.port_RX_PPM p] else s1

/-! ## I2C (R372 to R377) -/

/-- A STATUS word (R376). -/
def i2cStatus (busy done : Bool) (code seq bytes : Nat) : Nat :=
  b2n busy * 2 ^ 63 + b2n done * 2 ^ 62 + code * 2 ^ 48 + seq * 2 ^ 32 + bytes

/-- LENGTH and OFFSET of a command suit its opcode (R376). -/
def i2cArgOk (op addr : Nat) : Bool :=
  let len := bits addr 7 0
  let off := bits addr 15 8
  if op = 3 then len == 0 else decide (1 ≤ len) && decide (len ≤ 128) && decide (off + len ≤ 256)

/-- The 128 data bytes as the DATA words hold them (R373). -/
def State.i2cData (s : State) (bus : Nat) : Octets := (List.range 16).flatMap (fun i => toBE 8 (s.rd (Reg.at R.i2c_DATA0 i) bus))

/-- The DATA words with bytes written from byte 0 on. -/
def State.setI2cData (s : State) (bus : Nat) (bs : Octets) : State :=
  let all := patch (s.i2cData bus) 0 bs
  s.each (List.range 16) (fun t i => t.wr (Reg.at R.i2c_DATA0 i) bus (fieldAt all (8 * i) 8))

/-- BUS_STATE as it stands between commands. -/
def State.i2cStuck (s : State) (bus : Nat) : Bool := s.rd R.i2c_BUS_STATE bus == 2

/-- A write of CMD is applied (R373): the command begins with ADDR and DATA as they stand; one with a bad length ends at once. -/
def State.acceptI2c (s : State) (bus val addr : Nat) (data : Octets) : State :=
  let op := bits val 63 56
  let seq := bits val 15 0
  if !i2cArgOk op addr then s.wr R.i2c_STATUS bus (i2cStatus false true 8 seq 0)
  else
    let c : I2cCmd := ⟨op, seq, addr, data, s.clk.ticks, s.i2cStuck bus⟩
    (({ s with prt := { s.prt with i2c := mins s.prt.i2c bus c } }).wr R.i2c_BUS_STATE bus 1).wr R.i2c_STATUS bus
      (i2cStatus true false 0 seq 0)

/-- A command ends: its outcome, and BUS_STATE after it. -/
def State.endI2c (s : State) (bus : Nat) (c : I2cCmd) (code bytes bus_ : Nat) : State :=
  let s1 := ({ s with prt := { s.prt with i2c := mdel s.prt.i2c bus } }).wr R.i2c_BUS_STATE bus bus_
  let s2 := s1.wr R.i2c_STATUS bus (i2cStatus false true code c.seq bytes)
  if 1 ≤ code ∧ code ≤ 3 then s2.bump32 R.i2c_NACKS bus else s2

/-- The octets a command puts on the bus, in order, each with the code that ends the command when it is not acknowledged: those of the
multiplexer 1, addresses and the page select 2, OFFSET and data 3 (R373, R376). -/
def I2cCmd.octets (c : I2cCmd) : List (Nat × Nat) :=
  let a := c.addr
  let target := bits a 39 33 * 2
  let mux := if bit a 48 then [(bits a 55 49 * 2, 1), (bits a 47 40, 1)] else []
  let page := if bit a 32 then [(target, 2), (0x7E, 2), (bits a 31 24, 2), (bits a 23 16, 2)] else []
  let access := match c.op with
    | 1 => [(target, 2), (bits a 15 8, 3), (target + 1, 2)]
    | 2 => [(target, 2), (bits a 15 8, 3)] ++ (c.data.take (bits a 7 0)).map (fun x => (x, 3))
    | _ => [(target, 2)]
  mux ++ page ++ access

/-- What a command put on the bus by its end: its first `put` octets. -/
def I2cCmd.sent (c : I2cCmd) (put : Nat) : Octets := (c.octets.take put).map (·.1)

/-- Data bytes that a command stopped by a line can have transferred after `put` octets: a READ's all come after its own octets; a WRITE's are
those before the last octet, and that one too when it was acknowledged. -/
def I2cCmd.moved (c : I2cCmd) (put bytes : Nat) : Bool :=
  let len := bits c.addr 7 0
  let all := c.octets.length
  match c.op with
  | 1 => decide (bytes ≤ len) && (bytes == 0 || put == all)
  | 2 => decide (put - 1 - (all - len) ≤ bytes) && decide (bytes ≤ put - (all - len))
  | _ => bytes == 0

/-- An outcome a command can have: its code, the octets it put on the bus, and the bytes transferred before it (R372, R373, R376). -/
def I2cCmd.canEnd (c : I2cCmd) (code put bytes : Nat) : Bool :=
  decide (put ≤ c.octets.length) && (match code with
    | 0 => put == c.octets.length && bytes == bits c.addr 7 0
    | 1 | 2 | 3 => put != 0 && (c.octets[put - 1]?).map (·.2) == some code
      && bytes == (if c.op = 2 then put - 1 - (c.octets.length - bits c.addr 7 0) else 0)
    | 6 => c.moved put bytes
    | _ => false)

/-- Bus recovery of a command (R374): `pulses` is 0 when SDA was high at idle, 1 to 9 the pulse after which it read high, more when it
was still low after the ninth. True when the command goes on. -/
def State.recoverI2c (s : State) (bus pulses : Nat) (c : I2cCmd) : Bool × State :=
  let n := if c.stuck then max 1 pulses else pulses
  if n = 0 then (true, s)
  else
    let s1 := s.emit (.i2c bus 0 [min 9 n])
    if 9 < n then
      (false, ((((s1.bump32 R.i2c_STUCK_COUNT bus).endI2c bus c 5 0 2).fault (0x050 + bus) 0x1C 0).event 0 0x0008 [bus]))
    else
      let s2 := s1.bump32 R.i2c_RECOVERIES bus
      (true, if c.stuck then s2.event 0 0x0009 [bus] else s2)

/-- A command of opcode `op` runs to its end, with what the lines and the targets answered. -/
def State.runI2c (s : State) (op bus pulses : Nat) (ends : I2cStop) (bytes : Nat) (data : Octets) : State :=
  match mfind s.prt.i2c bus with
  | none => s
  | some c =>
    if c.op ≠ op then s
    else if 9 < pulses then (s.recoverI2c bus pulses c).2
    else if !c.canEnd ends.code ends.put bytes then s
    else
      let s1 := (s.recoverI2c bus pulses c).2
      let s2 := s1.emit (.i2c bus op (c.sent ends.put))
      let s3 := if op = 1 then s2.setI2cData bus (slice data 0 bytes) else s2
      s3.endI2c bus c ends.code bytes 0

/-- I2C_READ (R373, R374): the READ that a bus runs takes place. `pulses` tells of the idle check, `ends` and `bytes` of the outcome:
the completion code, the octets put on the bus and the data bytes transferred; `data` are the bytes the target sent. -/
def execI2cRead (bus pulses : Nat) (ends : I2cStop) (bytes : Nat) (data : Octets) (s : State) : Host.Outcome State Fault Refusal :=
  outcome (bus < 4 && bytes ≤ 128) s (s.runI2c 1 bus pulses ends bytes data)

/-- I2C_WRITE (R373). -/
def execI2cWrite (bus pulses : Nat) (ends : I2cStop) (bytes : Nat) (s : State) : Host.Outcome State Fault Refusal :=
  outcome (bus < 4 && bytes ≤ 128) s (s.runI2c 2 bus pulses ends bytes [])

/-- I2C_PROBE (R373). -/
def execI2cProbe (bus pulses : Nat) (ends : I2cStop) (s : State) : Host.Outcome State Fault Refusal :=
  outcome (bus < 4) s (s.runI2c 3 bus pulses ends 0 [])

/-- Octets that the lines carried before an abort and that the manual does not give. -/
def State.freeOctets : State → Nat → Octets × State
  | s, 0 => ([], s)
  | s, n + 1 =>
    let (b, s1) := s.free 8
    let (bs, s2) := s1.freeOctets n
    (b :: bs, s2)

/-- A RESET takes effect (R375): the command in progress ends ABORTED, both lines are released and BUS_STATE is IDLE. How many bytes it
had transferred by then is a free value, and so are the bytes of a READ. -/
def State.resetI2c (s : State) (bus : Nat) : State :=
  match mfind s.prt.i2c bus with
  | none => s.wr R.i2c_BUS_STATE bus 0
  | some c =>
    let (n, s1) := s.free 8
    let bytes := n % (bits c.addr 7 0 + 1)
    let (bs, s2) := if c.op = 1 then s1.freeOctets bytes else ([], s1)
    ((if c.op = 1 then s2.setI2cData bus bs else s2).endI2c bus c 7 bytes 0)

/-- SCL_TIMEOUT (R374, R375): a target holds SCL low beyond STRETCH_LIMIT; the command ends, after `ends.put` octets on the bus and
`ends.bytes` data bytes. `ends.pulses` 1 to 9 says that the bus was recovered first; a bus that was STUCK and was not stays so. -/
def execSclTimeout (bus : Nat) (ends : SclStop) (data : Octets) (s : State) : Host.Outcome State Fault Refusal :=
  outcome (bus < 4 && ends.pulses ≤ 9) s <|
    let pulses := ends.pulses
    let put := ends.put
    let bytes := ends.bytes
    match mfind s.prt.i2c bus with
    | none => s
    | some c =>
      let held := c.stuck && pulses == 0
      if c.octets.length < put ∨ !c.moved put bytes ∨ (held ∧ put ≠ 0) ∨ !s.past c.since (ticksUs (s.rd R.i2c_STRETCH_LIMIT bus)) then s
      else
        let s1 := if pulses = 0 then s else (s.recoverI2c bus pulses c).2
        let s2 := if put = 0 then s1 else s1.emit (.i2c bus c.op (c.sent put))
        let s3 := if c.op = 1 then s2.setI2cData bus (slice data 0 bytes) else s2
        s3.endI2c bus c 4 bytes (if held then 2 else 0)

end Sys2Proof.Machine
end

