-- ==== Sys2Proof/Machine/Fabric.lean ====
section
/-! DEFINITION. Xanla Links above their line code: cells, retry, credit, rate matching, the Solder handshake, identity, assignment of
device IDs, fencing, and the management cells that carry remote operations (12_fabric.md R380 to R403; 02_object_dictionary.md R68
to R71). -/

namespace Sys2Proof.Machine

/-! ## Cells (R382, R383) -/

/-- The twelve header bytes ahead of the CRC. -/
def FabCell.header (c : FabCell) : Octets :=
  toBE 12 (c.kind % 4 * 2 ^ 94 + c.dest % 4096 * 2 ^ 82 + c.port % 1024 * 2 ^ 72 + c.tc % 8 * 2 ^ 69 + c.vl % 4 * 2 ^ 67
    + c.gen % 2 * 2 ^ 66 + b2n c.sop * 2 ^ 65 + b2n c.eop * 2 ^ 64 + b2n c.badTail * 2 ^ 63 + b2n c.ecn * 2 ^ 62
    + c.hash % 65536 * 2 ^ 46 + c.src % 4096 * 2 ^ 34 + c.tag % 4096 * 2 ^ 22 + c.index % 128 * 2 ^ 15
    + c.count % 512 * 2 ^ 6 + c.hops % 8 * 2 ^ 3)

/-- The CRC of a cell, over header bytes 0 to 11 and the 256 payload bytes. -/
def cellCrc (header payload : Octets) : Nat := crc32c 0xFFFFFFFF (header.take 12 ++ payload)

/-- A cell's sixteen header bytes. -/
def FabCell.headerBytes (c : FabCell) : Octets := c.header ++ toBE 4 (cellCrc c.header (slice c.payload 0 256))

/-- The cell that sixteen header bytes and a payload spell. -/
def parseCell (header payload : Octets) : FabCell :=
  let h := fieldAt header 0 12
  { kind := bits h 95 94, dest := bits h 93 82, port := bits h 81 72, tc := bits h 71 69, vl := bits h 68 67, gen := bits h 66 66
    sop := bit h 65, eop := bit h 64, badTail := bit h 63, ecn := bit h 62, hash := bits h 61 46, src := bits h 45 34
    tag := bits h 33 22, index := bits h 21 15, count := bits h 14 6, hops := bits h 5 3, payload }

/-- The next packet number toward a device. -/
def State.nextTag (s : State) (d : Nat) : Nat × State :=
  let t := mget 0 s.fab.tags d
  (t, { s with fab := { s.fab with tags := mput 0 s.fab.tags d ((t + 1) % 4096) } })

/-- A MGMT (1) or SCHED (2) cell toward a device: one cell, whose flow hash, and TC where it is MGMT, the manual does not give. -/
def State.oneCell (s : State) (kind dest : Nat) (payload : Octets) : FabCell × State :=
  let (t, s1) := s.nextTag dest
  let (f, s2) := s1.free 19
  ({ kind, dest, port := 0x3FF, tc := if kind = 2 then 0 else f / 65536, vl := 3, gen := s.rd R.gen_CURRENT 0 % 2, sop := true, eop := true
     badTail := false, ecn := false, hash := f % 65536, src := s.myId, tag := t, index := 0, count := payload.length % 512, hops := 0
     payload := slice payload 0 256 }, s2)

/-- A MGMT cell leaves: link-directed on a link, or by route (R402). -/
def State.sendMgmt (s : State) (dest : Nat) (payload : Octets) (link : Option Nat) : State :=
  match link with
  | some l =>
    let (c, s1) := s.oneCell 1 0xFFF payload
    s1.putCell l 3 ⟨c, .built, 0, 0, 0⟩
  | none =>
    let (c, s1) := s.oneCell 1 dest payload
    s1.routeCell ⟨c, .built, 0, 0, 0⟩ none

/-! ## Acknowledgement and replay (R385, R386) -/

/-- An ACK_SEQ acknowledges every SEQ up to it; with progress the retrains in a row start again. -/
def State.acked (s : State) (l ackSeq : Nat) : State :=
  let x := s.link l
  let done (seq : Nat) : Bool := decide ((ackSeq + 4096 - seq) % 4096 < 2048)
  let (gone, stay) := x.replay.partition (fun e => done e.1)
  if gone.isEmpty then s
  else
    let s1 := s.setLinkSt l { x with
      replay := stay, resend := x.resend.filter (fun q => !done q), progress := s.clk.ticks, failed := 0 }
    s1.each gone (fun t e => match e.2.origin with
      | .transit _ _ => t.passed e.2.cell
      | _ => t)

/-- Everything outstanding is to be sent again, oldest first. -/
def State.resendAll (s : State) (l : Nat) : State :=
  let x := s.link l
  s.setLinkSt l { x with resend := x.replay.map (·.1), progress := s.clk.ticks }

/-- ACK_RECEIVED (R380, R385): an ACK block of a link, ACK_SEQ and NAK in its payload. After a NAK the sender resends from ACK_SEQ + 1. -/
def execAckReceived (link : Nat) (head rest : Octets) (s : State) : Host.Outcome State Fault Refusal :=
  outcome (link < 768 && head.length == 2 && payloadOk (head ++ rest)) s <|
    if s.rd R.link_LINK_STATE link < 2 then s
    else
      let s1 := s.acked link (bits (blockPayload (head ++ rest)) 55 44)
      if bit (blockPayload (head ++ rest)) 43 then s1.resendAll link else s1

/-- REPLAY_TIMEOUT (R385): no progress of acknowledgement for 5 µs while cells are outstanding. -/
def execReplayTimeout (link : Nat) (s : State) : Host.Outcome State Fault Refusal :=
  outcome (link < 768) s <|
    let x := s.link link
    if x.replay.isEmpty ∨ !s.past x.progress (ticksUs 5) ∨ s.rd R.link_LINK_STATE link < 2 then s else s.resendAll link

/-- An ACK block: ACK_SEQ and NAK (R380). -/
def ackBlock (l ackSeq : Nat) (nak : Bool) : Out := .block l 0x21 (blockOctets (ackSeq * 2 ^ 44 + b2n nak * 2 ^ 43))

/-- An ACK block goes out: the last accepted SEQ. -/
def State.sendAck (s : State) (l : Nat) (nak : Bool) : State := s.sendUnit l 1 (ackBlock l (((s.link l).rxSeq + 4095) % 4096) nak)

/-- A cell is discarded by the receiver: NAK on the first discard while a SEQ is expected. -/
def State.nak (s : State) (l : Nat) : State :=
  let x := s.link l
  if x.nakAt.isSome then s else (s.setLinkSt l { x with nakAt := some s.clk.ticks }).sendAck l true

/-- NAK_REPEAT (R385): the SEQ that was missed has not arrived 5 µs later. -/
def execNakRepeat (link : Nat) (s : State) : Host.Outcome State Fault Refusal :=
  outcome (link < 768) s <|
    match (s.link link).nakAt with
    | none => s
    | some t =>
      if s.past t (ticksUs 5) then (s.setLinkSt link { s.link link with nakAt := some s.clk.ticks }).sendAck link true else s

/-- One SEQ has been resent 16 times (R386): the lanes retrain with the replay buffer kept; when three retrains in a row did not help,
the link goes DOWN and its outstanding cells are lost. -/
def State.resendFails (s : State) (l : Nat) : State :=
  let x := s.link l
  if 3 ≤ x.failed then
    ((s.loseReplay l).setLink l 0 9).fault (0x020 + laneChip l) 0x19 l
  else
    let s1 := s.setLinkSt l { x with failed := x.failed + 1, replay := x.replay.map (fun e => (e.1, { e.2 with resent := 0 })) }
    (s1.bump32 R.lcnt_RETRAINS l).retrainOwner (linkOwner l) 0 false false

/-! ## Credit (R387) -/

/-- Credits that a sender has left on a VL. -/
def LinkSt.credit (x : LinkSt) (vl : Nat) : Nat := (x.granted.getD vl 0 + 4096 - x.charged.getD vl 0 % 4096) % 4096

/-- The cumulative counts by VL of a CREDIT block's payload, and the block that carries them (R380). -/
def creditCounts (p : Nat) : List Nat := [bits p 55 44, bits p 43 32, bits p 31 20, bits p 19 8]
def creditBlock (l : Nat) (counts : List Nat) : Out :=
  .block l 0x22 (blockOctets (counts.getD 0 0 * 2 ^ 44 + counts.getD 1 0 * 2 ^ 32 + counts.getD 2 0 * 2 ^ 20 + counts.getD 3 0 * 2 ^ 8))

/-- CREDIT_RECEIVED (R380, R387): a CREDIT block. -/
def execCreditReceived (link : Nat) (payload : Octets) (s : State) : Host.Outcome State Fault Refusal :=
  outcome (link < 768 && payloadOk payload) s <|
    if s.rd R.link_LINK_STATE link < 2 then s
    else s.setLinkSt link { s.link link with granted := creditCounts (blockPayload payload) }

/-- A CREDIT block is due: a count has moved by 16, or 1 µs has passed since the last. -/
def State.creditDue (s : State) (l : Nat) : Bool :=
  let x := s.link l
  s.past x.creditAt (ticksUs 1)
    || (List.range 4).any (fun v => decide (16 ≤ (x.returned.getD v 0 + 4096 - x.said.getD v 0) % 4096))

/-- CREDIT_SEND (R387). While the chiplet's die-to-die link trains, no credit goes to the partner, which is so held (R346). -/
def execCreditSend (link : Nat) (s : State) : Host.Outcome State Fault Refusal :=
  outcome (link < 768) s <|
    if s.linkIsUp link && s.creditDue link && s.rd R.d2d_LINK_STATE (laneChip link) != 1 then
      let x := s.link link
      (s.setLinkSt link { x with said := x.returned, creditAt := s.clk.ticks }).sendUnit link 1 (creditBlock link x.returned)
    else s

/-! ## Rate matching (R388, R389) -/

/-- A link's function runs and its receiver has alignment. -/
def State.linkReceives (s : State) (l : Nat) : Bool := s.fnState .link l == stRunning && decide (2 ≤ s.rd R.link_LINK_STATE l)

/-- FILLER_RECEIVED (R388): an IR receiver passes a FILLER block on (`action` 0), deletes it (1), or inserts one more beside it (2); or it
deletes an IDLE block (3), or inserts FILLER between two other units (4). -/
def execFillerReceived (link action : Nat) (s : State) : Host.Outcome State Fault Refusal :=
  outcome (link < 768 && action < 5) s <|
    if !s.linkReceives link ∨ s.rd R.link_CLASS link ≠ 1 then s
    else
      let x := s.link link
      s.setLinkSt link { x with
        fillRx := x.fillRx + b2n (decide (action < 3))
        fillDel := x.fillDel + b2n (action == 1)
        deleted := x.deleted + b2n (action == 1 || action == 3)
        inserted := x.inserted + b2n (action == 2 || action == 4) }

/-- ELASTIC_SLIP (R388, R389): the elastic buffer slips. A CR link goes DOWN; an IR link loses a block. -/
def execElasticSlip (link : Nat) (s : State) : Host.Outcome State Fault Refusal :=
  outcome (link < 768) s <|
    if !s.linkReceives link then s
    else if s.rd R.link_CLASS link = 0 then s.setLink link 0 7
    else s.bump R.lcnt_ELASTIC_SLIPS link

/-- UNKNOWN_BLOCK (R380): a control block of a type the table does not give, or a data block outside a cell. -/
def execUnknownBlock (link : Nat) (s : State) : Host.Outcome State Fault Refusal :=
  outcome (link < 768) s <| if s.linkReceives link then s.bump R.lcnt_UNKNOWN_BLOCKS link else s

/-- An IR receiver at an epoch boundary: its filler figures (R389). -/
def State.fillerEpoch (s : State) (l : Nat) : State :=
  let x := s.link l
  if s.rd R.link_CLASS l ≠ 1 ∨ !s.linkReceives l then s
  else
    let use := if x.fillRx = 0 then 0 else openDiv (x.fillDel * 1000) x.fillRx
    let s1 := (s.setLinkSt l { x with
      fillRx := 0, fillDel := 0, deleted := 0, inserted := 0, lastDeleted := x.deleted, lastInserted := x.inserted }).wr R.lcnt_FILLER_USE l use
    if s.rd R.link_FILLER_WATERMARK l ≤ use then (s1.event 0 0x0011 (s1.linkPayload l)).fault (0x020 + laneChip l) 0x1A l else s1

/-! ## Solder (R390 to R397) -/

/-- An identity entry was written (R397): the checks run again at the next valid hello of every link whose neighbour claims it. -/
def State.identityWritten (s : State) (d : Nat) : State :=
  { s with fab := { s.fab with links := s.fab.links.map (fun (e : Nat × LinkSt) =>
      (e.1, match e.2.hello with
        | some h => if h.id = d then { e.2 with recheck := true } else e.2
        | none => e.2)) } }

/-- An identity entry written by the device: valid, with a serial and an incarnation. -/
def State.setIdentity (s : State) (d serial inc : Nat) : State :=
  (((s.wr R.idn_VALID d 1).wr R.idn_SERIAL d serial).wr R.idn_INCARNATION d inc).identityWritten d

/-- This device takes a device ID, with its own identity entry (R399). -/
def State.takeId (s : State) (id manager : Nat) : State :=
  ((s.wr R.ident_DEVICE_ID 0 id).wr R.fab_MANAGER_ID 0 manager).setIdentity id (s.rd R.ident_SERIAL 0) (s.rd R.ident_INCARNATION 0)

/-- SET_ID takes effect: the device gives itself its own ID (R399). -/
def State.setIdEffect (s : State) (id : Nat) : State := s.takeId id id

/-- A valid hello was received in the last DEAD_INTERVAL. -/
def State.seen (s : State) (l : Nat) : Bool :=
  (s.link l).hello.isSome && !s.past (s.link l).helloAt (ticksUs (s.rd R.fab_DEAD_INTERVAL 0))

/-- A flag of a hello: bit 7 MGMT_LOST, 6 FIXED_ID, 5 SEEN, 4 FENCED. -/
def Hello.flag (h : Hello) (i : Nat) : Bool := bit h.flags i

/-- The checks of CHECKING on the neighbour's last hello (R393): LINK_STATE, REASON, VERSION, and what is posted (0 nothing, 4
NEIGHBOUR_NEW, 5 STALE_SPEAKER, 6 NEIGHBOUR_REBORN). -/
def State.solder (s : State) (l : Nat) (h : Hello) : Nat × Nat × Nat × Nat :=
  let d := h.id
  let v := min (s.rd R.fab_VERSION_MAX 0) h.verMax
  if v < max (s.rd R.fab_VERSION_MIN 0) h.verMin then (5, 1, 0, 0)
  else if h.cls ≠ s.rd R.link_CLASS l then (5, 2, 0, 0)
  else if d = s.myId ∧ h.serial = s.rd R.ident_SERIAL 0 then (5, 3, 0, 0)
  else if d = 0xFFF ∨ !s.on R.idn_VALID d then (4, 0, 0, 4)
  else if h.serial ≠ s.rd R.idn_SERIAL d ∨ h.incarnation < s.rd R.idn_INCARNATION d then (6, 4, 0, 5)
  else if s.rd R.idn_INCARNATION d < h.incarnation then (4, 0, 0, 6)
  else if h.flag 4 then (3, 5, 0, 0)
  else if !h.flag 5 ∨ h.peer ≠ l then (3, 0, 0, 0)
  else (7, 0, v, 0)

/-- What the checks post (R393). -/
def State.solderPosts (s : State) (l post serial : Nat) : State :=
  match post with
  | 4 =>
    let x := s.link l
    if x.announced.contains serial then s
    else (s.setLinkSt l { x with announced := serial :: x.announced }).event 0 0x000A (s.linkPayload l)
  | 5 => ((s.bump32 R.lcnt_STALE_SPEAKERS l).event 0 0x000D (s.linkPayload l)).fault (0x020 + laneChip l) 0x1B l
  | 6 => s.event 0 0x000C (s.linkPayload l)
  | _ => s

/-- The checks are run on the last valid hello, from CHECKING. -/
def State.runChecks (s : State) (l : Nat) : State :=
  match (s.link l).hello with
  | none => s
  | some h =>
    let (st, reason, v, post) := s.solder l h
    ((s.setLink l st reason).wr R.link_VERSION l v).solderPosts l post h.serial

/-- A hello differs from another in a field other than FLAGS and PEER_LINK. -/
def Hello.moved (a b : Hello) : Bool := { a with flags := 0, peer := 0 } != { b with flags := 0, peer := 0 }

/-- A hello's claim differs. -/
def Hello.reclaims (a b : Hello) : Bool := a.serial != b.serial || a.incarnation != b.incarnation || a.id != b.id

/-- The identity entry of a claim is valid and matches. -/
def State.matches_ (s : State) (h : Hello) : Bool :=
  s.on R.idn_VALID h.id && h.serial == s.rd R.idn_SERIAL h.id && h.incarnation == s.rd R.idn_INCARNATION h.id

/-- LINK_STATE after a valid hello (R392): `old` is the hello before it, `again` that an identity entry was written (R397). -/
def State.meetHello (s : State) (l : Nat) (old : Option Hello) (h : Hello) (again : Bool) : State :=
  let was (p : Hello → Bool) : Bool := match old with
    | none => true
    | some o => p o
  let check (t : State) : State := (t.setLink l 3 0).runChecks l
  match s.rd R.link_LINK_STATE l with
  | 2 => if s.on R.fab_FENCE 0 then s.setLink l 8 5 else check s
  | 3 => s.runChecks l
  | 4 => if s.matches_ h || was h.reclaims || again then check s else s
  | 5 => if was (· != h) || again then check s else s
  | 6 => if was h.reclaims || again then check s else s
  | 7 =>
    if was h.moved || h.flag 4 then check s
    else if again && (s.solder l h).1 != 7 then check s else s
  | _ => s

/-- HELLO_RECEIVED (R392 to R395): a valid hello train. -/
def execHelloReceived (link : Nat) (h : Hello) (s : State) : Host.Outcome State Fault Refusal :=
  outcome (link < 768 && h.serial < 2 ^ 64 && h.incarnation < 2 ^ 32 && h.id < 4096 && h.verMax < 16 && h.verMin < 16 && h.link < 1024
      && h.cls < 4 && h.level < 65536 && h.flags < 256 && h.peer < 1024 && h.reason < 256) s <|
    if !s.linkReceives link then s
    else
      let x := s.link link
      let lost := match x.hello with
        | some o => o.flag 7
        | none => false
      let s1 := s.setLinkSt link { x with hello := some h, helloAt := s.clk.ticks, recheck := false }
      let s2 := (((((s1.bump R.lcnt_HELLOS_RX link).wr R.link_NB_SERIAL link h.serial).wr R.link_NB_INCARNATION link h.incarnation).wr
        R.link_NB_ID link h.id).wr R.link_NB_LINK link h.link).wr R.link_NB_FLAGS link h.flags
      let s3 := if h.flag 7 && !lost then s2.event 0 0x000E (s2.linkPayload link)
        else if !h.flag 7 && lost then s2.event 0 0x000F (s2.linkPayload link) else s2
      let s4 := if s3.rd R.link_ASSIGN_STATUS link = 1 ∧ h.id = (s3.link link).assign.2.2 then s3.wr R.link_ASSIGN_STATUS link 2 else s3
      s4.meetHello link x.hello h x.recheck

/-- XL_ALIGNED (R392): the PCS of a link achieves block lock and alignment. -/
def execXlAligned (link : Nat) (s : State) : Host.Outcome State Fault Refusal :=
  outcome (link < 768) s <|
    if s.fnState .link link = stRunning ∧ s.rd R.link_LINK_STATE link = 1 ∧ s.lanesReady (linkOwner link) then s.setLink link 2 0 else s

/-- NEIGHBOUR_LOST (R392): DEAD_INTERVAL without a valid hello. -/
def execNeighbourLost (link : Nat) (s : State) : Host.Outcome State Fault Refusal :=
  outcome (link < 768) s <|
    if 2 < s.rd R.link_LINK_STATE link ∧ s.past (s.link link).helloAt (ticksUs (s.rd R.fab_DEAD_INTERVAL 0)) then
      (s.setLink link 2 0).event 0 0x000B (s.linkPayload link)
    else s

/-- The CHECK of a train of four blocks (R381): the first three payloads and the five bytes that precede it. -/
def trainCheck (p0 p1 p2 p3 : Nat) : Nat := crc32c 0xFFFFFFFF (toBE 7 p0 ++ toBE 7 p1 ++ toBE 7 p2 ++ (toBE 7 p3).take 5) % 65536

/-- The four payloads of a train, the last completed with its CHECK. -/
def train (p0 p1 p2 p3 : Nat) : List Nat := [p0, p1, p2, p3 + trainCheck p0 p1 p2 p3]

/-- The blocks of a train, its first of a type and the others of the types after it. -/
def trainBlocks (l type : Nat) (ps : List Nat) : Out := .block l type (ps.flatMap blockOctets)

/-- REASON of a hello (R391, R399): why the sender holds the link out of UP. -/
def State.helloReason (s : State) (l : Nat) : Nat :=
  if s.linkIsUp l ∧ s.rd R.link_REASON l ≠ 6 then 0 else s.rd R.link_REASON l

/-- The hello train that a link sends (R391). -/
def State.helloTrain (s : State) (l : Nat) : List Nat :=
  let serial := s.rd R.ident_SERIAL 0
  let flags := b2n (s.rd R.svc_ACTIVE_PEWTER 0 == 0) * 128 + b2n (s.on R.fab_FIXED_ID 0) * 64 + b2n (s.seen l) * 32
    + b2n (s.on R.fab_FENCE 0) * 16
  let peer := match (s.link l).hello with
    | some h => h.link
    | none => 0
  train (serial / 256) (serial % 256 * 2 ^ 48 + s.rd R.ident_INCARNATION 0 * 2 ^ 16 + s.myId * 2 ^ 4 + s.rd R.fab_VERSION_MAX 0)
    (s.rd R.fab_VERSION_MIN 0 * 2 ^ 52 + l * 2 ^ 42 + s.rd R.link_CLASS l * 2 ^ 40 + s.rd R.ident_FEATURE_LEVEL 0 * 2 ^ 24 + flags * 2 ^ 16
      + peer * 2 ^ 6)
    (s.helloReason l * 2 ^ 48)

/-- The assignment train that a link sends (R398). -/
def State.assignTrain (s : State) (l : Nat) : List Nat :=
  let (serial, inc, id) := (s.link l).assign
  train (serial / 256) (serial % 256 * 2 ^ 48 + id % 4096 * 2 ^ 36 + s.rd R.fab_MANAGER_ID 0 % 4096 * 2 ^ 24
    + s.myId * 2 ^ 12) (inc * 2 ^ 24) 0

/-- HELLO_SEND (R390, R398): from SEEKING on, a hello every HELLO_INTERVAL, followed by a pending assignment train. -/
def execHelloSend (link : Nat) (s : State) : Host.Outcome State Fault Refusal :=
  outcome (link < 768) s <|
    let x := s.link link
    if !s.linkReceives link ∨ !s.past x.helloSent (ticksUs (s.rd R.fab_HELLO_INTERVAL 0)) then s
    else
      let s1 := (s.setLinkSt link { x with helloSent := s.clk.ticks }).sendUnit link 4 (trainBlocks link 0x30 (s.helloTrain link))
      if s1.rd R.link_ASSIGN_STATUS link ≠ 1 then s1
      else if 16 ≤ x.trains then s1.wr R.link_ASSIGN_STATUS link 3
      else (s1.setLinkSt link { s1.link link with trains := x.trains + 1 }).sendUnit link 4 (trainBlocks link 0x38 (s.assignTrain link))

/-- ASSIGN takes effect (R398): the link sends assignment trains with the fields as they stood when it was accepted (R643). -/
def State.startAssign (s : State) (l serial inc id : Nat) : State :=
  (s.setLinkSt l { s.link l with trains := 0, assign := (serial, inc, id) }).wr R.link_ASSIGN_STATUS l 1

/-- One member in a route entry, staged and in effect: a link with weight 1 (R399). -/
def State.soleRoute (s : State) (d l : Nat) : State :=
  let w := 2 ^ 31 + 2 ^ 26 + l * 2 ^ 16
  s.each (List.range 16) (fun t m =>
    let v := if m = 0 then w else 0
    let k := key (Reg.at R.rt_MEMBER0 m) d
    { t.setVal k v with acc := { t.acc with staged := mdel t.acc.staged k } })

/-- An assignment is accepted (R399). Where no hello of the sender's has been received, its serial and incarnation are free values (log entry 49). -/
def State.adoptId (s : State) (l : Nat) (t : AssignTrain) : State :=
  let s1 := s.takeId t.newId t.manager
  let s2 := ((((s1.wr R.princ_ENABLE 3 1).wr R.princ_ROUTE 3 3).wr R.princ_DEVICE_ID 3 t.manager).wr R.princ_RIGHTS 3 0x00000FFFFFFFFFF0).wr
    R.princ_TENANT 3 0xFFFF
  let (serial, inc, s2') := match (s.link l).hello with
    | some h => (h.serial, h.incarnation, s2)
    | none => let (a, u) := s2.free 64; let (b, u1) := u.free 32; (a, b, u1)
  let s3 := s2'.setIdentity t.sender serial inc
  let s4 := (s3.soleRoute t.manager l).soleRoute t.sender l
  { s4 with fab := { s4.fab with assigned := some (t.newId, t.manager) } }.event 0 0x0010 (s4.linkPayload l)

/-- ASSIGN_RECEIVED (R399): a valid assignment train. -/
def execAssignReceived (link : Nat) (t : AssignTrain) (s : State) : Host.Outcome State Fault Refusal :=
  outcome (link < 768 && t.serial < 2 ^ 64 && t.newId < 4096 && t.manager < 4096 && t.sender < 4096 && t.incarnation < 2 ^ 32) s <|
    if !s.linkReceives link then s
    else if s.fab.assigned = some (t.newId, t.manager) then s
    else if t.serial = s.rd R.ident_SERIAL 0 ∧ t.incarnation = s.rd R.ident_INCARNATION 0 ∧ s.fab.assigned.isNone ∧
        (s.myId = 0xFFF ∨ (s.on R.fab_FIXED_ID 0 ∧ t.newId = s.myId)) then
      s.adoptId link t
    else (s.bump32 R.lcnt_ASSIGN_REFUSED link).wr R.link_REASON link 6

/-- FENCE set or cleared (R403): every link enters FENCED in the same slot, or goes through CHECKING. -/
def State.fence (s : State) (b : Bool) : State :=
  let s1 := (s.wr R.fab_FENCE 0 (b2n b)).reSched
  s1.each (s1.fnsIn .link stRunning) (fun t l =>
    if b then (if 2 ≤ t.rd R.link_LINK_STATE l ∧ t.rd R.link_LINK_STATE l ≠ 8 then t.setLink l 8 5 else t)
    else if t.rd R.link_LINK_STATE l = 8 then (t.setLink l 3 0).runChecks l else t)

/-! ## Remote operations (R68 to R71, R402) -/

/-- SOURCE of a payload. -/
def mgmtSource (p : Octets) : Nat := fieldAt p 8 2 % 4096
/-- TXN of a payload. -/
def mgmtTxn (p : Octets) : Nat := fieldAt p 2 2

/-- A remote operation under way: its first request sent, its waits as the settings stand (R71). -/
def State.openRemote (s : State) (target txn : Nat) (p : Octets) (owner : RemoteOwner) : State :=
  let wait := ticksUs (s.rd R.svc_REMOTE_TIMEOUT 0)
  let op : RemoteOp := ⟨target, txn, p, s.rd R.svc_REMOTE_RETRIES 0, wait, s.clk.ticks + wait, owner⟩
  ({ s with remote := { s.remote with ops := s.remote.ops ++ [op] } }).sendMgmt target p (match owner with
    | .proxy l => some l
    | .mailbox _ _ _ => none)

/-- A remote operation of a mailbox starts under the next transaction number of its target (R71). -/
def State.startRemote (s : State) (target : Nat) (payload : Octets) (owner : RemoteOwner) : State :=
  let txn := mget 0 s.remote.nextTxn target
  ({ s with remote := { s.remote with nextTxn := mput 0 s.remote.nextTxn target ((txn + 1) % 65536) } }).openRemote target txn
    (patch payload 2 (toBE 2 txn)) owner

/-- The target under which a link's proxied operations are numbered: none of the device IDs. -/
def proxyTarget (l : Nat) : Nat := 0x10000 + l

/-- PROXY_REQUEST is written (R402): its value goes out link-directed as it is, but for SOURCE: the writing principal's device. -/
def State.startProxy (s : State) (l who : Nat) (value : Octets) : State :=
  let src := if s.rd R.princ_ROUTE who = 3 then s.rd R.princ_DEVICE_ID who % 4096 else s.myId
  ((s.wr R.link_PROXY_STATUS l 1).openRemote (proxyTarget l) (mgmtTxn value) (patch value 8 (toBE 2 src)) (.proxy l))

/-- Responses a responder still keeps: those of the last 16 ms that are among the 64 newest of their source (R70). -/
def State.keptNow (s : State) : List KeptResp :=
  s.remote.kept.filter (fun k => !s.past k.sent (ticksMs 16) &&
    decide (((s.remote.kept.filter (fun o => o.source == k.source)).takeWhile (fun o => o.txn != k.txn)).length < 64))

/-- A response leaves: kept, and sent toward its source or back on the link that carried the request (R70, R402). -/
def State.respond (s : State) (source txn : Nat) (payload : Octets) (link : Option Nat) : State :=
  let s1 := { s with remote := { s.remote with kept := ⟨source, txn, payload, s.clk.ticks⟩ :: s.keptNow } }
  s1.sendMgmt source payload link

/-- A MGMT cell for this device arrives (R68, R70, R402): a response waits to be taken; a request is answered again, discarded as a
duplicate, or queued up to 256. -/
def State.mgmtArrives (s : State) (payload : Octets) (link : Option Nat) : State :=
  if payload.length < 12 then s
  else if 0x81 ≤ payload.headD 0 ∧ payload.headD 0 ≤ 0x83 then
    { s with remote := { s.remote with arrived := s.remote.arrived ++ [(match link with
        | some l => proxyTarget l
        | none => mgmtSource payload, payload)] } }
  else
    let src := mgmtSource payload
    let txn := mgmtTxn payload
    match s.keptNow.find? (fun k => k.source == src && k.txn == txn) with
    | some k => s.sendMgmt src k.payload link
    | none =>
      if s.remote.queue.any (fun r => r.source == src && mgmtTxn r.payload == txn) || decide (256 ≤ s.remote.queue.length) then s
      else { s with remote := { s.remote with queue := s.remote.queue ++ [⟨src, payload, link⟩] } }

end Sys2Proof.Machine
end

