-- ==== Sys2Proof/Machine/FabricSched.lean ====
section
/-! DEFINITION. Fabric scheduling: requests, grants, accepts, standing grants, release of packets to link queues, reach states
(13_fabric_scheduling.md R409 to R428). Budgets are in 1/64 cell. -/

namespace Sys2Proof.Machine

/-! ## Messages (R409, R410) -/

/-- The low 16 bits of a slot number, as DUE carries it. -/
def due16 (slot : Nat) : Nat := slot % 65536

def requestWord (port tc cls : Nat) (reset : Bool) (due : Nat) : Nat :=
  1 * 2 ^ 60 + port % 1024 * 2 ^ 50 + tc % 8 * 2 ^ 47 + cls % 16 * 2 ^ 43 + b2n reset * 2 ^ 42 + due16 due
def grantWord (port tc iter cells id due : Nat) : Nat :=
  2 * 2 ^ 60 + port % 1024 * 2 ^ 50 + tc % 8 * 2 ^ 47 + iter % 4 * 2 ^ 45 + cells % 128 * 2 ^ 38 + id % 4096 * 2 ^ 26 + due16 due
def acceptWord (port tc iter cells id due : Nat) : Nat :=
  3 * 2 ^ 60 + port % 1024 * 2 ^ 50 + tc % 8 * 2 ^ 47 + iter % 4 * 2 ^ 45 + cells % 256 * 2 ^ 37 + id % 4096 * 2 ^ 25 + due16 due
/-- A STANDING message without its DUE. -/
def standingWord (port tc code cells period : Nat) : Nat :=
  4 * 2 ^ 60 + port % 1024 * 2 ^ 50 + tc % 8 * 2 ^ 47 + code % 16 * 2 ^ 43 + cells % 256 * 2 ^ 35 + period % 1024 * 2 ^ 25

def msgType (w : Nat) : Nat := bits w 63 60
def msgPort (w : Nat) : Nat := bits w 59 50
def msgTc (w : Nat) : Nat := bits w 49 47

/-- The slot that a DUE names: the nearest to the present. -/
def State.dueSlot (s : State) (d : Nat) : Nat :=
  let k := (d + 65536 - s.slotNo % 65536) % 65536
  if k < 32768 then s.slotNo + k else s.slotNo + k - 65536

/-- SCHED_LEAD. -/
def State.lead (s : State) : Nat := s.rd R.fsch_SCHED_LEAD 0

/-- A message arises in this slot. -/
def State.tell (s : State) (dest word : Nat) : State := { s with fab := { s.fab with outbox := s.fab.outbox ++ [(dest, word)] } }

/-- The device takes part in scheduling: its generation is SET, and it is neither OUT_OF_STEP nor FENCED (R428, R472). -/
def State.inStep (s : State) : Bool := s.rd R.fsch_SCHED_STATE 0 == 0 && s.rd R.gen_GEN_STATE 0 == 1

/-! ## Budgets of destination ports (R415, R419) -/

/-- C_p times SPEEDUP in 1/64 cell, as a fraction over 8. -/
def State.grantRate8 (s : State) (p : Nat) : Nat := s.rateOf p * s.rd R.fsch_SPEEDUP 0

/-- Entries of 0x6078 that are enabled for a port. -/
def State.standingOf (s : State) (p : Nat) : List Nat :=
  ((s.instances R.stand_ENABLE).map (·.1)).filter (fun i => s.rd R.stand_PORT i == p)

/-- STANDING_RESERVED of a port: S cells in every P slots. -/
def State.standingReserved (s : State) (p : Nat) : Nat :=
  (s.standingOf p).foldl (fun a i => a + openDiv (s.rd R.stand_CELLS i * 64) (max 1 (s.rd R.stand_PERIOD i))) 0

/-- GRANT_RATE of a port. -/
def State.grantRate (s : State) (p : Nat) : Nat := openDiv (s.grantRate8 p) 8 - s.standingReserved p

/-- A sum of fractions as one fraction. -/
def addFrac (a b : Nat × Nat) : Nat × Nat := (a.1 * b.2 + b.1 * a.2, a.2 * b.2)

/-- The standing reservations of a port exceed half of C_p times SPEEDUP (R419), for a reader of values. -/
def standingOver (rd : Reg → Nat → Nat) (entries : List Nat) (rate8 : Nat) : Bool :=
  let f := (entries.map (fun i => (rd R.stand_CELLS i * 64, max 1 (rd R.stand_PERIOD i)))).foldl addFrac (0, 1)
  decide (rate8 * f.2 < 16 * f.1)

/-- GRANT_QUANTUM of a port, or the default for its rate. -/
def State.quantum (s : State) (p : Nat) : Nat :=
  let q := s.rd R.pgr_GRANT_QUANTUM p
  if q ≠ 0 then q
  else match s.rateOf p with
    | 1600 => 32 | 800 => 16 | 400 => 8 | 200 => 4 | 100 => 4 | 50 => 2 | _ => 1

def State.budgetCap (s : State) (p : Nat) : Nat := 4 * s.quantum p * 64
def State.budget (s : State) (p : Nat) : Nat := mget 0 s.fab.budgets p
def State.setBudget (s : State) (p v : Nat) : State := { s with fab := { s.fab with budgets := mput 0 s.fab.budgets p v } }

/-- Step 1 of R412: GRANT_RATE joins every port's budget, up to its cap. BUDGET shows it. -/
def State.addBudgets (s : State) : State :=
  s.each ((s.instances R.port_PORT_MODE).map (·.1)) (fun t p =>
    let b := min (t.budgetCap p) (t.budget p + t.grantRate p)
    (t.setBudget p b).wr R.pgr_BUDGET p b)

/-! ## The request table (R414) -/

def ReqEnt.pending (e : ReqEnt) : Nat := e.p1 + e.p2 + e.p3

def State.reqs (s : State) (q : Nat) : List ReqEnt := mget [] s.fab.requests q
def State.setReqs (s : State) (q : Nat) (l : List ReqEnt) : State :=
  { s with fab := { s.fab with requests := mput [] s.fab.requests q (l.filter (fun e => e.pending != 0 || e.deficit != 0)) } }

/-- The entry of a source toward an egress queue changed, or made when it has none; one that had no cells pending was off the DRR list
and joins it at the end. -/
def State.withReq (s : State) (q src : Nat) (f : ReqEnt → ReqEnt) : State :=
  let l := s.reqs q
  if l.any (fun e => e.src == src && e.pending != 0) then s.setReqs q (l.map (fun e => if e.src = src then f e else e))
  else if l.any (fun e => e.src == src) then
    s.setReqs q (l.filter (fun e => e.src != src) ++ (l.filter (fun e => e.src == src)).map f)
  else s.setReqs q (l ++ [f ⟨src, 0, 0, 0, 0, true⟩])

/-- Entries of the table that hold requested cells. -/
def State.reqCount (s : State) : Nat := s.fab.requests.foldl (fun a e => a + (e.2.filter (fun x => x.pending != 0)).length) 0

/-- A REQUEST acts at the destination. -/
def State.actRequest (s : State) (src w : Nat) : State :=
  let q := msgPort w * 8 + msgTc w
  let n := 2 ^ (bits w 46 43 - 1)
  if 768 ≤ msgPort w ∨ bits w 46 43 = 0 then s
  else if !(s.reqs q).any (fun e => e.src == src && e.pending != 0) && decide (262144 ≤ s.reqCount) then s.bump R.fsch_REQ_TABLE_FULL 0
  else s.withReq q src (fun (e : ReqEnt) =>
    if bit w 42 then { e with p1 := n, p2 := 0, p3 := 0 } else { e with p1 := e.p1 + min n (65535 - e.pending) })

/-! ## Outstanding grants (R415, R416) -/

/-- OUT_q of an egress queue. -/
def State.outQ (s : State) (q : Nat) : Nat :=
  (s.fab.outs.filter (fun o => o.q == q)).foldl (fun a o => a + (match o.accepted with
    | none => o.cells
    | some n => n - o.arrived)) 0

/-- Cells returned to a port's budget, up to the cap. -/
def State.refund (s : State) (p cells : Nat) : State := s.setBudget p (min (s.budgetCap p) (s.budget p + cells * 64))

/-- Cells of a source and queue that arrived before the answers to its grants acted, and the state with another number of them; none is
kept while no grant of theirs is without its answer. -/
def State.earlyCells (s : State) (src q : Nat) : Nat := mget 0 s.fab.early (src * 8192 + q)
def State.setEarly (s : State) (src q n : Nat) : State :=
  let open_ := s.fab.outs.any (fun o => o.src == src && o.q == q && (o.accepted.isNone || o.assumed))
  { s with fab := { s.fab with early := mput 0 s.fab.early (src * 8192 + q) (if open_ then n else 0) } }

/-- A decline: the grant's cells return to the budget and, with their next offer, to PENDING; the cells of a third offer leave it. -/
def State.declined (s : State) (o : OutGrant) : State :=
  let s0 := { s with fab := { s.fab with outs := s.fab.outs.filter (· != o) } }
  let s1 := (s0.setEarly o.src o.q (s.earlyCells o.src o.q)).refund (o.q / 8) o.cells
  let s2 := s1.wr R.pgr_GRANTED_CELLS (o.q / 8) ((s1.rd R.pgr_GRANTED_CELLS (o.q / 8) + 2 ^ 64 - o.accepted.getD 0) % 2 ^ 64)
  s2.withReq o.q o.src (fun e =>
    { e with
      deficit := e.deficit + o.cells
      p2 := if o.iter = 1 then e.p2 + o.cells else e.p2
      p3 := if o.iter = 2 then e.p3 + o.cells else e.p3 })

/-- A grant is kept while it has no answer, or cells of it are still to come. -/
def OutGrant.isOpen (o : OutGrant) : Bool :=
  match o.accepted with
  | some n => decide (o.arrived < n) || o.assumed
  | none => true

/-- An accept of `cells`, replacing the figure that was assumed before it, if one was; cells that came before it count as arrived. `assumed`
tells that it is itself assumed: its answer, when it comes late, still finds the grant (R412). -/
def State.accepted (s : State) (o : OutGrant) (cells : Nat) (assumed : Bool) : State :=
  let before := o.accepted.getD o.cells
  let early := s.earlyCells o.src o.q
  let taken := min early (cells - o.arrived)
  let o' := { o with accepted := some cells, arrived := o.arrived + taken, assumed }
  let outs := s.fab.outs.map (fun x => if x = o then o' else x)
  let s1 := { s with fab := { s.fab with outs := outs.filter OutGrant.isOpen } }.setEarly o.src o.q (early - taken)
  let s2 := s1.withReq o.q o.src (fun e => { e with deficit := e.deficit + before - cells })
  s2.wr R.pgr_GRANTED_CELLS (o.q / 8) ((s2.rd R.pgr_GRANTED_CELLS (o.q / 8) + cells + 2 ^ 64 - o.accepted.getD 0) % 2 ^ 64)

/-- An ACCEPT acts at the destination. -/
def State.actAccept (s : State) (src w : Nat) : State :=
  let q := msgPort w * 8 + msgTc w
  match s.fab.outs.find? (fun o => o.src == src && o.id == bits w 36 25 && o.q == q) with
  | none => s
  | some o => if bits w 44 37 = 0 then s.declined o else s.accepted o (bits w 44 37) false

/-- Grants whose answer is overdue count as accepted with all their cells: the answer to a grant falls due SCHED_LEAD after its DUE. -/
def State.unanswered (s : State) : List OutGrant :=
  s.fab.outs.filter (fun o => o.accepted.isNone && decide (o.due + s.lead ≤ s.slotNo))
def State.actUnanswered (s : State) : State :=
  s.each s.unanswered (fun t o => (t.accepted o o.cells true).bump R.fsch_GRANTS_EXPIRED 0)

/-- Accepted grants whose cells have not arrived 32 slots after their window (R416). -/
def State.overdue (s : State) : List OutGrant := s.fab.outs.filter (fun o => o.accepted.isSome && decide (o.due + 35 < s.slotNo))
def State.actWriteoff (s : State) : State :=
  s.each s.overdue (fun t o =>
    { t with fab := { t.fab with outs := t.fab.outs.filter (· != o) } }.add R.fsch_GRANT_WRITEOFF 0 (o.accepted.getD 0 - o.arrived))

/-- A DATA cell of a source arrives toward an egress queue: OUT_q falls for the oldest accepted grant (R416). Where none is waiting for
cells, the cell counts to the grant whose answer acts next. -/
def State.cellArrives (s : State) (src q : Nat) : State :=
  match s.fab.outs.find? (fun o => o.src == src && o.q == q && (match o.accepted with
      | some n => decide (o.arrived < n)
      | none => false)) with
  | none => s.setEarly src q (s.earlyCells src q + 1)
  | some o =>
    let o' := { o with arrived := o.arrived + 1 }
    let outs := s.fab.outs.map (fun x => if x = o then o' else x)
    { s with fab := { s.fab with outs := outs.filter OutGrant.isOpen } }

/-! ## The grant scheduler (R415) -/

/-- Where a port's scheduler stands in one slot: grants left, and whether the depth condition stopped it. -/
structure GrantRun where
  s : State
  left : Nat
  held : Bool

/-- The depth condition for a grant of `n` cells toward q. -/
def State.depthOk (s : State) (q n : Nat) : Bool :=
  decide (s.nearCount (egKey q) + s.outQ q + n ≤ s.nearLimit (egKey q))

/-- The cells of a grant, taken from the offers that have been declined most: the entry after it, and the ITERATION. -/
def ReqEnt.take (e : ReqEnt) (n : Nat) : ReqEnt × Nat :=
  let t3 := min n e.p3
  let t2 := min (n - t3) e.p2
  ({ e with p3 := e.p3 - t3, p2 := e.p2 - t2, p1 := e.p1 - (n - t3 - t2) }, if 0 < t3 then 3 else if 0 < t2 then 2 else 1)

/-- A grant of `n` cells is issued to the entry at the head of the DRR list of q. -/
def State.issue (s : State) (q n : Nat) (e : ReqEnt) (rest : List ReqEnt) : State :=
  let (e1, iter) := e.take n
  let e2 := { e1 with deficit := if e1.pending = 0 then 0 else e.deficit - n, fresh := if e1.pending = 0 then true else e1.fresh }
  let id := mget 0 s.fab.grantIds e.src
  let due := s.slotNo + s.lead
  let s1 := (s.setReqs q (e2 :: rest)).setBudget (q / 8) (s.budget (q / 8) - n * 64)
  let s2 := { s1 with fab := { s1.fab with
    grantIds := mput 0 s1.fab.grantIds e.src ((id + 1) % 4096)
    outs := s1.fab.outs ++ [(⟨id, e.src, q, n, iter, due, none, 0, false⟩ : OutGrant)] } }
  ((s2.bump R.fsch_GRANTS_ISSUED 0).bump R.pgr_GRANTS (q / 8)).tell e.src (grantWord (q / 8) (q % 8) iter n id due)

/-- The grants of one TC of a port: DRR over its entries. `n` bounds the entries visited. -/
def grantTc : Nat → Nat → GrantRun → GrantRun
  | 0, _, r => r
  | n + 1, q, r =>
    let l := r.s.reqs q
    match l.find? (fun e => e.pending != 0) with
    | none => r
    | some e0 =>
      let others := l.filter (fun e => e.src != e0.src)
      let e := if e0.fresh then { e0 with fresh := false, deficit := e0.deficit + r.s.rd R.fsch_DRR_UNIT 0 * r.s.rd R.srcw_WEIGHT e0.src } else e0
      let g := min (r.s.quantum (q / 8)) e.pending
      let put (x : List ReqEnt) : State := r.s.setReqs q x
      if r.left = 0 then r
      else if r.s.budget (q / 8) < g * 64 then { r with s := put (e :: others) }
      else if !r.s.depthOk q g then { r with s := put (e :: others), held := true }
      else if e.deficit < g then grantTc n q { r with s := put (others ++ [{ e with fresh := true }]) }
      else
        let t := r.s.issue q g e others
        let t1 := { t with fab := { t.fab with
          lastTc := mput 0 t.fab.lastTc (q / 8 * 4 + r.s.rd R.tcsch_PRIO_GROUP q) (q % 8 + 1) } }
        grantTc n q { r with s := t1, left := r.left - 1 }

/-- How many entries a TC's scheduler can visit in a slot: each grant, and as many rounds as the lowest deficit needs. -/
def State.grantFuel (s : State) (q : Nat) : Nat :=
  600 + (s.reqs q).foldl (fun a e => a + 70 + e.deficit.natAbs) 0 * ((s.reqs q).length + 1)

/-- TCs of a priority group of a port, round robin after the last one served. -/
def State.grantOrder (s : State) (p g : Nat) : List Nat :=
  let from_ := mget 0 s.fab.lastTc (p * 4 + g)
  let all := (List.range 8).filter (fun t => s.rd R.tcsch_PRIO_GROUP (p * 8 + t) == g)
  ((all.filter (fun t => from_ ≤ t)) ++ (all.filter (fun t => t < from_))).map (fun t => p * 8 + t)

/-- A port's grant scheduler. -/
def grantPort (r : GrantRun) (p : Nat) : GrantRun :=
  if r.s.fnState .port p ≠ stRunning ∨ !r.s.grpRuns (portGroup p) then r
  else
    let r1 := [0, 1, 2, 3].foldl (fun x g => (x.s.grantOrder p g).foldl (fun y q =>
      if y.s.tcPaused p (q % 8) then y else grantTc (y.s.grantFuel q) q y) x) { r with held := false }
    { r1 with s := if r1.held then r1.s.bump R.pgr_DEPTH_HOLDS p else r1.s, held := false }

/-- Step 4 of R412: every port with requests, at most 512 grants in a slot. -/
def State.runGrants (s : State) : State :=
  if !s.inStep then s
  else
    let ports := (s.fab.requests.map (fun e => e.1 / 8)).eraseDups
    let r := ports.foldl grantPort ⟨s, 512, false⟩
    if r.left = 0 then r.s.bump R.fsch_GRANT_LIMIT_SLOTS 0 else r.s

/-! ## VOQs at the source (R413, R414) -/

def State.voq (s : State) (v : Nat) : VoqSt := mget ⟨0, 0, false, 0⟩ s.fab.voqs v
def State.setVoq (s : State) (v : Nat) (x : VoqSt) : State := { s with fab := { s.fab with voqs := mput ⟨0, 0, false, 0⟩ s.fab.voqs v x } }

/-- The device and TC that a VOQ serves (R243). -/
def State.voqDest (s : State) (v : Nat) : Nat := if s.rd R.store_VOQ_MODE 0 = 0 then v / 8192 else v / 256
def voqTc (v : Nat) : Nat := v % 8

/-- The VOQ that a grant toward a port and TC of a device names. -/
def State.grantedVoq (s : State) (d p tc : Nat) : Option Nat :=
  if s.rd R.store_VOQ_MODE 0 = 0 then (if 128 ≤ d then none else some (d * 8192 + p * 8 + tc)) else some (d * 256 + p / 24 * 8 + tc)

/-- Live replicas of a VOQ, front first, with their packets. -/
def State.voqPkts (s : State) (v : Nat) : List (QEnt × Pkt) :=
  (s.queue (voqKey v)).ents.filterMap (fun e => if e.dead then none else (s.pkt? e.pid).map (fun p => (e, p)))

/-- The port that the head packet is bound for. -/
def State.headPort (s : State) (v : Nat) : Option Nat := (s.voqPkts v).head?.map (fun e => e.1.dest % 1024)

/-- The backlog of a VOQ in cells for requests: all of it, or in GROUP mode the run for the head packet's port. -/
def State.backlog (s : State) (v : Nat) : Nat :=
  let l := s.voqPkts v
  let l1 := match s.headPort v with
    | some p => if s.rd R.store_VOQ_MODE 0 = 0 then l else l.takeWhile (fun e => e.1.dest % 1024 == p)
    | none => l
  l1.foldl (fun a e => a + e.2.cells) 0

def State.reachable (s : State) (d : Nat) : Bool := s.rd R.reach_DEST_STATE d == 0

/-- A VOQ may request and accept (R413, R417). -/
def State.voqOpen (s : State) (v : Nat) : Bool :=
  !s.stalledNow (voqKey v) && s.voqShaperOk v && s.inStep && s.reachable (s.voqDest v)

/-- VOQs that hold packets, or requested cells. -/
def State.voqsInUse (s : State) : List Nat :=
  ((s.sto.queues.filter (fun e => qKind e.1 == 0 && !e.2.ents.isEmpty)).map (·.1) ++ s.fab.voqs.map (·.1)).eraseDups

/-- The head packet's port has changed in GROUP mode: the VOQ starts its requests over. -/
def State.followHead (s : State) (v : Nat) : State :=
  match s.headPort v with
  | none => s
  | some p =>
    let x := s.voq v
    if s.rd R.store_VOQ_MODE 0 = 0 ∨ x.port = p + 1 then s
    else s.setVoq v { x with rq := 0, reset := x.port != 0, port := p + 1 }

/-- A VOQ has cells that it has not requested. -/
def State.wants (s : State) (v : Nat) : Bool := s.voqOpen v && decide ((s.voq v).rq < s.backlog v)

/-- One VOQ sends a request. -/
def State.sendRequest (s : State) (v : Nat) : State :=
  let u := min (s.backlog v - (s.voq v).rq) 16384
  let c := Nat.log2 u + 1
  let x := s.voq v
  let due := s.slotNo + s.lead
  let granted := if x.rq = 0 then s.slotNo else x.granted
  ((s.setVoq v { x with rq := x.rq + 2 ^ (c - 1), reset := false, granted }).bump R.fsch_REQUESTS_SENT 0).tell (s.voqDest v)
    (requestWord ((s.headPort v).getD 0) (voqTc v) c x.reset due)

/-- Step 6 of R412: each VOQ with backlog it has not requested sends one request, at most 1,024 in a slot. -/
def State.sendRequests (s : State) : State :=
  let s1 := s.each s.voqsInUse State.followHead
  let all := s1.voqsInUse.filter s1.wants
  let s2 := s1.each (all.take 1024) State.sendRequest
  if 1024 ≤ all.length then s2.bump R.fsch_GRANT_LIMIT_SLOTS 0 else s2

/-! ## Release (R417, R418, R420) -/

/-- Blocks per slot of a link (R378), and ACCEPT_LIMIT. -/
def State.blocksPerSlot (s : State) (l : Nat) : Nat := s.rd R.link_WIDTH l * (if s.rd R.link_LANE_MODE l = 1 then 200 else 100)

/-- The blocks of the ended slot that no unit took went out as IDLE, with FILLER among them after every 2,047 other blocks (R388). -/
def State.fillLink (s : State) (l : Nat) : State :=
  if !s.irLink l || s.rd R.link_LINK_STATE l == 0 then s
  else
    let n := mget 0 s.fab.sinceFill l + (s.blocksPerSlot l - mget 0 s.fab.slotBlocks l)
    { s with
      out := List.replicate (n / 2048) (filler l) ++ s.out
      fab := { s.fab with sinceFill := mput 0 s.fab.sinceFill l (n % 2048) } }

/-- Every RUNNING link ends the slot. -/
def State.fillLinks (s : State) : State :=
  let s1 := s.each (s.fnsIn .link stRunning) State.fillLink
  { s1 with fab := { s1.fab with slotBlocks := [] } }

def State.acceptLimit (s : State) (l : Nat) : Nat := 4 * s.blocksPerSlot l / 35

/-- Data cells that wait in a link's queues. -/
def State.linkLoad (s : State) (l : Nat) : Nat := ((s.link l).queues.take 3).foldl (fun a q => a + q.length) 0

/-- A packet fits its link's budget; the first packet of a grant also fits an empty queue. -/
def State.fits (s : State) (p : Pkt) (first : Bool) : Bool :=
  match s.pickLink (p.dest / 1024 % 4096) p.hash with
  | none => false
  | some (l, _) => decide (s.linkLoad l + p.cells ≤ s.acceptLimit l) || (first && s.linkLoad l == 0)

/-- The octets of a packet as its cells carry them: bridged block first (R102, R383). -/
def Pkt.fabricOctets (p : Pkt) : Octets := p.words.flatMap (toBE 8) ++ p.frame

/-- Cell `i` of a packet that leaves toward the fabric. -/
def State.dataCell (s : State) (p : Pkt) (dest tc tag i : Nat) (ecn bad : Bool) : FabCell :=
  let o := (p.fabricOctets.drop (256 * i)).take 256
  let last := i + 1 == p.cells
  { kind := 0, dest := dest / 1024 % 4096, port := dest % 1024, tc, vl := 0, gen := p.gen, sop := i == 0, eop := last
    badTail := bad, ecn, hash := p.hash, src := s.myId, tag, index := i, count := o.length, hops := 0, payload := slice o 0 256 }

/-- Take the front packet off a VOQ; its cells keep their charge until they are sent (R418). -/
def State.takeFront (s : State) (v : Nat) : Option (QEnt × Pkt × List Nat) × State :=
  let q := voqKey v
  match (s.queue q).ents with
  | [] => (none, s)
  | e :: rest =>
    match s.pkt? e.pid with
    | none => (none, s.setQueue q { s.queue q with ents := rest })
    | some p =>
      let x := s.queue q
      (some (e, e.reads p, x.head.take p.cells), (s.setQueue q { x with ents := rest, head := x.head.drop p.cells }).settle q)

/-- The records of a traced packet that is handed to the fabric (R502). -/
def State.traceRelease (s : State) (v : Nat) (e : QEnt) (p : Pkt) (near : List Nat) : State :=
  if bits (w p.words 0) 27 27 ≠ 1 then s
  else
    let port := bits (w p.words 0) 51 42
    let g := portGroup port % 8
    let tenant := bits (w p.words 0) 41 30
    let tag : TraceTag := ⟨bits (w p.words 0) 63 52, port, g, portPipe port % 4, false,
      (if 2 ≤ bridgeWords p.words then bits (w p.words 1) 63 16 else 0), p.hash⟩
    let s1 := s.queueRecord g (voqKey v) tenant tag true e.depth (near.any (· != 0)) e.mark
    let (rs, s2) := s1.trace g [] (tag.record 4 0 0 (stamp48 s1.now * 2 ^ 16 + 4 * 2 ^ 4) (e.dest % 2 ^ 22 * 2 ^ 32))
    s2.sendPass g tenant rs

/-- Release the packet at a VOQ's head toward its member link (R418): its cells join the link queue; those of a packet whose tail has
not arrived follow when it has. -/
def State.release (s : State) (v : Nat) : State :=
  match s.takeFront v with
  | (none, s1) => s1
  | (some (e, p, near), s1) =>
    let d := e.dest / 1024 % 4096
    let (tag, s2) := s1.nextTag d
    let bad := p.bad || badNear near
    let s3 := ((s2.countTails near e.pid p).traceRelease v e p near)
    let cellOf (i : Nat) : QCell := ⟨s3.dataCell p e.dest e.tc tag i (e.mark || p.mark) bad,
      .stored e.pid i (near.getD i 0) (i + 1 == p.cells), 0, 0, p.born⟩
    match s3.pickLink d p.hash with
    | none => s3.each (List.range p.cells) (fun t i => t.inFlightLost (cellOf i) none)
    | some (l, b) =>
      let n := if p.tailIn then p.cells else 1
      let s4 := s3.each (List.range n) (fun t i => t.putCell l b (cellOf i))
      if p.tailIn then s4
      else { s4 with fab := { s4.fab with streams := s4.fab.streams ++ [⟨e.pid, 1, s4.slotNo, tag, e.dest, e.tc, e.mark || p.mark, badNear near⟩] } }

/-- Store cells of a packet that are written: all of it once its tail is stored; before that as its ingress port's rate (Gb/s) fills them
from the slot in which its first cell left, never the last (DEDUCED from R420, log entry 52). -/
def State.writtenCells (s : State) (p : Pkt) (x : Stream) : Nat :=
  if p.tailIn then p.cells else min (p.cells - 1) (max x.next (1 + (s.slotNo - x.since) * p.rate / 32))

/-- Cells of a packet that left before its tail was stored follow as they are written, each on the link that its flow takes now and charged
to the standing credit (R420, R422, R423). -/
def State.runStream (s : State) (x : Stream) : State :=
  match s.pkt? x.pid with
  | none => { s with fab := { s.fab with streams := s.fab.streams.filter (· != x) } }
  | some p =>
    let n := s.writtenCells p x
    let s1 := s.each ((List.range n).drop x.next) (fun u i =>
      let c : QCell := ⟨u.dataCell p x.dest x.tc x.tag i x.mark (p.bad || x.bad), .stored x.pid i 0 (i + 1 == p.cells), 0, 0, p.born⟩
      match u.pickLink c.cell.dest p.hash with
      | none => u.inFlightLost c none
      | some (l, b) => u.putCell l b c)
    { s1 with fab := { s1.fab with
      streams := if n = p.cells then s1.fab.streams.filter (· != x) else s1.fab.streams.map (fun y => if y = x then { x with next := n } else y)
      standSrc := s1.fab.standSrc.map (fun y => if y.dest = x.dest / 1024 % 4096 ∧ y.port = x.dest % 1024 ∧ y.tc = x.tc then
        { y with credit := y.credit - ((n - x.next : Nat) : Int) } else y) } }
def State.runStreams (s : State) : State := s.each s.fab.streams State.runStream

/-! ## Grants at the source (R417) -/

/-- Cells from a VOQ's head on that are in the near tier. -/
def State.nearAhead (s : State) (v : Nat) : Nat :=
  let x := s.queue (voqKey v)
  if x.pages.isEmpty then s.nearCount (voqKey v) else x.head.length

/-- Packets a grant of `g` cells covers, from the head on: how many, and their cells. One with a cell beyond the first `near`, which the
queue's stall and not its link holds back, is not covered, nor any after it. -/
def coverPkts (g near : Nat) (port : Option Nat) : List (QEnt × Pkt) → Nat → Nat × Nat
  | [], cells => (0, cells)
  | (e, p) :: t, cells =>
    let elsewhere : Bool := match port with
      | some x => e.dest % 1024 != x
      | none => false
    if g ≤ cells ∨ !p.tailIn ∨ elsewhere ∨ near < cells + p.cells then (0, cells)
    else let (n, c) := coverPkts g near port t (cells + p.cells); (n + 1, c)

/-- Release up to `n` packets from a VOQ's head while each fits its link; how many remain held back. -/
def releaseFit : Nat → Nat → Bool → State → Nat × State
  | 0, _, _, s => (0, s)
  | n + 1, v, first, s =>
    match s.voqPkts v with
    | [] => (0, s)
    | (_, p) :: _ =>
      if s.stalledNow (voqKey v) ∨ !p.tailIn ∨ !s.fits p first then (n + 1, s) else releaseFit n v false (s.release v)

/-- RQ lowered; it never falls below 0. -/
def State.lowerRq (s : State) (v g : Nat) : State := s.setVoq v { s.voq v with rq := (s.voq v).rq - g }

/-- A GRANT acts at the source: accepted with its packets released or held back, or declined. -/
def State.actGrant (s : State) (src w due : Nat) : State :=
  let p := msgPort w
  let tc := msgTc w
  let g := bits w 44 38
  let iter := bits w 46 45
  let answer (t : State) (cells : Nat) : State := t.tell src (acceptWord p tc iter cells (bits w 37 26) (t.slotNo + t.lead))
  if s.rd R.gen_GEN_STATE 0 = 0 then s
  else
    let decline (t : State) (v : Option Nat) : State :=
      let t1 := match v with
        | some v => if iter = 3 then t.lowerRq v g else t
        | none => t
      answer (t1.bump R.fsch_DECLINES_SENT 0) 0
    match s.grantedVoq src p tc with
    | none => decline s none
    | some v =>
      let s0 := s.setVoq v { s.voq v with granted := s.slotNo }
      let port := if s.rd R.store_VOQ_MODE 0 = 0 then none else some p
      let (n, cells) := coverPkts g (s0.nearAhead v) port (s0.voqPkts v) 0
      let firstFits := match s0.voqPkts v with
        | (_, k) :: _ => s0.fits k true
        | [] => false
      if !s0.voqOpen v ∨ n = 0 ∨ !firstFits ∨ s0.fab.held.any (fun h => h.voq == v) then decline s0 (some v)
      else
        let (left, s1) := releaseFit n v true s0
        let s2 := if left = 0 then s1 else { s1 with fab := { s1.fab with held := s1.fab.held ++ [⟨v, due, left⟩] } }
        answer ((s2.lowerRq v g).bump R.fsch_ACCEPTS_SENT 0) (min cells (g + 64))

/-- Release `n` packets from a VOQ's head whatever the budget; how many remain because the queue stalls (R256). -/
def releaseAll : Nat → Nat → State → Nat × State
  | 0, _, s => (0, s)
  | n + 1, v, s => match s.voqPkts v with
    | [] => (0, s)
    | _ => if s.stalledNow (voqKey v) then (n + 1, s) else releaseAll n v (s.release v)

/-- Why a destination is not REACHABLE: 3 FENCED, 2 OUT_OF_STEP, 1 NO_ROUTE; 0 when it is. -/
def State.unreachable (s : State) (d : Nat) : Nat :=
  if s.on R.fab_FENCE 0 then 3 else if s.rd R.sync_ALIGN_STATE 0 = 2 then 2 else if (s.liveMembers d).isEmpty then 1 else 0

/-- Packets held back are released as their links' budgets allow, and at the window's last slot in any case: one with a cell in a page
that has not joined the head follows when it has (R256). The VOQs of a destination that is not REACHABLE keep theirs (R426). -/
def State.runHeld (s : State) : State :=
  s.each s.fab.held (fun t h =>
    let t0 := { t with fab := { t.fab with held := t.fab.held.filter (· != h) } }
    let d := t.voqDest h.voq
    if t.unreachable d ≠ 0 ∨ !t.reachable d then t0 else
    let (left, t1) := if h.due + 3 ≤ t.slotNo then releaseAll h.packets h.voq t0 else releaseFit h.packets h.voq false t0
    if left = 0 then t1 else { t1 with fab := { t1.fab with held := t1.fab.held ++ [{ h with packets := left }] } })

/-! ## Standing grants (R419, R420) -/

/-- RATE_CODE of a rate, and the rate of a code. -/
def rateCode (rate : Nat) : Nat :=
  match rate with
  | 25 => 1 | 50 => 2 | 100 => 3 | 200 => 4 | 400 => 5 | 800 => 6 | 1600 => 7 | _ => 0
def codeRate (code : Nat) : Nat :=
  match code with
  | 0 => 10 | 1 => 25 | 2 => 50 | 3 => 100 | 4 => 200 | 5 => 400 | 6 => 800 | _ => 1600

/-- The STANDING message that an enabled entry asks for. -/
def State.wantedStanding (s : State) (i : Nat) : Nat × Nat :=
  let p := s.rd R.stand_PORT i
  (s.rd R.stand_SOURCE i % 4096,
    standingWord p (s.rd R.stand_TC i) (rateCode (s.rateOf p)) (s.rd R.stand_CELLS i) (s.rd R.stand_PERIOD i))

/-- A STANDING with CELLS 0. -/
def revokeWord (word : Nat) : Nat := setBits word 42 35 0

/-- The destination's STANDING messages of this slot: at once on a change, once per epoch, and the revocations. -/
def State.sendStanding (s : State) : State :=
  if s.on R.fab_FENCE 0 then s
  else
    let due (t : State) : Nat := due16 (t.slotNo + t.lead)
    let on := (s.instances R.stand_ENABLE).map (·.1)
    let revoke (t : State) (i : Nat) (x : StandDst) : State :=
      { t.tell x.src (revokeWord x.word + due t) with fab := { (t.tell x.src (revokeWord x.word + due t)).fab with standDst := mdel t.fab.standDst i } }
    let s1 := s.each s.fab.standDst (fun t e => if on.contains e.1 then t else revoke t e.1 e.2)
    s1.each on (fun t i =>
      let (src, word) := t.wantedStanding i
      if (t.liveMembers src).isEmpty then t
      else
        let last := mfind t.fab.standDst i
        let t0 := match last with
          | some x => if x.src ≠ src ∨ x.word / 2 ^ 47 ≠ word / 2 ^ 47 then revoke t i x else t
          | none => t
        match mfind t0.fab.standDst i with
        | some x =>
          if x.word = word ∧ x.epoch = t.slotNo / 16384 then t0
          else { t0.tell src (word + due t0) with fab := { (t0.tell src (word + due t0)).fab with
            standDst := mins t0.fab.standDst i ⟨t.slotNo / 16384, src, word⟩ } }
        | none => { t0.tell src (word + due t0) with fab := { (t0.tell src (word + due t0)).fab with
            standDst := mins t0.fab.standDst i ⟨t.slotNo / 16384, src, word⟩ } })

/-- STANDING_HELD follows the list of standing grants held. -/
def State.setStandSrc (s : State) (l : List StandSrc) : State :=
  { s with fab := { s.fab with standSrc := l } }.wr R.fsch_STANDING_HELD 0 l.length

def StandSrc.is (x : StandSrc) (d p tc : Nat) : Bool := x.dest == d && x.port == p && x.tc == tc

/-- A STANDING acts at the source: installs, renews or revokes a standing grant (R419). -/
def State.actStanding (s : State) (src w due : Nat) : State :=
  let p := msgPort w
  let tc := msgTc w
  let cells := bits w 42 35
  let others := s.fab.standSrc.filter (fun x => !x.is src p tc)
  let new : StandSrc := ⟨src, p, tc, codeRate (bits w 46 43), cells, max 1 (bits w 34 25), 0, due, s.slotNo⟩
  if cells = 0 then s.setStandSrc others
  else if !s.reachable src then s
  else match s.fab.standSrc.find? (fun x => x.is src p tc) with
    | some x =>
      if x.rate = new.rate ∧ x.cells = cells ∧ x.period = new.period then
        s.setStandSrc (s.fab.standSrc.map (fun y => if y.is src p tc then { y with heard := s.slotNo } else y))
      else s.setStandSrc (others ++ [new])
    | none =>
      if 4096 ≤ others.length then s.bump32 R.fsch_STANDING_REFUSED 0 else s.setStandSrc (others ++ [new])

/-- A period of a standing grant begins with this slot. -/
def State.periodDue (s : State) (x : StandSrc) : Bool := decide (x.next ≤ s.slotNo)

/-- The periods that begin with this slot: the credit of each is S, and what was left lapses (R420). -/
def State.beginPeriods (s : State) : State :=
  { s with fab := { s.fab with standSrc := s.fab.standSrc.map (fun x =>
      if s.periodDue x then
        { x with credit := (x.cells : Int), next := x.next + ((s.slotNo - x.next) / x.period + 1) * x.period } else x) } }

/-- STANDING_LAPSE (R419): no STANDING has arrived for two epochs. -/
def execStandingLapse (dest port tc : Nat) (s : State) : Host.Outcome State Fault Refusal :=
  outcome (dest < 4096 && port < 1024 && tc < 8) s <|
    s.setStandSrc (s.fab.standSrc.filter (fun x => !(x.is dest port tc && decide (x.heard + 2 * 16384 ≤ s.slotNo))))

/-- The packet at a VOQ's head may start under a standing grant. -/
def State.standReady (s : State) (v : Nat) (x : StandSrc) : Bool :=
  !s.stalledNow (voqKey v) && s.inStep && s.reachable x.dest && !s.fab.held.any (fun h => h.voq == v) &&
    match s.voqPkts v with
    | (e, p) :: _ => e.dest % 1024 == x.port && (p.tailIn || (p.rate != 0 && decide (x.rate ≤ p.rate))) && (s.pickLink x.dest p.hash).isSome
    | [] => false

/-- Packets released under one standing grant while its credit lasts; `n` bounds them. Of a packet whose tail is not stored one cell leaves. -/
def standRelease : Nat → Nat → StandSrc → State → StandSrc × State
  | 0, _, x, s => (x, s)
  | n + 1, v, x, s =>
    if 1 ≤ x.credit ∧ s.standReady v x then
      match s.voqPkts v with
      | (_, p) :: _ => standRelease n v { x with credit := x.credit - (if p.tailIn then p.cells else 1 : Nat) } (s.release v)
      | [] => (x, s)
    else (x, s)

/-- Periods begin, and standing credit is used before grants (R420). -/
def State.runStanding (s0 : State) : State :=
  let s := s0.beginPeriods
  s.each s.fab.standSrc (fun t x =>
    match t.grantedVoq x.dest x.port x.tc with
    | none => t
    | some v =>
      let (y, t1) := standRelease x.cells v x t
      { t1 with fab := { t1.fab with standSrc := t1.fab.standSrc.map (fun z => if z = x then y else z) } })

/-! ## The slot rhythm (R412) -/

/-- Messages of a type whose slot has come, in order of arrival. -/
def State.dueMsgs (s : State) (type : Nat) : List SchedMsg :=
  s.fab.msgs.filter (fun m => msgType m.word == type && decide (m.due ≤ s.slotNo))

/-- Act on messages and take them off. -/
def State.actOn (s : State) (ms : List SchedMsg) (f : State → SchedMsg → State) : State :=
  ({ s with fab := { s.fab with msgs := s.fab.msgs.filter (fun m => !ms.contains m) } }).each ms f

/-- Grants whose DUE has come: at most 512 act in a slot, the rest wait for the next; one past its window is discarded. -/
def State.runGrantMsgs (s : State) : State :=
  let all := s.dueMsgs 2
  let dead := all.filter (fun m => decide (m.due + 3 < s.slotNo))
  let live := all.filter (fun m => decide (s.slotNo ≤ m.due + 3))
  let s1 := (s.actOn dead (fun t _ => t)).actOn (live.take 512) (fun t m => t.actGrant m.src m.word m.due)
  if 512 ≤ live.length then s1.bump R.fsch_GRANT_LIMIT_SLOTS 0 else s1

/-- Runs of at most 31 messages. -/
def chunk31 : Nat → List Nat → List (List Nat)
  | 0, _ => []
  | n + 1, l => if l.isEmpty then [] else l.take 31 :: chunk31 n (l.drop 31)

/-- Step 7 of R412: the SCHED cells of this slot (R409, R411). -/
def State.buildSched (s : State) : State :=
  let box := s.fab.outbox
  let s1 := { s with fab := { s.fab with outbox := [] } }
  s1.each (box.map (·.1)).eraseDups (fun t d =>
    let words := (box.filter (fun e => e.1 == d)).map (·.2)
    t.each (chunk31 words.length words) (fun u ws =>
      let (c, u1) := u.oneCell 2 d (toBE 8 (ws.length * 2 ^ 56 + u.slotNo % 2 ^ 48) ++ ws.flatMap (toBE 8))
      u1.routeCell ⟨c, .built, 0, 0, 0⟩ none))

/-- The answers, REQUESTs and STANDINGs that fall due act, each in its place (R412). -/
def State.actAccepts (s : State) : State := s.actOn (s.dueMsgs 3) (fun t m => t.actAccept m.src m.word)
def State.actRequests (s : State) : State := s.actOn (s.dueMsgs 1) (fun t m => t.actRequest m.src m.word)
def State.actStandings (s : State) : State := s.actOn (s.dueMsgs 4) (fun t m => t.actStanding m.src m.word m.due)

/-- A slot in which several limits are reached counts once in GRANT_LIMIT_SLOTS, from what it was in `s0`. -/
def State.limitOnce (s s0 : State) : State :=
  s.wr R.fsch_GRANT_LIMIT_SLOTS 0 (min (s.rd R.fsch_GRANT_LIMIT_SLOTS 0) ((s0.rd R.fsch_GRANT_LIMIT_SLOTS 0 + 1) % 2 ^ 64))

/-- The fabric scheduler at a slot boundary, after the steps of R19 (R412): at the destination answers, cells written off, requests and
new grants; at the source standing grants, the packets that may leave, grants, and what is sent. -/
def State.schedule (s : State) : State :=
  (s.addBudgets.actAccepts.actUnanswered.actWriteoff.actRequests.runGrants.sendStanding.actStandings.runStreams.runStanding.runHeld.runGrantMsgs.sendRequests.buildSched).limitOnce
    s

/-- The message an arriving SCHED cell carries is received (R410, R412, R428, R472). -/
def State.schedMsg (s : State) (src word : Nat) : State :=
  let type := msgType word
  let due := s.dueSlot (bits word 15 0)
  let late := decide (due ≤ s.slotNo)
  let s1 := if late then s.bump R.fsch_SCHED_LATE 0 else s
  let keep (t : State) (due : Nat) : State := { t with fab := { t.fab with msgs := t.fab.msgs ++ [⟨src, word, due⟩] } }
  match type with
  | 1 => if s.inStep then keep s1 due else s.bump R.fsch_SCHED_LATE 0
  | 2 => if late && decide (due + 3 ≤ s.slotNo) then s1 else keep s1 due
  | 3 => if late then s1.actAccept src word else keep s1 due
  | 4 => keep s1 due
  | _ => s.bump R.fsch_SCHED_BAD 0

/-- A SCHED cell's messages (R409). -/
def State.schedCell (s : State) (c : FabCell) : State :=
  let n := min 31 (bits (fieldAt c.payload 0 8) 63 56)
  s.each (List.range n) (fun t i => t.schedMsg c.src (fieldAt c.payload (8 + 8 * i) 8))

/-! ## Reach states (R425 to R428) -/

/-- A source with no live route member is forgotten at the destination (R428). -/
def State.forgetSource (s : State) (src : Nat) : State :=
  let mine := s.fab.outs.filter (fun o => o.src == src)
  let s1 := s.each (mine.filter (fun o => o.accepted.isNone)) (fun t o => t.refund (o.q / 8) o.cells)
  { s1 with fab := { s1.fab with
      outs := s1.fab.outs.filter (fun o => o.src != src)
      early := s1.fab.early.filter (fun e => e.1 / 8192 != src)
      requests := (s1.fab.requests.map (fun (e : Nat × List ReqEnt) => (e.1, e.2.filter (fun x => x.src != src)))).filter
        (fun e => !e.2.isEmpty) } }

/-- VOQs toward a device that hold anything. -/
def State.voqsTo (s : State) (d : Nat) : List Nat := s.voqsInUse.filter (fun v => s.voqDest v == d)

/-- Cells in link queues toward a destination whose route has no live member are dropped (R426). -/
def State.dropUnrouted (s : State) (d : Nat) : State :=
  let mine (q : QCell) : Bool := q.cell.dest == d && !q.cell.directed
  s.each (s.fab.links.map (·.1)) (fun t l =>
    let x := t.link l
    (t.setLinkSt l { x with queues := x.queues.map (fun c => c.filter (fun q => !mine q)) }).each
      (x.queues.flatMap (fun c => c.filter mine)) (fun u q => u.inFlightLost q (some l)))

/-- REACH_CHANGE (R425, R426, R428): the conditions of a destination have changed. -/
def execReachChange (d : Nat) (s : State) : Host.Outcome State Fault Refusal :=
  outcome (d < 4096) s <|
    if !s.coreOn then s else
    let cause := s.unreachable d
    let s1 := if (s.liveMembers d).isEmpty then (s.forgetSource d).dropUnrouted d else s
    if cause = 0 then (s1.wr R.reach_DEST_STATE d 0).wr R.reach_CAUSE d 0
    else
      let s2 := s1.setStandSrc (s1.fab.standSrc.filter (fun x => x.dest != d))
      if s.rd R.reach_DEST_STATE d = 0 then ((s2.wr R.reach_DEST_STATE d 1).wr R.reach_HOLD_SINCE d s.slotNo).wr R.reach_CAUSE d cause
      else s2.wr R.reach_CAUSE d cause

/-- HOLD_TIME_EXPIRE (R425, R427): a destination held for HOLD_TIME is LOST, and its VOQs are discarded. -/
def execHoldTimeExpire (d : Nat) (s : State) : Host.Outcome State Fault Refusal :=
  outcome (d < 4096) s <|
    if s.rd R.reach_DEST_STATE d = 1 ∧ s.rd R.fsch_HOLD_TIME 0 * 1000 ≤ (s.slotNo - s.rd R.reach_HOLD_SINCE d) * 64 then
      let s1 := s.wr R.reach_DEST_STATE d 2
      s1.each (s1.voqsTo d) (fun t v =>
        let n := (t.voqPkts v).length
        let t1 := (t.discardQueue (voqKey v) 0x0B).add R.reach_DEST_LOST_PACKETS d n
        { t1 with fab := { t1.fab with held := t1.fab.held.filter (fun h => h.voq != v), voqs := mdel t1.fab.voqs v } })
    else s

/-- REQ_STALE (R413): a VOQ with requested cells has received no grant for REQ_STALE slots; its next request carries RESET. -/
def execReqStale (v : Nat) (s : State) : Host.Outcome State Fault Refusal :=
  outcome (v < 1048576) s <|
    let x := s.voq v
    if 0 < x.rq ∧ x.granted + s.rd R.fsch_REQ_STALE 0 ≤ s.slotNo then s.setVoq v { x with rq := 0, reset := true } else s

end Sys2Proof.Machine
end

