-- ==== Sys2Proof/Machine/Cells.lean ====
section
/-! DEFINITION. Cells on Xanla Links: sending, receiving, transit, and reassembly at the destination (12_fabric.md R382 to R387, R401;
13_fabric_scheduling.md R421, R422, R424; 15_generations.md R483). -/

namespace Sys2Proof.Machine

/-! ## Generations at reassembly (R470, R472, R483) -/

/-- A generation tag is that of a live generation. -/
def State.genLive (s : State) (tag : Nat) : Bool :=
  tag == s.rd R.gen_CURRENT 0 % 2 || (s.rd R.gen_PREV_STATE 0 == 1 && tag == (s.rd R.gen_CURRENT 0 + 1) % 2)

/-- A tag is that of the previous generation, and it is live. -/
def State.genPrev (s : State) (tag : Nat) : Bool := s.rd R.gen_PREV_STATE 0 == 1 && tag == (s.rd R.gen_CURRENT 0 + 1) % 2

/-- A packet of the previous generation is held in the present slot (R479). -/
def State.notePrev (s : State) (tag : Nat) : State := if s.genPrev tag then s.wr R.gen_LAST_HELD_SLOT 0 s.slotNo else s

/-- A stray packet: dropped with GEN_RETIRED, counted and posted at most once per epoch (R483). -/
def State.stray (s : State) (q src len : Nat) : State :=
  let s1 := ((s.qmDrop 0x0C len (some q) none).bump R.gen_STRAY_PACKETS 0).wr R.gen_LAST_STRAY 0 src
  let epoch := s.slotNo / 16384
  if s1.fab.strayEpoch = epoch + 1 then s1
  else { s1 with fab := { s1.fab with strayEpoch := epoch + 1 } }.event 0 0x001B [src * 2 ^ 52 + s.rd R.gen_CURRENT 0 * 2 ^ 36]

/-! ## Reassembly (R384) -/

def FabCell.context (c : FabCell) : Nat := c.src * 4096 + c.tag

/-- More octets of a packet that was linked at its SOP cell reach it wherever it lies past its queue. -/
def State.appendTail (s : State) (fid : Nat) (bs : Octets) : State :=
  { s with
    pip := { s.pip with atEgress := s.pip.atEgress.map (fun (e : Nat × List Leaving) => (e.1, e.2.map (fun (l : Leaving) =>
      if l.pkt.fid = fid then { l with pkt := { l.pkt with frame := l.pkt.frame ++ bs } } else l)) ) }
    prt := { s.prt with mac := s.prt.mac.map (fun (e : Nat × List MacFrame) => (e.1, e.2.map (fun (f : MacFrame) =>
      if f.fid = fid then { f with frame := f.frame ++ bs } else f))) } }

/-- A list with an element at a place. -/
def insertAt {α : Type} (l : List α) (n : Nat) (a : α) : List α := l.take n ++ a :: l.drop n

/-- A queue with one more near cell at a place counted in cells from its front. The place is never within a page: a packet that is
still arriving has not been spilled. -/
def Queue.openCell (x : Queue) (pos : Nat) : Queue :=
  if x.pages.isEmpty ∨ pos ≤ x.head.length then { x with head := insertAt x.head pos 0 }
  else { x with tail := insertAt x.tail (pos - x.head.length - 16 * x.pages.length) 0 }

/-- The packet of the store that a number names. -/
def State.pktOfFid (s : State) (fid : Nat) : Option (Nat × Pkt) := s.sto.pkts.find? (fun e => e.2.fid == fid && fid != 0)

/-- One more cell of a packet that was linked at its SOP cell. -/
def State.growPkt (s : State) (q fid : Nat) (bs : Octets) : State :=
  match s.pktOfFid fid with
  | none => s.appendTail fid bs
  | some (pid, p) =>
    let x := s.queue q
    let before := x.ents.takeWhile (fun e => e.pid != pid)
    let pos := before.foldl (fun a e => a + (match s.pkt? e.pid with
      | some k => k.cells
      | none => 0)) 0 + p.cells
    let s1 := s.setPkt pid { p with frame := p.frame ++ bs, cells := p.cells + 1, refs := p.refs ++ [1] }
    ((s1.chargeWith (· + 1) p.pool p.inPt p.tenant).setQueue q (x.openCell pos)).restall q

/-- The packet of a context, as its octets so far make it. -/
def Reasm.pkt (r : Reasm) (whole : Bool) : Pkt :=
  let w0 := fieldAt r.bytes 0 8
  let n := bridgeWords [w0]
  let words := (List.range n).map (fun i => fieldAt r.bytes (8 * i) 8)
  let frame := r.bytes.drop (8 * n)
  { frame, words, tc := r.sop.tc, gen := r.sop.gen, hash := r.sop.hash, dest := r.sop.dest * 1024 + r.sop.port, launch := none
    bad := r.bad, tailIn := whole, rate := if whole then 0 else 1600, cells := cellsFor frame.length words.length, pool := 5, inPt := none
    tenant := none, refs := [], links := 0, source := 3, direct := false, punt := none, hops := r.sop.hops, fid := r.fid, mark := r.ecn
    recircs := 0, born := r.born, marked := [] }

/-- The records of a traced packet that is linked at its destination (R502). -/
def State.traceLink (s : State) (q : Nat) (p : Pkt) : State :=
  if bits (w p.words 0) 27 27 ≠ 1 then s
  else
    let e := ((s.queue q).ents.getLast?).getD QEnt.none
    let port := qIndex q / 8
    s.queueRecord (portGroup port) q (bits (w p.words 0) 41 30)
      ⟨bits (w p.words 0) 63 52, bits (w p.words 0) 51 42, portGroup port, portPipe port % 4, true,
        (if 2 ≤ bridgeWords p.words then bits (w p.words 1) 63 16 else 0), p.hash⟩ false e.depth false e.mark

/-- A packet is linked to the egress queue of its port and TC (R244, R251); whether it was admitted. -/
def State.linkReasm (s : State) (r : Reasm) (whole : Bool) : Bool × State :=
  let q := egKey (r.sop.port * 8 + r.sop.tc)
  let p := r.pkt whole
  let (ok, s1) := s.store1 p q .fabric
  (ok, if ok then s1.traceLink q p else s1)

def State.setReasm (s : State) (k : Nat) (r : Option Reasm) : State :=
  { s with fab := { s.fab with reasm := match r with
    | some r => mins s.fab.reasm k r
    | none => mdel s.fab.reasm k } }

/-- A context is discarded and counted; a packet whose dequeue has begun ends as a BAD_TAIL packet (R384). -/
def State.discardReasm (s : State) (k : Nat) : State :=
  match mfind s.fab.reasm k with
  | none => s
  | some r =>
    let s1 := (s.setReasm k none).bump R.fab_REASM_DISCARDS 0
    if r.fid = 0 then s1
    else match s1.pktOfFid r.fid with
      | none => s1.tailArrives r.fid true
      | some (pid, p) =>
        let q := egKey (r.sop.port * 8 + r.sop.tc)
        let s2 := s1.setPkt pid { p with tailIn := true, bad := true, fid := 0 }
        (s2.setQueue q { s2.queue q with ents := (s2.queue q).ents.map (fun e => if e.pid = pid then { e with dead := true } else e) }).settle q

/-- A context's packet is whole (R421, R483). -/
def State.reasmDone (s : State) (k : Nat) (r : Reasm) : State :=
  let s1 := s.setReasm k none
  if r.fid ≠ 0 then s1.tailArrives r.fid r.bad
  else if r.dropped then s1
  else if s.rd R.gen_GEN_STATE 0 = 0 ∨ !s.genLive r.sop.gen then s1.stray (egKey (r.sop.port * 8 + r.sop.tc)) r.sop.src (r.pkt true).len
  else (s1.linkReasm r true).2

/-- The SOP cell of a packet opens its context; with FABRIC_CT its packet is linked at once (R384, R421). -/
def State.openReasm (s : State) (c : FabCell) (bs : Octets) : State :=
  if 16384 ≤ s.fab.reasm.length then s
  else
    let r : Reasm := ⟨c, 1, bs, c.badTail, c.ecn, s.clk.ticks, s.slotNo + 1, 0, false⟩
    if c.eop then s.reasmDone c.context r
    else if s.on R.feq_FABRIC_CT (c.port * 8 + c.tc) && s.rd R.gen_GEN_STATE 0 == 1 && s.genLive c.gen then
      let fid := s.prt.nextFid
      let s1 := { s with prt := { s.prt with nextFid := fid + 1 } }
      let (ok, s2) := s1.linkReasm { r with fid } false
      s2.setReasm c.context (some { r with fid := if ok then fid else 0, dropped := !ok })
    else s.setReasm c.context (some r)

/-- A DATA cell for this device (R384, R416). -/
def State.reassemble (s0 : State) (c : FabCell) : State :=
  let s := (s0.cellArrives c.src (c.port * 8 + c.tc)).notePrev c.gen
  let k := c.context
  let bs := c.payload.take c.count
  if 768 ≤ c.port then s.bump R.fab_REASM_DISCARDS 0
  else if c.sop then
    let s1 := s.discardReasm k
    if c.index ≠ 0 then s1.bump R.fab_REASM_DISCARDS 0 else s1.openReasm c bs
  else match mfind s.fab.reasm k with
    | none => s
    | some r =>
      if c.index ≠ r.next then s.discardReasm k
      else
        let r' := { r with
          next := r.next + 1, bytes := if r.fid = 0 then r.bytes ++ bs else r.bytes, bad := r.bad || c.badTail, ecn := r.ecn || c.ecn
          since := s.clk.ticks }
        let s1 := if r.fid = 0 then s else s.growPkt (egKey (r.sop.port * 8 + r.sop.tc)) r.fid bs
        if c.eop then s1.reasmDone k r' else s1.setReasm k (some r')

/-- REASM_TIMEOUT (R384): a context has received no cell for REASM_TIMEOUT. -/
def execReasmTimeout (src tag : Nat) (s : State) : Host.Outcome State Fault Refusal :=
  outcome (src < 4096 && tag < 4096) s <|
    match mfind s.fab.reasm (src * 4096 + tag) with
    | some r => if s.past r.since (ticksUs (s.rd R.fab_REASM_TIMEOUT 0)) then s.discardReasm (src * 4096 + tag) else s
    | none => s

/-! ## Receiving (R384, R385, R401, R424) -/

/-- A cell passes in the state of its link: any in UP; link-directed MGMT in UNKNOWN, QUARANTINE and FENCED (R392). -/
def State.cellPasses (s : State) (l : Nat) (c : FabCell) : Bool :=
  let st := s.rd R.link_LINK_STATE l
  st == 7 || ((st == 4 || st == 6 || st == 8) && c.directed && c.kind == 1)

/-- A cell's VL is one that its KIND permits (R401). -/
def FabCell.vlOk (c : FabCell) : Bool := if c.kind = 0 then decide (c.vl < 3) else c.kind != 3 && c.vl == 3

/-- An accepted cell is forwarded, reassembled or served. -/
def State.takeCell (s : State) (l : Nat) (c0 : FabCell) : State :=
  let c := { c0 with hops := (c0.hops + 1) % 8, ecn := c0.ecn && s.rd R.link_VERSION l != 1 }
  if !c.vlOk then ((s.bump R.lcnt_BAD_VL l).returnCredit l c.vl).passed c
  else if c.dest = s.myId ∨ c.directed then
    let s1 := s.returnCredit l c.vl
    match c.kind with
    | 0 => s1.reassemble c
    | 1 => s1.mgmtArrives (c.payload.take c.count) (if c.directed then some l else none)
    | _ => s1.schedCell c
  else if c.hops = 4 then ((s.bump R.lcnt_HOP_LIMIT l).returnCredit l c.vl).passed c
  -- later cells of a packet in transit that an ADOPT discarded go with it (R485)
  else if c.kind = 0 ∧ !c.sop ∧ s.fab.retired.contains c.packet then
    ({ s with fab := { s.fab with retired := if c.eop then s.fab.retired.filter (· != c.packet) else s.fab.retired } }).returnCredit l c.vl
  else
    let s1 := s.notePrev (if c.kind = 0 then c.gen else s.rd R.gen_CURRENT 0 % 2)
    let s2 := if c.kind = 0 ∧ c.sop then { s1 with fab := { s1.fab with passing := mins s1.fab.passing c.packet (c.gen, s.slotNo + 1) } } else s1
    s2.routeCell ⟨c, .transit l c.vl, c.vl, 0, s.slotNo + 1⟩ none

/-- CELL_RECEIVED (R385): a cell arrives on a link with the SEQ of its CSTART and, where ACK_VALID is set, its ACK_SEQ. Only the next
expected SEQ with a good CRC is accepted. -/
def execCellReceived (link seq : Nat) (ack : Option Nat) (header payload : Octets) (s : State) : Host.Outcome State Fault Refusal :=
  outcome (link < 768 && seq < 4096 && header.length == 16 && payload.length == 256 && (ack.getD 0) < 4096
      && header.all (· < 256) && payload.all (· < 256)) s <|
    if s.rd R.link_LINK_STATE link < 3 then s
    else
      let s0 := match ack with
        | some a => s.acked link a
        | none => s
      let x := s0.link link
      let c := parseCell header payload
      if cellCrc header payload ≠ fieldAt header 12 4 then (s0.bump R.lcnt_CRC_ERRORS link).nak link
      else if !s0.cellPasses link c then s0
      else if seq ≠ x.rxSeq then (if (seq + 4096 - x.rxSeq) % 4096 < 2048 then s0.nak link else s0.sendAck link false)
      else
        let s1 := (s0.setLinkSt link { x with rxSeq := (seq + 1) % 4096, nakAt := none }).bump R.lcnt_CELLS_RX link
        (s1.sendAck link false).takeCell link c

/-! ## Sending (R386, R387, R424) -/

/-- On a version 1 link the ECN mark of a cell is sent as zero (R394). -/
def State.dropsMark (s : State) (l : Nat) (c : FabCell) : Bool := s.rd R.link_VERSION l == 1 && c.ecn

/-- A marked packet whose mark is dropped counts once, at the first transmission of its first cell (R394). -/
def State.countMarkLost (s : State) (l : Nat) (c : FabCell) : State :=
  if s.dropsMark l c && c.sop then s.bump R.lcnt_ECN_LOST l else s

/-- A cell goes out on a link under a SEQ. -/
def State.emitCell (s : State) (l seq : Nat) (c0 : FabCell) : State :=
  let c := { c0 with ecn := c0.ecn && !s.dropsMark l c0 }
  s.sendUnit l 35 (.cell l seq c.vl c.headerBytes (slice c.payload 0 256))

/-- The VL that a link serves next: VL 3 first, then VL 0 to VL 2 in round robin among those with credit (R387, R424). -/
def State.nextVl (s : State) (l : Nat) : Option Nat :=
  let x := s.link l
  let up := s.linkIsUp l
  let ready (v : Nat) : Bool := match x.queues.getD v [] with
    | [] => false
    | q :: _ => s.cellPasses l q.cell && (!up || x.credit v != 0)
  if ready 3 then some 3
  else [(x.lastVl + 1) % 3, (x.lastVl + 2) % 3, x.lastVl % 3].find? ready

/-- The packet that a cell of the store belongs to has been found bad (R422). -/
def State.originBad (s : State) (o : Origin) : Bool :=
  match o with
  | .stored pid _ _ _ => (match s.pkt? pid with
    | some p => p.bad
    | none => false)
  | _ => false

/-- A VOQ's shaper is charged when a packet's first cell leaves (R308). -/
def State.chargeVoq (s : State) (c : FabCell) (o : Origin) : State :=
  match o with
  | .stored pid _ _ _ =>
    if !c.sop then s
    else match s.pkt? pid, s.destQueue (c.dest * 1024 + c.port) c.tc with
      | some p, some q => (match s.voqShaper (qIndex q) with
        | some n => s.charge n p.len
        | none => s)
      | _, _ => s
  | _ => s

/-- A cell of a packet turns out to be poisoned as it leaves: the cells of the packet that have not left carry BAD_TAIL as well, and the
packet is counted; a cell in transit marks itself only (R265, R266, R422). -/
def State.spoil (s : State) (l : Nat) (q : QCell) : State :=
  match q.origin with
  | .stored pid _ _ _ =>
    let x := s.link l
    let mine (c : QCell) : Bool := c.cell.kind == 0 && c.cell.packet == q.cell.packet
    let s1 := s.setLinkSt l { x with queues := x.queues.map (fun v => v.map (fun (c : QCell) =>
      if mine c then { c with cell := { c.cell with badTail := true } } else c)) }
    let s2 := { s1 with fab := { s1.fab with streams := s1.fab.streams.map (fun (y : Stream) =>
      if y.pid = pid ∧ y.tag = q.cell.tag ∧ y.dest / 1024 % 4096 = q.cell.dest then { y with bad := true } else y) } }
    (match s2.pkt? pid with
    | some p => s2.countMark 2 pid p
    | none => s2)
  | _ => s

/-- Send the next new cell of a VL. `found`: 1 a correctable, 2 an uncorrectable error in the cell's place of the store (R422). -/
def State.sendNew (s0 : State) (l v found : Nat) : State :=
  match (s0.link l).queues.getD v [] with
  | [] => s0
  | q :: _ =>
    let mem := q.origin != .built
    let s := if mem && found == 2 then s0.spoil l q else s0
    let x := s.link l
    let c := { q.cell with badTail := q.cell.badTail || s.originBad q.origin || (mem && found == 2) }
    let x1 := { x with
      queues := x.queues.set v ((x.queues.getD v []).drop 1), lastVl := if v = 3 then x.lastVl else v, txSeq := (x.txSeq + 1) % 4096
      replay := x.replay ++ [(x.txSeq, { q with cell := c })]
      progress := if x.replay.isEmpty then s.clk.ticks else x.progress
      charged := if s.linkIsUp l then x.charged.set v ((x.charged.getD v 0 + 1) % 4096) else x.charged }
    let s1 := (s.setLinkSt l x1).bump R.lcnt_CELLS_TX l
    let s2 := match q.origin with
      | .transit _ _ => s1.bump R.linkq_TRANSIT_SENT l
      | .stored _ _ _ _ => s1.bump R.linkq_LOCAL_SENT l
      | .built => s1
    let s3 := if mem then s2.readFound found else s2
    ((((s3.chargeVoq c q.origin).countMarkLost l c).emitCell l x.txSeq c).releaseOrigin q.origin)

/-- CELL_SEND (R385 to R387, R424): a link sends its next cell: one to be replayed, or the next new one while its share of the replay
buffer has room. -/
def execCellSend (link found : Nat) (s : State) : Host.Outcome State Fault Refusal :=
  outcome (link < 768 && found < 3) s <|
    let x := s.link link
    match x.resend with
    | q :: rest => match x.replay.find? (fun e => e.1 == q) with
      | none => s.setLinkSt link { x with resend := rest }
      | some (_, e) =>
        if !s.cellPasses link e.cell then s
        else
          let n := e.resent + 1
          let s1 := (s.setLinkSt link { x with
            resend := rest, replay := x.replay.map (fun y => if y.1 = q then (y.1, { y.2 with resent := n }) else y) }).bump R.lcnt_REPLAYED link
          let s2 := s1.emitCell link q e.cell
          if 16 ≤ n then s2.resendFails link else s2
    | [] =>
      if 256 * s.rd R.link_WIDTH link ≤ x.replay.length + 1 then s
      else match s.nextVl link with
        | some v => s.sendNew link v found
        | none => s

end Sys2Proof.Machine
end

