-- ==== Sys2Proof/Machine/Generations.lean ====
section
/-! DEFINITION. Forwarding generations: the advance, the drain status, retirement and adoption (15_generations.md R470 to R487). -/

namespace Sys2Proof.Machine

/-! ## Packets that the device holds (R478, R479) -/

/-- A packet that the device holds: a number that names it, its generation tag, the slot plus 1 in which its holding began, and the place
by the bits of PREV_WHERE (7 for a place that has none). -/
structure HeldPkt where
  id : Nat
  gen : Nat
  born : Nat
  place : Nat
deriving DecidableEq, Repr

/-- Packets of the store in VOQs and egress queues; a packet is one, however many of its replicas wait. -/
def State.heldQueued (s : State) : List HeldPkt :=
  (s.sto.queues.filter (fun e => qKind e.1 < 2)).flatMap (fun e =>
    e.2.ents.filterMap (fun x => if x.dead then none else (s.pkt? x.pid).map (fun p => ⟨8 * x.pid, p.gen, p.born, qKind e.1⟩)))

/-- Packets that await replication. -/
def State.heldRepl (s : State) : List HeldPkt :=
  s.sto.repl.flatMap (fun e => e.2.filterMap (fun r => (s.pkt? r.pid).map (fun p => ⟨8 * r.pid, p.gen, p.born, 2⟩)))

/-- Packets in pipelines, park buffers, MACs, on the wire and in recirculation buffers; each is one of its own. One whose later cells find
it by a number is named by that. -/
def State.heldPiped (s : State) : List HeldPkt :=
  let parked := s.pip.parked.flatMap (fun e => e.2.map (fun p => (0, hvTag p.hv, p.pkt.born, 2)))
  let egress := s.pip.atEgress.flatMap (fun e => e.2.map (fun l => (l.pkt.fid, l.pkt.gen, l.pkt.born, 2)))
  let mac := s.prt.mac.flatMap (fun e => e.2.map (fun f => (f.fid, hvTag f.hv, f.born, 2)))
  let wire := s.prt.sending.filterMap (fun e => if s.txIdle e.1 then none else some (0, e.2.1, e.2.2, 2))
  let recirc := s.pip.pipes.flatMap (fun e => e.2.recirc.map (fun p => (0, p.kept.getD 0 0, p.born, 3)))
  ((parked ++ egress ++ mac ++ wire ++ recirc).zipIdx).map (fun e =>
    ⟨if e.1.1 = 0 then 8 * e.2 + 1 else 8 * e.1.1 + 5, e.1.2.1, e.1.2.2.1, e.1.2.2.2⟩)

/-- Packets under reassembly whose cells are not dropped; one that was linked at its SOP cell is named by the store while it is there, and
after its dequeue by the number that its later cells find it by, while a pipeline or MAC holds it. -/
def State.heldReasm (s : State) : List HeldPkt :=
  let past := s.heldPiped.map (·.id)
  s.fab.reasm.filterMap (fun e =>
    let r := e.2
    if r.dropped then none
    else if r.fid = 0 then some ⟨8 * e.1 + 2, r.sop.gen, r.born, 4⟩
    else match s.pktOfFid r.fid with
      | some (pid, _) => some ⟨8 * pid, r.sop.gen, r.born, 4⟩
      | none => if past.contains (8 * r.fid + 5) then some ⟨8 * r.fid + 5, r.sop.gen, r.born, 4⟩ else none)

/-- Packets of which cells wait in link queues or replay buffers, and packets in transit of which cells are still to come. -/
def State.heldCells (s : State) : List HeldPkt :=
  s.fab.links.flatMap (fun e =>
      (e.2.queues.flatMap id).filterMap (fun q => if q.cell.kind = 0 then some (⟨8 * q.cell.packet + 3, q.cell.gen, q.born, 5⟩ : HeldPkt) else none)
        ++ e.2.replay.filterMap (fun r => if r.2.cell.kind = 0 then some (⟨8 * r.2.cell.packet + 3, r.2.cell.gen, r.2.born, 6⟩ : HeldPkt) else none))
    ++ s.fab.passing.map (fun e => ⟨8 * e.1 + 3, e.2.1, e.2.2, 7⟩)
    ++ s.fab.streams.filterMap (fun x => (s.pkt? x.pid).map (fun p =>
        ⟨8 * ((s.myId * 4096 + x.dest / 1024 % 4096) * 4096 + x.tag) + 3, p.gen, p.born, 7⟩))

/-- Every packet the device holds. Mirror copies and exported records, which entered no ingress parser, have no such slot and are none. -/
def State.heldPkts (s : State) : List HeldPkt :=
  (s.heldQueued ++ s.heldRepl ++ s.heldPiped ++ s.heldReasm ++ s.heldCells).filter (fun h => h.born != 0)

/-- The drain status at a slot boundary (R479). -/
def State.drainStatus (s : State) : State :=
  if s.rd R.gen_PREV_STATE 0 = 0 then ((s.wr R.gen_PREV_HELD 0 0).wr R.gen_OLDEST_PREV 0 0).wr R.gen_PREV_WHERE 0 0
  else
    let mine := s.heldPkts.filter (fun h => s.genPrev h.gen)
    let n := ((mine.map (·.id)).eraseDups).length
    let oldest := mine.foldl (fun a h => min a (h.born - 1)) s.slotNo
    let where_ := ((mine.map (·.place)).eraseDups.filter (· < 7)).foldl (fun a b => a + 2 ^ b) 0
    let s1 := ((s.wr R.gen_PREV_HELD 0 (min n (2 ^ 32 - 1))).wr R.gen_OLDEST_PREV 0 (if mine.isEmpty then 0 else oldest)).wr
      R.gen_PREV_WHERE 0 where_
    if mine.isEmpty then s1 else s1.wr R.gen_LAST_HELD_SLOT 0 s.slotNo

/-! ## Advance, retirement, adoption (R475, R476, R481, R485) -/

/-- A generation advance takes effect (R476). -/
def State.advance (s : State) : State :=
  let next := s.rd R.gen_NEXT 0
  let s1 := (((s.wr R.gen_PREV_STATE 0 1).wr R.gen_CURRENT 0 next).wr R.gen_GEN_STATE 0 1).wr R.gen_ADVANCED_SLOT 0 s.slotNo
  s1.event 0 0x0019 [next * 2 ^ 48 + s.slotNo % 2 ^ 48]

/-- A RETIRE takes effect (R481); one generation is retired once. -/
def State.retireGen (s : State) (g : Nat) : State :=
  if s.rd R.gen_PREV_STATE 0 ≠ 1 then s
  else
    let s1 := (s.wr R.gen_PREV_STATE 0 0).wr R.gen_RETIRED_SLOT 0 s.slotNo
    s1.event 0 0x001A [g * 2 ^ 48 + s.slotNo % 2 ^ 48]

/-- A packet in a pipeline, a park buffer, a MAC or a recirculation buffer goes with GEN_RETIRED; `q` is the queue it was or would have been
in, where it has one (R264). -/
def State.dropRetired (s : State) (len : Nat) (q : Option Nat) : State := s.qmDrop 0x0C len q none

/-- Every DATA cell of a link's queues goes; its packet is counted under `reason` at the first of its cells. -/
def State.dropLinkData (s : State) (reason l : Nat) : State :=
  let x := s.link l
  let (gone, stay) := ((x.queues.take 3).flatMap id).partition (fun q => q.cell.kind == 0)
  let s1 := s.setLinkSt l { x with queues := [stay, [], [], x.queues.getD 3 []] }
  let r := gone.foldl (fun (a : List Nat × State) q =>
    let p := q.cell.packet
    if a.1.contains p then (a.1, a.2.releaseOrigin q.origin)
    else
      let (len, t) : Nat × State := match q.origin with
        | .stored pid _ _ _ => ((match a.2.pkt? pid with
          | some k => k.len
          | none => 0), a.2)
        | _ => a.2.free 14
      (p :: a.1, (t.qmDrop reason len (t.cellQueue q) none).releaseOrigin q.origin)) ([], s1)
  r.2

/-- The packet of a stream as its cells number it. -/
def State.streamPacket (s : State) (x : Stream) : Nat := (s.myId * 4096 + x.dest / 1024 % 4096) * 4096 + x.tag

/-- The cells of a packet that were still to follow its first go; the packet is counted unless a cell of it was, in a link queue. -/
def State.dropStream (s : State) (reason : Nat) (counted : Bool) (x : Stream) : State :=
  match s.pkt? x.pid with
  | none => s
  | some p =>
    let s1 := if counted then s else s.qmDrop reason p.len (s.destQueue x.dest x.tc) none
    (s1.each ((List.range p.cells).drop x.next) (fun t i => t.releaseOwn x.pid i)).unlink x.pid

/-- Every DATA cell that waits for a link goes, with the packets that were leaving. -/
def State.dropLeaving (s : State) (reason : Nat) : State :=
  let queued := (s.fab.links.flatMap (fun e => (e.2.queues.take 3).flatMap id)).map (fun q => q.cell.packet)
  let s1 := s.each (s.fab.links.map (·.1)) (fun t l => t.dropLinkData reason l)
  let s2 := s1.each s1.fab.streams (fun t x => t.dropStream reason (queued.contains (t.streamPacket x)) x)
  { s2 with fab := { s2.fab with
    streams := [], held := []
    reasm := s2.fab.reasm.map (fun (e : Nat × Reasm) => if e.2.fid = 0 then e else (e.1, { e.2 with fid := 0, dropped := true })) } }

/-- DATA cells of a link's replay buffer go, each packet counted at the first of them unless it is counted already; other cells keep their
order under the numbers from the first on, and are sent again (R485, DEDUCED, log entry 48). -/
def State.dropReplayData (s : State) (counted : List Nat) (l : Nat) : State :=
  let x := s.link l
  let (gone, stay) := x.replay.partition (fun e => e.2.cell.kind == 0)
  match x.replay with
  | [] => s
  | first :: _ =>
    if gone.isEmpty then s
    else
      let kept := stay.zipIdx.map (fun (e : (Nat × QCell) × Nat) => ((first.1 + e.2) % 4096, e.1.2))
      let s1 := s.setLinkSt l { x with replay := kept, resend := kept.map (·.1), txSeq := (first.1 + kept.length) % 4096 }
      (gone.foldl (fun (a : List Nat × State) e =>
        let p := e.2.cell.packet
        if a.1.contains p then a else let (n, t) := a.2.free 14; (p :: a.1, t.dropRetired n (t.cellQueue e.2))) (counted, s1)).2

/-- A frame in transmission on a port goes: the MAC ends it at once with an error block (R365, R485). -/
def State.cutFrame (s : State) (port : Nat) : State :=
  if s.txIdle port then s
  else
    let n := mget 0 s.prt.txLen port
    ({ s with prt := { s.prt with sending := mdel s.prt.sending port, txEnd := mput 0 s.prt.txEnd port s.clk.ticks } }.emit (.frameError port)).dropRetired
      n none

/-- Every packet the device holds is discarded with GEN_RETIRED, whatever its tag (R485). -/
def State.discardHeld (s : State) : State :=
  let s1 := s.each (s.pip.parked.flatMap (fun e => e.2.map (fun p => (e.1, p)))) (fun t e =>
    ((t.leaveLists e.1 e.2.pipe e.2.seq).dropRetired e.2.pkt.frame.length none).endPass e.1 e.2.pipe false e.2.hv e.2.trace 0x0C 1 0)
  let s2 := s1.each (s.pip.parked.map (·.1)) (fun t g => t.setParked g [])
  let s3 := s2.each (s2.pip.atEgress.flatMap (fun e => e.2.map (fun l => (l.pkt.len, egKey (8 * e.1 + l.ent.tc)))))
    (fun t x => t.dropRetired x.1 (some x.2))
  let s4 := s3.each (s3.prt.mac.flatMap (fun e => e.2.map (fun f => (e.1, f)))) (fun t x =>
    (t.dropRetired x.2.frame.length (some (egKey (8 * x.1 + x.2.tc)))).endPass (portGroup x.1) (portPipe x.1) true x.2.hv x.2.trace 0x0C 1 0)
  let s5 := s4.each (s4.pip.pipes.flatMap (fun e => e.2.recirc.map (fun p => p.frame.length))) (fun t n => t.dropRetired n none)
  let s6 := { s5 with
    pip := { s5.pip with atEgress := [], pipes := s5.pip.pipes.map (fun (e : Nat × PipeSt) => (e.1, { e.2 with recirc := [] })) }
    prt := { s5.prt with mac := [] } }
  let s7 := s6.each (s6.sto.repl.flatMap (fun e => e.2.map (·.pid))) (fun t pid =>
    (t.dropRetired (match t.pkt? pid with
      | some p => p.len
      | none => 0) none).endRepl pid)
  let s8 := { s7 with sto := { s7.sto with repl := [] } }
  let s9 := s8.each (s8.fab.reasm.filter (fun e => e.2.fid == 0 && !e.2.dropped)) (fun t e => t.dropRetired (e.2.pkt true).len
    (some (egKey (e.2.sop.port * 8 + e.2.sop.tc))))
  let queued := (s9.fab.links.flatMap (fun e => (e.2.queues.take 3).flatMap id)).map (fun q => q.cell.packet)
  let s10 := ((s9.dropLeaving 0x0C).each (s9.fab.links.map (·.1)) (fun t l => t.dropReplayData queued l)).each (s9.prt.sending.map (·.1)) State.cutFrame
  let s11 := s10.each ((s10.sto.queues.filter (fun e => qKind e.1 < 2)).map (·.1)) (fun t q => t.discardQueue q 0x0C)
  { s11 with fab := { s11.fab with
    reasm := s11.fab.reasm.filter (fun e => e.2.dropped), voqs := [], passing := []
    retired := s11.fab.retired ++ s.fab.passing.map (·.1) } }

/-- An ADOPT takes effect (R485). -/
def State.adoptGen (s : State) (g : Nat) : State :=
  let k := key R.gen_NEXT 0
  let s1 := (((s.wr R.gen_CURRENT 0 g).wr R.gen_NEXT 0 g).wr R.gen_PREV_STATE 0 0).wr R.gen_GEN_STATE 0 1
  { s1 with acc := { s1.acc with staged := mdel s1.acc.staged k } }.discardHeld

end Sys2Proof.Machine
end

