-- ==== Sys2Proof/Machine/HostPath.lean ====
section
/-! DEFINITION. Packets between host memory and the device: transmit fetch and receive delivery (17_host_endpoint.md R534 to R537). -/

namespace Sys2Proof.Machine

/-! ## Transmit (R534, R535) -/

/-- The frame that the device makes of a fetched packet: it appends the FCS. -/
def txFrame (data : Octets) : Octets := data ++ toLE 4 (crc32 0xFFFFFFFF data)

/-- A packet of a PIPELINE ring waits for its ingress slot; `n` descriptors complete when it takes it. -/
def State.txPipeline (s : State) (r n : Nat) (frame : Octets) : State :=
  let pipe := s.ringCfg R.ring_TX_PIPE r
  let p : InPkt := ⟨frame, 1, s.ringCfg R.ring_TX_PORT r, stamp48 s.now, true, true, false, 0, [], 0, 0, none, 0, 0⟩
  s.setPipe pipe { s.pipe pipe with host := (s.pipe pipe).host ++ [(n * 256 + r, p)] }

/-- A packet of a PORT_DIRECT ring goes to its egress queue. -/
def State.txDirect (s : State) (r n : Nat) (d : List Nat) (frame : Octets) : State :=
  let w1 := d.getD 1 0
  let port := bits w1 43 34
  let tc := bits w1 46 44
  let launch := if bit w1 47 then some (bits (d.getD 2 0) 63 16) else none
  let p := { s.directPkt frame port tc (s.ringCfg R.ring_TX_PORT r) launch with born := s.slotNo + 1 }
  let (ok, s1) := s.store1 p (egKey (port * 8 + tc)) .direct
  s1.txDone r n (frame.length - 4) (!ok)

/-- TX_FETCH_COMPLETE (R534, R535): the fetch of the packet at RING_HEAD of a transmit ring completes: the descriptors read from
there on and the octets of the buffers of its packet. Descriptors that break the rules stop the ring; those of a packet whose end the host has
not given yet are read again after the next doorbell. -/
def execTxFetchComplete (ring : Nat) (descs : List (List Nat)) (data : List Nat) (s : State) : Host.Outcome State Fault Refusal :=
  outcome (ring < 256 && !descs.isEmpty && descs.length ≤ 16 && descs.all (fun d => d.length == 4 && d.all (· < 2 ^ 64))
      && data.all (· < 256) && (txCheck (packetDescs descs) != 0 || data.length == txTotal (packetDescs descs))) s <|
    if !s.ringRuns ring || !(s.ring ring).fetching || s.ep.reads.all (fun x => x.engine != ring) || s.ringLeft ring < descs.length then s
    else
      let s0 := s.completeReads ring (s.ringCfg R.ring_FUNCTION ring)
      let s1 := s0.setRing ring { s0.ring ring with waitGroup := none }
      let ds := packetDescs descs
      let d := ds.headD []
      let port := bits (d.getD 1 0) 43 34
      let direct := s.ringCfg R.ring_TX_MODE ring == 1
      let idle (w : Option Nat) : State := s1.setRing ring { s1.ring ring with fetching := false, waitGroup := w }
      (if txCheck ds = 1 ∨ (direct ∧ 768 ≤ port) then s1.stopRing ring 5
      else if txCheck ds = 2 then idle none
      else if direct && !s.grpRuns (portGroup port) then idle (some (portGroup port))
      else if direct then (s1.readBuffers ring ds).txDirect ring ds.length d (txFrame data)
      else (s1.readBuffers ring ds).txPipeline ring ds.length (txFrame data)).pumpReads

/-! ## Receive (R536, R537) -/

/-- The 64-byte receive header of a packet. -/
def State.rxHeader (s : State) (p : Pkt) (e : QEnt) (bad : Bool) : Octets :=
  let u := p.punt.getD ⟨0, false, false, 0, 0, [], none⟩
  let m (i : Nat) : Nat := u.mds.getD i 0
  wordsLE [
    u.reason % 256 * 2 ^ 56 + b2n u.trap.isSome * 2 ^ 55 + b2n u.egress * 2 ^ 54 + b2n u.copy * 2 ^ 53 + bits (m 0) 15 15 * 2 ^ 52
      + b2n bad * 2 ^ 51 + p.gen % 2 * 2 ^ 50 + e.tc % 8 * 2 ^ 47 + bits (m 0) 9 0 * 2 ^ 37 + bits (m 1) 47 36 * 2 ^ 25
      + (p.frame.length - 4) % 2 ^ 14 * 2 ^ 11,
    bits (m 0) 63 16 * 2 ^ 16 + p.hash % 65536,
    (if u.egress then bits (m 5) 11 0 else s.rd R.ident_DEVICE_ID 0 % 4096) * 2 ^ 52 + u.pipe / 4 * 2 ^ 49 + u.pipe % 4 * 2 ^ 47
      + (if u.egress then u.port % 1024 else 0) * 2 ^ 37,
    m 7, stamp48 s.now * 2 ^ 16, 0, 0, 0]

/-- What the host receives of a packet (R537): header, trap frame, and the frame without FCS. -/
def State.rxBytes (s : State) (p : Pkt) (e : QEnt) (bad : Bool) : Octets :=
  s.rxHeader p e bad ++ ((p.punt.bind (·.trap)).getD []) ++ p.frame.take (p.frame.length - 4)

/-- The shaper of a host queue (R304). -/
def hostShaper (r : Nat) : Nat := 6912 + r

/-- A receive ring may fill a buffer with a packet of its host queue: RUNNING, a buffer given, the front packet stored whole, and,
for a packet not begun, the queue's shaper at zero or more. -/
def State.rxReady (s : State) (r : Nat) : Bool :=
  s.ringRuns r && s.ringCfg R.ring_DIRECTION r == 1 && s.masters (s.ringCfg R.ring_FUNCTION r) && s.ringLeft r != 0 && s.frontReady (hostKey r) (fun _ => false)
    && ((s.ring r).progress != 0 || s.shaperOk (hostShaper r))

/-- Fill one buffer with the next part of the front packet; with its end, the packet leaves the host queue. `found` is what the store
found in the cells of this part: 1 correctable, 2 uncorrectable, which the header shows while it is still to be written (R266). -/
def State.rxFill (s0 : State) (r found : Nat) (e : QEnt) (p0 : Pkt) : State :=
  let p := e.reads p0
  let near := (s0.queue (hostKey r)).head.take p.cells
  let at_ := (s0.ring r).progress
  let s := (s0.countTails (withFound (if at_ = 0 then near else []) found) e.pid p0).readFound found
  let all := s.rxBytes p e (p.bad || badNear (withFound near found))
  let part := (all.drop at_).take (s.ringCfg R.ring_BUF_SIZE r)
  let last := all.length ≤ at_ + part.length
  let s1 := if at_ = 0 then s.charge (hostShaper r) p.frame.length else s
  let s2 := (s1.readDesc r).emit (.ringData r ((s1.ring r).head % s.ringCfg R.ring_ENTRIES r) 0 part)
  let s3 := s2.setRing r { s2.ring r with progress := if last then 0 else at_ + part.length }
  let s4 := s3.completeDesc r (2 ^ 63 + b2n (at_ == 0) * 2 ^ 62 + b2n last * 2 ^ 61 + 1 * 2 ^ 57 + part.length * 2 ^ 42)
  if last then (((s4.carried r (p.frame.length - 4)).dequeue (hostKey r)).2).settle (hostKey r) else s4

/-- RX_DELIVER (R536, R537): a receive ring fills its next buffer with the packet at the front of its host queue, or with the next
part of it. An open buffer of records is closed first. `found`: 3 an uncorrectable error in the queue's link or descriptor memory, which
discards the queue (R266); 1 and 2 as `rxFill`. -/
def execRxDeliver (part : RxPart) (s : State) : Host.Outcome State Fault Refusal :=
  outcome (part.ring < 256 && part.found < 4) s <|
    let ring := part.ring
    let found := part.found
    if !s.rxReady ring then s
    else if found = 3 then
      let t := s.linkBad (hostKey ring)
      t.setRing ring { t.ring ring with progress := 0 }
    else
      let s1 := s.closeBuf ring
      if s1.ringLeft ring = 0 then s1
      else match (s1.queue (hostKey ring)).ents.head? with
        | none => s1
        | some e => match s1.pkt? e.pid with
          | none => s1
          | some p => s1.rxFill ring found e p

end Sys2Proof.Machine
end

