-- ==== Sys2Proof/Machine/Refs.lean ====
section
/-! DEFINITION. The reference monitor: states of the four inputs, and what follows from them (14_time.md R446 to R448; 10_lanes.md
R327, R328; 19_power_reset_boot.md R588). -/

namespace Sys2Proof.Machine

/-- Epochs in a row that let an input leave its state. -/
def State.refRun (s : State) (i : Nat) : Nat := mget 0 s.time.refRun i
def State.setRefRun (s : State) (i n : Nat) : State := { s with time := { s.time with refRun := mput 0 s.time.refRun i n } }

/-- The time PLL is to switch at the next epoch boundary, provided its standby is HEALTHY then (R448). -/
def State.pendPll (s : State) : State := { s with time := { s.time with pllPending := true } }

/-- One more reading of an epoch, in ppb: the last 16 stay (R446). -/
def State.noteReading (s : State) (k : Nat) (v : Int) : State :=
  { s with time := { s.time with refHist := mins s.time.refHist k ((v :: (mfind s.time.refHist k).getD []).take 16) } }

/-- The average of the last 16 epochs' readings in steps of 10 ppb, rounded to a step below or above by a free value. Before 16 epochs have
been measured it is that of those there are (log entry 72). -/
def State.averaged (s : State) (k : Nat) : Int × State :=
  let l := (mfind s.time.refHist k).getD []
  let (q, s1) := s.divFree (l.foldl (· + ·) 0) (10 * max 1 l.length)
  (10 * q, s1)

/-- A reading taken in, and its average written to a register of an input's object. -/
def State.measureRef (s : State) (k : Nat) (v : Int) (r : Reg) (i : Nat) : State :=
  let (a, s1) := (s.noteReading k v).averaged k
  s1.wrI r i a

/-- What an input's new state brings about for the PLLs (R447, R448, R588, R443). -/
def State.refActs (s : State) (i st : Nat) : State :=
  let inUse := s.rd R.invar_TIME_REF_IN_USE 0 == i
  if st = 1 then (if inUse && s.on R.invar_TIME_AUTO_SWITCH 0 then s.pendPll else s)
  else if st = 2 then
    let s1 := if inUse then (s.setCause 0 true).pendPll else s
    if s.time.corePllRef = i ∧ s.refHealthy s.time.corePllStandby then { s1 with time := { s1.time with corePllPending := true } } else s1
  else s

/-- An input moves to a state: counted, posted, reported (R447). -/
def State.setRefState (s : State) (i st : Nat) : State :=
  let s1 := (s.wr R.refm_REF_STATE i st).setRefRun i 0
  let s2 := s1.event 0 (0x0012 + st) [i * 2 ^ 56 + st * 2 ^ 48 + s1.rd R.refm_OFFSET_PPB i]
  let s3 := match st with
    | 1 => (s2.bump32 R.refm_ALERTS i).fault 0x012 0x1E i
    | 2 => (s2.bump32 R.refm_FAILS i).fault 0x012 0x1F i
    | _ => s2
  s3.refActs i st

/-- One input judged at an epoch boundary by what was measured of it (R446, R447); its own entry of VS_REFx reads 0 (R465). -/
def State.judgeRef (s : State) (i : Nat) (r : RefReading) : State :=
  let s1 := (s.measureRef (8 * i) r.ppb R.refm_OFFSET_PPB i).wr R.refm_LOS i (b2n !r.edges)
  let s2 := s1.each r.versus.zipIdx (fun t e =>
    if e.2 < 4 ∧ e.2 ≠ i then t.measureRef (8 * i + 1 + e.2) e.1 (Reg.at R.refm_VS_REFA e.2) i else t)
  let a := (s2.rdI R.refm_OFFSET_PPB i).natAbs
  match s.rd R.refm_REF_STATE i with
  | 0 => if 50000 < a ∨ !r.edges then s2.setRefState i 2 else if 20000 < a then s2.setRefState i 1 else s2
  | 1 =>
    if 50000 < a ∨ !r.edges then s2.setRefState i 2
    else
      let n := if a ≤ 18000 then s.refRun i + 1 else 0
      if 16 ≤ n then s2.setRefState i 0 else s2.setRefRun i n
  | _ =>
    let n := if a ≤ 45000 ∧ r.edges then s.refRun i + 1 else 0
    if 16 ≤ n then s2.setRefState i 1 else s2.setRefRun i n

/-- The core PLL switches to its standby at an epoch boundary, when its reference has entered REF_FAIL (R588). -/
def State.corePllSwitch (s : State) : State :=
  if !s.time.corePllPending then s
  else if s.refHealthy s.time.corePllStandby then
    { s with time := { s.time with corePllPending := false, corePllRef := s.time.corePllStandby, corePllStandby := s.time.corePllRef } }
  else { s with time := { s.time with corePllPending := false } }

/-- The monitor at an epoch boundary (R446, R447). -/
def State.refEpoch (s : State) (refs : List RefReading) : State :=
  (s.corePllSwitch.each refs.zipIdx (fun t e => if e.2 < 4 then t.judgeRef e.2 e.1 else t)).chipRefs s

/-- REF_LOSS (R447): an input shows no edge for 1 µs. -/
def execRefLoss (input : Nat) (s : State) : Host.Outcome State Fault Refusal :=
  outcome (input < 4) s <|
    let s1 := s.wr R.refm_LOS input 1
    if s.rd R.refm_REF_STATE input = 2 then s1.setRefRun input 0 else (s1.setRefState input 2).chipRefs s

end Sys2Proof.Machine
end

