-- ==== Sys2Proof/Machine/Windows.lean ====
section
/-! DEFINITION. BAR2 windows: table apertures and far rings read and written by the host (06_table_maintenance.md R208 to R212,
17_host_endpoint.md R527 to R529). -/

namespace Sys2Proof.Machine

/-- BAR2_READ (R287, R527, R528): a read of `len` octets through a window, from one instant: at once where the near tier holds them, and
when its transfers are done where the far tier does. `errs` are the memory errors that the words
read turned out to have. -/
def execBar2Read (pf offset len : Nat) (errs : List (Nat × Nat)) (s : State) : Host.Outcome State Fault Refusal :=
  outcome (pf < 2 && offset < 2 ^ 36 && 0 < len && len ≤ 4096 && offset % 2 ^ 28 + len ≤ 2 ^ 28) s <|
    if !s.ep.accepting then s
    else if !s.winServes pf offset len then s.emit (.completion pf 0 false (List.replicate len 0))
    else
      let n := offset / 2 ^ 28
      let a := s.winOffset offset
      let fars := s.winFar n a len
      if fars.any (fun x => !s.stackUp (farStack x)) then s.emit (.completion pf 4 false [])
      else
        let s1 := s.strike errs
        if fars.isEmpty then s1.emit (.completion pf 0 false (s1.winBytes n a len))
        else s1.openRead ⟨pf, s.rd R.win_TARGET_KIND n, s.rd R.win_TARGET n, a, len, fars⟩

/-! ## Writes -/

/-- One entry rewritten with the octets of a write that fall in it (R211). -/
def State.apEntry (s : State) (t i at_ : Nat) (bytes : Octets) : State :=
  let lo := i * apStride t
  let len := 8 * entryWords t
  let skip := lo - at_
  let old := wordsLE (s.entry t i)
  let new := patch old (at_ - lo) ((bytes.drop skip).take (len - (at_ - lo)))
  s.putEntry t i (s.meterWrite t (octetsWords new)) false

/-- One aligned word of memory rewritten with the octets of a write that fall in it. -/
def patchWord (old o at_ : Nat) (bytes : Octets) : Nat := leNat (patch (toLE 8 old) (at_ - o) (bytes.drop (o - at_)))

/-- Two members of the pool written as one word: each is an entry of its own, and counts as one (R192, R202). -/
def State.putMembers (s : State) (m v : Nat) : State := (s.putEntry 6 m [v % 2 ^ 32] false).putEntry 6 (m + 1) [v / 2 ^ 32] false

/-- ENTRIES of ROUTE and LONG6_USED count what leaf blocks hold. A write through BAR2 outside the leaf blocks that the device knows from its
commands does not say whether it writes a leaf block or a node, and the manual gives no rule by which the device could tell: what they
read after one is a free value. -/
def State.routeUnknown (s : State) : State :=
  let (f, s1) := s.free 32
  let (g, s2) := s1.free 32
  (s2.wr R.tbl_ENTRIES 3 f).wr R.rte_LONG6_USED 0 g

/-- The leaf blocks, of those that commands wrote, that a run of octets of the far tier meets. -/
def State.blocksMet (s : State) (at_ n : Nat) : List (Nat × Nat) :=
  s.tab.leafBlocks.filter (fun e => decide (e.1 < at_ + n ∧ at_ < e.1 + 8 * e.2))

/-- The counts of ROUTE follow a write to its far words from the state before it (R202, R203, R220). -/
def State.routeRecount (s before : State) (at_ n : Nat) : State :=
  let met := before.blocksMet at_ n
  let s1 := s.each met (fun u e =>
    let (old, new) := (before.farWords e.1 e.2, u.farWords e.1 e.2)
    let u1 := u.countBlock (leafUnits old) (leafUnits new)
    let u2 := if bit (w old 0) 51 then u1.countLeaf (bits (w old 0) 50 39) (leafUnits old) (0, 0) else u1
    if bit (w new 0) 51 then u2.countLeaf (bits (w new 0) 50 39) (0, 0) (leafUnits new) else u2)
  if (alignedOffsets at_ n).all (fun o => met.any (fun e => decide (e.1 ≤ o ∧ o < e.1 + 8 * e.2))) then s1 else s1.routeUnknown

/-- Octets written at an offset of a table's aperture; a write of which some offset maps no table memory drops that part and is counted
(R210). -/
def State.apWrite (s0 : State) (t at_ : Nat) (bytes : Octets) : State :=
  let offs := alignedOffsets at_ bytes.length
  let s := if offs.any (fun o => s0.apWord t o == .none) then s0.bump R.tmnt_DIRECT_DROPPED t else s0
  if t = 3 ∨ t = 6 then
    let s1 := s.each offs (fun u o => match u.apWord t o with
      | .near a => if t = 3 then u.putNear a (cleanRef (patchWord (u.near a) o at_ bytes))
        else u.putMembers (o / 4) (patchWord (u.near a) o at_ bytes)
      | .far a => u.putFar a (patchWord (u.far a) o at_ bytes)
      | _ => u)
    if offs.any (fun o => (s.apFar t o).isSome) then (s1.leafTouched at_ bytes.length).routeRecount s at_ bytes.length else s1
  else
    let entries := (offs.filterMap (fun o => match s.apWord t o with
      | .entry i _ => some i
      | _ => none)).eraseDups
    s.each entries (fun u i => u.apEntry t i at_ bytes)

/-- A table takes writes through BAR2 (R208, R209): DIRECT mode, and STOPPED or RUNNING. -/
def State.takesDirect (s : State) (t : Nat) : Bool :=
  s.rd R.tbl_ACCESS_MODE t == 1 && (s.rd R.tbl_STATE t == 1 || s.rd R.tbl_STATE t == 3)

/-- BAR2_WRITE (R208 to R212, R527, R528): the octets of one TLP written through a window. -/
def execBar2Write (pf offset : Nat) (bytes : List Nat) (s : State) : Host.Outcome State Fault Refusal :=
  outcome (pf < 2 && offset < 2 ^ 36 && !bytes.isEmpty && bytes.length ≤ 4096 && bytes.all (· < 256)
      && offset % 2 ^ 28 + bytes.length ≤ 2 ^ 28) s <|
    if !s.ep.accepting then s
    else
      let n := offset / 2 ^ 28
      let a := s.winOffset offset
      let t := s.rd R.win_TARGET n
      let fars := s.winFar n a bytes.length
      if !s.winServes pf offset bytes.length || pf == 1 || !s.on R.win_WRITE_EN n || fars.any (fun x => !s.stackUp (farStack x)) then
        s.bump R.ep_WINDOW_DROPPED 0
      -- the tables' own counters stand in CORE, which is off with every block of it (R11)
      else if !s.coreOn then s
      else if s.rd R.win_TARGET_KIND n = 1 then
        (s.each (alignedOffsets a bytes.length) (fun u o =>
          u.putFar (u.ringAddr t o) (patchWord (u.far (u.ringAddr t o)) o a bytes))).winAccess .posted fars true
      else if !s.takesDirect t then s.bump R.tmnt_DIRECT_DROPPED t
      else (s.apWrite t a bytes).winAccess .posted fars true

/-- A window's settings allow ENABLE (R529), for given register values. -/
def windowOk (rdw : Reg → Nat → Nat) (n : Nat) : Bool :=
  let t := rdw R.win_TARGET n
  let base := rdw R.win_APERTURE_BASE n
  let size := if rdw R.win_TARGET_KIND n = 1 then (if t < 16 then rdw R.fring_SIZE t else 0) else apertureSize rdw t
  (if rdw R.win_TARGET_KIND n = 1 then decide (t < 16) && rdw R.fring_ENABLE t == 1 else hasAperture t)
    && base % 4096 == 0 && decide (base + rdw R.win_SIZE n ≤ size)

end Sys2Proof.Machine
end

