-- ==== Sys2Proof/Machine/Domains.lean ====
section
/-! DEFINITION. What a power domain holds: what is lost as it goes off and what it starts from as it comes on (01_architecture.md R11,
19_power_reset_boot.md R580, R581, R590). -/

namespace Sys2Proof.Machine

/-! ## The domain of an object (R11) -/

/-- The domain that holds the values of a key; 0 for objects that no switch of a domain clears. -/
def keyDomain (k : Nat) : Nat :=
  let i := keyIndex k
  let n := keyInst k
  if i = 0x2000 ∨ i = 0x2038 then 5 + n
  else if i = 0x2008 ∨ i = 0x2018 ∨ i = 0x2020 ∨ i = 0x2040 ∨ i = 0x6040 ∨ i = 0x6048 ∨ i = 0x7020 then 5 + n / 96
  else if i = 0x3000 ∨ i = 0x3010 ∨ i = 0x3040 ∨ i = 0x3048 ∨ i = 0x4010 then 13 + n
  else if i = 0x3008 ∨ i = 0x3009 then 13 + n / 4
  else if i = 0x3030 ∨ i = 0x3031 then 13 + n / 256
  else if i = 0x3050 then 13 + n / 8
  else if i = 0x9000 then 3
  -- the page retirement lists stand in MRAM (R268, R275)
  else if i = 0x5048 ∧ (keySub k = 1 ∨ keySub k = 3) then 0
  -- ring state is held in CORE (R546)
  else if i = 0x1010 ∨ i = 0x1018 ∨ i = 0x2030 ∨ i = 0x2048 ∨ (0x4000 ≤ i ∧ i < 0x8000) ∨ 0x8100 ≤ i then 4
  else 0

/-- The counters of a group that go to AON shadow storage as its domain goes off (R510). -/
def shadowedCounter (k : Nat) : Bool :=
  let i := keyIndex k
  let counter := match findObj i with
    | none => false
    | some o => match findRow o.rows (keySub k) with
      | none => false
      | some r => r.acc == .ro && (r.ty == .u64 || r.ty == .u32)
  counter && (i == 0x3008 || i == 0x3009 || i == 0x3010 || i == 0x3030 || i == 0x3031 || i == 0x3048 || i == 0x3050 || i == 0x4010
    || (i == 0x3000 && keySub k == 0x0A))

/-- Values that a test names return to their defaults, kept values to those of the last reset; writes under way to them are lost. -/
def State.resetKeys (s : State) (lost : Nat → Bool) : State :=
  let keep (m : Dict) : Dict := m.filter (fun e => !lost e.1)
  { s with
    dict := (s.acc.kept.filter (fun e => lost e.1)).foldl (fun m e => mput (dictDefault e.1) m e.1 e.2) (keep s.dict)
    acc := { s.acc with stp := keep s.acc.stp, staged := keep s.acc.staged, shadow := keep s.acc.shadow
                        slotWrites := s.acc.slotWrites.filter (fun w => !lost w.key) } }

/-! ## Functions whose domain goes (R50, R580) -/

/-- A function is OFF, nothing of its start, stop or power-off pending. -/
def State.fnGone (s : State) (f : Fn) (n : Nat) : State :=
  let s1 := s.setFn f n stOff
  let k := fnKey f n
  { s1 with fns := { s1.fns with
      stopTick := mdel s1.fns.stopTick k, starter := mdel s1.fns.starter k
      powering := s1.fns.powering.filter (· != k), faultAfter := s1.fns.faultAfter.filter (· != k) } }

/-- The ports and links of a chiplet. -/
def chipMembers (k : Nat) : List Nat := (List.range 96).map (· + 96 * k)

/-- A port's work ends with its chiplet: frames in its input buffer are lost, those that wait at its egress pipeline or in its MAC are
discarded (R366), a frame that is arriving is bad (R581). -/
def State.portLost (s : State) (p : Nat) : State :=
  let mine := s.prt.arriving.filter (fun x => x.1 == p)
  let s1 := s.each mine (fun t x => t.tailArrives x.2.1 true)
  let s2 := (s1.dropSelected p).setPortLink p 0
  { s2 with prt := { s2.prt with
      inbuf := mdel s2.prt.inbuf p, mac := mdel s2.prt.mac p, txEnd := mdel s2.prt.txEnd p
      txLen := mdel s2.prt.txLen p, spoilt := mdel s2.prt.spoilt p
      degraded := mdel s2.prt.degraded p, uncorr := mdel s2.prt.uncorr p, holdSent := mdel s2.prt.holdSent p
      arriving := s2.prt.arriving.filter (fun x => x.1 != p) } }

/-- A link ends with its chiplet: cells not acknowledged are lost, queued cells go back to route selection. -/
def State.linkGone (s : State) (l : Nat) : State :=
  let s1 := (s.loseReplay l).setLink l 0 0
  { s1 with fab := { s1.fab with links := mdel s1.fab.links l, sinceFill := mdel s1.fab.sinceFill l } }

/-- A chiplet's domain goes off: its ports, links and lanes lose what they held. -/
def State.chipLost (s : State) (k : Nat) : State :=
  let s1 := s.each ((chipMembers k).filter (fun p => s.rd R.port_STATE p != 0)) State.portLost
  let s2 := s1.each ((chipMembers k).filter (fun l => s.rd R.link_STATE l != 0)) State.linkGone
  let s3 := s2.resetKeys (fun x => keyDomain x == 5 + k)
  let s4 := s3.each (chipMembers k) (fun t n => (t.fnGone .port n).fnGone .link n)
  let s5 := s4.fnGone .chiplet k
  ({ s5 with
    lan := { s5.lan with
      pendingSw := mdel s5.lan.pendingSw k, d2d := mdel s5.lan.d2d k
      bounds := s5.lan.bounds.filter (fun e => laneChip e.1 != k), hitFrom := s5.lan.hitFrom.filter (fun e => laneChip e.1 != k)
      tests := s5.lan.tests.filter (fun e => laneChip e.1 != k)
      trainSince := s5.lan.trainSince.filter (fun e => laneChip e.1 != k)
      epochBin := s5.lan.epochBin.filter (fun e => laneChip e.1 != k)
      margin := s5.lan.margin.filter (fun l => laneChip l != k) } }.wr R.chip_STATE_SINCE k s.slotNo).settleSwitch

/-- Packets of a group that wait for their replication are discarded with its domain (R113, R116). -/
def State.dropReplicas (s : State) (g : Nat) : State :=
  let s1 := s.each (mget [] s.sto.repl g) (fun t r =>
    (t.groupDiscard g (match t.pkt? r.pid with
      | some p => p.frame.length
      | none => 0)).endRepl r.pid)
  { s1 with sto := { s1.sto with repl := mdel s1.sto.repl g } }

/-- Transmit rings whose packet waited for a slot of a group that is lost read it again when the group runs (R115). -/
def State.freeFetches (s : State) (g : Nat) : State :=
  s.each ((s.pip.pipes.filter (fun e => e.1 / 4 == g)).flatMap (fun e => e.2.host.map (fun x => x.1 % 256)))
    (fun t r => t.setRing r { t.ring r with fetching := false })

/-- A group's domain goes off: its counters stay in the shadow, its stores and packets are lost (R116, R510). -/
def State.groupLost (s : State) (g : Nat) : State :=
  let s0 := if s.fnState .group g = stRunning then s.groupHalts g else s
  let s1 := (s0.dropReplicas g).freeFetches g
  let s2 := s1.resetKeys (fun x => keyDomain x == 13 + g && !shadowedCounter x)
  let s3 := (s2.fnGone .group g).wr R.grp_STATE_SINCE g s.slotNo
  { s3 with
    pip := { s3.pip with
      ucode := mdel s3.pip.ucode g, loading := mdel s3.pip.loading g, parked := mdel s3.pip.parked g
      pipes := s3.pip.pipes.filter (fun e => e.1 / 4 != g)
      atEgress := s3.pip.atEgress.filter (fun e => portGroup e.1 != g) }
    tab := { s3.tab with walks := s3.tab.walks.filter (fun e => e.1 / 512 != g) }
    tel := { s3.tel with
      copies := mdel s3.tel.copies g, held := mdel s3.tel.held g, lost := mdel s3.tel.lost g
      offAt := mins s3.tel.offAt g (stamp48 s.now + 1) } }

/-- The CORE domain goes off: the store, tables, fabric, time and telemetry lose what they held; the carve is OFF. No rule says how a remote
operation that is outstanding then ends: it is dropped with no answer and no count in REMOTE_LOST, a mailbox that waits for it stays BUSY, and
transaction numbers begin again (DESIGN CHOICE, log entry 73). -/
def State.coreLost (s : State) : State :=
  let z := State.reset
  let s1 := s.resetKeys (fun x => keyDomain x == 4)
  let s2 := { s1 with
    acc := { s1.acc with armed := none, slotWrites := [] }
    remote := z.remote, time := z.time, sto := z.sto, bab := z.bab, tab := z.tab, pip := z.pip, trf := z.trf
    prt := { z.prt with i2c := s1.prt.i2c }, tel := { z.tel with offAt := s1.tel.offAt }, lan := z.lan, fab := z.fab
    clk := { z.clk with ticks := s1.clk.ticks }
    ep := { s1.ep with rings := [], events := [], reads := [], later := [], winReads := [], frozenRings := 0, rrEngine := 0 } }
  (s2.fnGone .carve 0).wr R.ident_DEVICE_ID 0 0xFFF

/-- What a domain held is lost as it goes off (R581). -/
def State.domainLost (s : State) (d : Nat) : State :=
  if d = 1 ∨ d = 2 then s.pewterOff (d - 1)
  else if d = 3 then s.freezeAll.resetKeys (fun x => keyDomain x == 3)
  else if d = 4 then s.coreLost
  else if 5 ≤ d ∧ d < 13 then s.chipLost (d - 5)
  else if 13 ≤ d ∧ d < 21 then s.groupLost (d - 13)
  else if 21 ≤ d then s.stackLost (d - 21)
  else s

/-! ## Coming on (R50, R436, R445, R581) -/

/-- The fixed fabric device ID of the live settings record, if it is in force (R601). -/
def State.fixedId (s : State) : Option Nat := if s.setting 557 557 = 1 then some (s.setting 556 545) else none

/-- The device takes its ID as at boot: the fixed one, which FIXED_ID shows and its hellos carry, or 0x0FFF (R76, R391, R397). -/
def State.startId (s : State) : State :=
  match s.fixedId with
  | none => (s.wr R.ident_DEVICE_ID 0 0xFFF).wr R.fab_FIXED_ID 0 0
  | some d => ((s.wr R.ident_DEVICE_ID 0 d).wr R.fab_FIXED_ID 0 1).setIdentity d (s.rd R.ident_SERIAL 0) (s.rd R.ident_INCARNATION 0)

/-- Invar starts: the count from 0, time from the seconds and the rate of a saved record where one was restored (R436, R445). -/
def State.startClock (s : State) (seconds : Nat) (rate : Nat) : State :=
  let s1 := ((s.wr R.invar_BASE 0 0).wr R.invar_OFFSET 0 (seconds * 2 ^ 64)).wr R.invar_RATE 0 rate
  let slot := seconds * 15625000
  { s1 with clk := { s1.clk with running := true, count := 0, slot := slot, slotCount := 0, epochAt := false, epochDue := false, epoch := slot / 16384 } }

/-- CORE starts: time from `seconds` and `rate`, the PLLs on their assigned references, the device's ID as at boot, the carve STOPPED
(R436, R445, R588, R602). -/
def State.startCore (s0 : State) (seconds rate : Nat) : State :=
  let s := s0.startStore
  let s1 := (s.startClock seconds rate).startId
  let s2 := (s1.setFn .carve 0 stStopped).wr R.invar_TIME_REF_IN_USE 0 (s1.rd R.invar_TIME_REF_PRIMARY 0)
  { s2 with
    pwr := { s2.pwr with coreOnTick := s2.clk.ticks }
    time := { s2.time with corePllRef := s2.setting 562 561, corePllStandby := s2.setting 560 558 } }

/-- A domain starts from the defaults of its objects (R581): a chiplet or group is STOPPED, the carve STOPPED with time running, a Pewter
boots. A stack waits for its training, the endpoint for its link. -/
def State.domainUp (s : State) (d : Nat) : State :=
  if d = 1 ∨ d = 2 then s.bootPewter (d - 1)
  else if d = 4 then s.startCore 0 rateNominal
  else if 5 ≤ d ∧ d < 13 then s.setFn .chiplet (d - 5) stStopped
  else if 13 ≤ d ∧ d < 21 then (s.setFn .group (d - 13) stStopped).gapRecord (d - 13)
  else s

/-! ## Reset (R590, R591) -/

/-- Every I2C controller aborts its command and takes its defaults (R590). -/
def State.i2cDefaults (s : State) : State :=
  (s.each (List.range 4) State.resetI2c).resetKeys (fun k => keyIndex k == 0x2060)

/-- Every lane is in electrical idle (R590): training ends. -/
def State.lanesIdle (s : State) : State :=
  let busy := (s.instances R.lane_TRAIN_STATE).filter (fun e => decide (2 ≤ e.2))
  let s1 := s.each busy (fun t e => t.wr R.lane_TRAIN_STATE e.1 0)
  { s1 with lan := { s1.lan with trainSince := [] } }

/-- Values of AON that a reset does not clear: identity (R590), what power domains and monitors hold since power-on (R611, R614, R615), the reset's
own record (R590, R592), the choice of the next boot (R603), the settings records, the log's newest number, the last-gasp record, and
the I2C controllers, which serve commands again (R590). -/
def State.keptInReset (s : State) (k : Nat) : Bool :=
  let i := keyIndex k
  let sub := keySub k
  (i == 0x1000 && (sub ≤ 4 || sub == 7)) || i == 0x2060 || (i == 0x8050 && sub != 4)
    || (i == 0x8058 && (sub == 3 || sub == 4 || sub == 5 || sub == 0x0C || sub == 0x0E || sub == 0x0F))
    || (i == 0x8060 && (sub ≤ 2 || s.pwr.programming.isSome)) || (i == 0x8068 && sub != 5) || (i == 0x806C && (sub == 1 || sub == 3))
    || i == 0x8078 || (i == 0x8000 && sub == 7)
    || (i == 0x5048 && (sub == 1 || sub == 3)) || (i == 0x8020)

/-- The device as a reset leaves it: everything at State.reset but what AON keeps, the fault log, and what is outside the device. -/
def State.afterReset (s : State) : State :=
  let z := State.reset
  let held := s.dict.filter (fun e => s.keptInReset e.1)
  let back := s.acc.kept.filter (fun e => !s.keptInReset e.1)
  { z with
    pending := s.pending, out := s.out, freeIx := s.freeIx
    dict := back.foldl (fun m e => mput (dictDefault e.1) m e.1 e.2) held
    acc := { z.acc with kept := s.acc.kept, smbSel := s.acc.smbSel, smbHeld := s.acc.smbHeld
                        lastStatus := s.acc.lastStatus, lastValue := s.acc.lastValue }
    clk := { z.clk with ticks := s.clk.ticks }
    ep := { z.ep with perstLow := s.ep.perstLow }
    coll := { z.coll with log := s.coll.log }
    pwr := { s.pwr with switching := none, queue := [], unlock := none, hotSent := [], railSent := [], restored := [] }
    prt := { z.prt with i2c := s.prt.i2c } }

end Sys2Proof.Machine
end

