-- ==== Sys2Proof/Machine/Power.lean ====
section
/-! DEFINITION. Power domains, rails, temperatures, reset, the boot flash, OTP and last gasp (19_power_reset_boot.md). -/

namespace Sys2Proof.Machine

/-! ## The power sequencer (R581, R582) -/

/-- The state a domain ends in after every switch in progress and waiting. -/
def State.domTarget (s : State) (d : Nat) : Bool :=
  match (s.pwr.queue.filter (fun q => q.dom == d)).getLast? with
  | some q => q.on
  | none => match s.pwr.switching with
    | some q => if q.dom = d then q.on else s.domOn d
    | none => s.domOn d

/-- The sequencer begins the next switch when none is in progress. -/
def State.beginSwitch (s : State) : State :=
  match s.pwr.switching, s.pwr.queue with
  | none, q :: rest =>
    { s with pwr := { s.pwr with switching := some q, queue := rest } }.wr R.dom_DOMAIN_STATE q.dom 2
  | _, _ => s

/-- A switch that would leave a PX, PG or MS domain on without CORE: those on or waiting to come on keep CORE on, and none comes on
while CORE is off or going off (R11, R580). -/
def State.switchBarred (s : State) (d : Nat) (on : Bool) : Bool :=
  if on then decide (5 ≤ d) && !s.domTarget 4 else d == 4 && ((List.range 24).map (· + 5)).any s.domTarget

/-- Queue a domain's switch; a request for the state it is in or moving to changes nothing, nor does one that R580 bars. -/
def State.requestSwitch (s : State) (d : Nat) (on : Bool) (cause : Nat) : State :=
  if s.domTarget d = on || s.switchBarred d on then s
  else { s with pwr := { s.pwr with queue := s.pwr.queue ++ [(⟨d, on, cause⟩ : SwitchReq)] } }.beginSwitch

/-- A domain is on, with ON_SINCE and OFF_CAUSE recorded. -/
def State.markOn (s : State) (d : Nat) : State :=
  (((s.wr R.dom_DOMAIN_STATE d 1).wr R.dom_ON_SINCE d s.slotNo).wr R.dom_OFF_CAUSE d 0).bump32 R.dom_SWITCHES d

/-- The sequencer forgets the switch of a domain that is in progress, and those that wait. -/
def State.unqueue (s : State) (d : Nat) : State :=
  { s with pwr := { s.pwr with
      switching := s.pwr.switching.filter (fun q => q.dom != d), queue := s.pwr.queue.filter (fun q => q.dom != d) } }

/-- A domain goes off: what it holds is lost (R581). -/
def State.domainOff (s : State) (d cause : Nat) : State :=
  if s.rd R.dom_DOMAIN_STATE d = 0 then s
  else (((s.domainLost d).wr R.dom_DOMAIN_STATE d 0).wr R.dom_OFF_CAUSE d cause).bump32 R.dom_SWITCHES d

/-- A domain goes off at once, and no switch of it that was asked for before follows (R581, R586). -/
def State.dropDomain (s : State) (d cause : Nat) : State := (s.unqueue d).domainOff d cause

/-- DOMAIN_SWITCHED (R581, R582): the switch in progress ends, and the next request is served. -/
def execDomainSwitched (s : State) : Host.Outcome State Fault Refusal :=
  completes (match s.pwr.switching with
    | none => s
    | some q =>
      let s1 := { s with pwr := { s.pwr with switching := none } }
      let s2 := if q.on then (s1.markOn q.dom).domainUp q.dom
        else (s1.wr R.dom_DOMAIN_STATE q.dom 1).domainOff q.dom q.cause
      s2.beginSwitch)

/-- STACK_TRAINED (R582, R595): the training of stack k ends. Trained, it is up and its pages are allocated again; otherwise MS_TRAIN is
reported and its domain is off. -/
def execStackTrained (k : Nat) (ok : Bool) (s : State) : Host.Outcome State Fault Refusal :=
  outcome (k < 8) s <|
    if !s.domOn (21 + k) || s.stackUp k then s
    else if ok then s.wr R.slots_STACK_UP k 1
    else ((s.fault (0x040 + k) 0x14 0).dropDomain (21 + k) 0).beginSwitch

/-- A RESTART takes effect on a Pewter that is not ACTIVE: it boots, its domain first switched on where it is off (R572, R580). -/
def State.restartPewter (s : State) (p : Nat) : State :=
  if s.rd R.pewter_STATE p = 3 then s
  else if s.domOn (1 + p) then s.bootPewter p
  else s.requestSwitch (1 + p) true 1

/-! ## Reset (R589 to R593) -/

/-- The order in which a reset switches the domains off: PG, PX, MS, CORE, HOST, MGA, MGB (R591). -/
def dropOrder : List Nat :=
  (List.range 8).map (· + 13) ++ (List.range 8).map (· + 5) ++ (List.range 8).map (· + 21) ++ [4, 3, 1, 2]

/-- Every domain but AON off, in the order of R591, and the device's state at its defaults but for what AON keeps. -/
def State.dropAll (s : State) (cause : Nat) : State :=
  (s.each dropOrder (fun t d => t.dropDomain d cause)).afterReset

/-- The device enters reset with a cause; a reset in progress keeps its own (R589, R591, R592). -/
def State.enterReset (s : State) (cause : Nat) : State :=
  if s.pwr.inReset then s
  else
    let s1 := { s with pwr := { s.pwr with inReset := true, resetSince := s.clk.ticks, cause := cause, bootDue := false } }
    let s2 := ((s1.wr R.prst_RESET_HELD 0 1).wr R.prst_RESET_HELD_TIME 0 0).wr R.prst_BOOT_STATE 0 0
    s2.i2cDefaults.lanesIdle.freezeAll

/-- An internal reset begins (R591): one already in progress changes nothing. -/
def State.startInternal (s : State) (cause : Nat) : State :=
  if s.pwr.inReset then s
  else
    let s1 := s.enterReset cause
    { s1 with pwr := { s1.pwr with internal := some s.clk.ticks, dropping := true } }

/-- The device leaves reset: it boots from step 1. -/
def State.releaseReset (s : State) : State :=
  let s1 := ((s.wr R.prst_RESET_HELD 0 0).wr R.prst_RESET_HELD_TIME 0 s.heldMs).wr R.prst_BOOT_STATE 0 1
  { s1 with pwr := { s1.pwr with inReset := false, bootDue := true } }

/-- RESET_ASSERT (R589): RESET_N has been sampled low this many times in a row. -/
def execResetAssert (samples : Nat) (s : State) : Host.Outcome State Fault Refusal :=
  completes (
    if s.pwr.gasp.isSome ∨ samples < 25 then s
    else if samples < 250 then s.bump32 R.prst_RESET_GLITCHES 0
    else
      let s1 := { s with pwr := { s.pwr with pinLow := true } }
      if s.pwr.inReset then s1 else (s1.enterReset 1).dropAll 5)

/-- RESET_RELEASE (R589): RESET_N has been sampled high 25 times in a row. -/
def execResetRelease (s : State) : Host.Outcome State Fault Refusal :=
  completes (
    let s1 := { s with pwr := { s.pwr with pinLow := false } }
    if s.pwr.pinLow ∧ s.pwr.inReset ∧ s.pwr.internal = none ∧ s.pwr.thermalHold = false ∧ s.pwr.gasp = none then
      s1.releaseReset
    else s1)

/-- INTERNAL_RESET (R591): the domains of an internal reset go off in order. -/
def execInternalReset (s : State) : Host.Outcome State Fault Refusal :=
  completes (
    if s.pwr.dropping then
      let s1 := s.dropAll 5
      { s1 with pwr := { s1.pwr with dropping := false } }
    else s)

/-- INTERNAL_RESET_RELEASE (R591): the 1 ms hold has ended; the device boots unless RESET_N is low. -/
def execInternalResetRelease (s : State) : Host.Outcome State Fault Refusal :=
  completes (match s.pwr.internal with
    | none => s
    | some t =>
      if s.past t (ticksMs 1) ∧ s.pwr.dropping = false then
        let s1 := { s with pwr := { s.pwr with internal := none } }
        if s.pwr.pinLow ∨ s.pwr.thermalHold then s1 else s1.releaseReset
      else s)

/-- CORE_PLL_LOSS (R588): the core PLL loses lock. -/
def execCorePllLoss (s : State) : Host.Outcome State Fault Refusal :=
  completes (if s.coreOn then s.startInternal 7 else s)

/-- PERST_ASSERT (R593, R546). -/
def execPerstAssert (s : State) : Host.Outcome State Fault Refusal :=
  completes (let s1 := s.freezeAll; { s1 with ep := { s1.ep with perstLow := true } })

/-- PERST_RELEASE (R593): the link may train, provided the HOST domain is on; it is up at ENDPOINT_RESUMED. -/
def execPerstRelease (s : State) : Host.Outcome State Fault Refusal :=
  completes { s with ep := { s.ep with perstLow := false } }

/-! ## Last gasp (R606 to R609) -/

/-- What the save will hold, taken from the state when the gasp begins (R608, R609). -/
def State.stageGasp (s : State) : Gasp :=
  { since := s.clk.ticks
    seq := (s.pwr.mram.saveSeq + 1) % 2 ^ 32
    retired := s.pwr.mram.retired
    time := if s.coreOn then
        some [s.now / fracPerSecond, s.rd R.invar_RATE 0, s.rd R.invar_TIME_REF_IN_USE 0, s.rd R.invar_TIME_STATE 0,
              s.rd R.invar_HOLD_CAUSE 0]
      else none
    faults := if s.pwr.restored.contains 3 then some (s.coll.log.take 256) else none
    traces := if s.coreOn ∧ s.pwr.restored.contains 4 then some (s.tel.history.take 4096) else none }

/-- A last gasp begins and runs to its end: outputs quiet, every domain but AON off (R606, R608). -/
def State.beginGasp (s : State) : State :=
  if s.pwr.gasp.isSome then s
  else
    let g := s.stageGasp
    let s1 := (s.enterReset 8).dropAll 5
    { s1 with pwr := { s1.pwr with gasp := some g, internal := none, dropping := false, bootDue := false } }

/-- LAST_GASP (R606): PFAIL_N low for 1 µs, or VAON below its band for 2 µs. -/
def execLastGasp (s : State) : Host.Outcome State Fault Refusal := completes s.beginGasp

/-- The sections of a save that were written before VLG reached 2.0 V, in the order of R608: the header, the retirements, the
time, the fault log, the traces. -/
def saveSections (m : Mram) (g : Gasp) (n : Nat) : Mram :=
  { m with
    saveSeq := if 1 ≤ n then g.seq else m.saveSeq
    retired := if 2 ≤ n then g.retired else m.retired
    time := if 3 ≤ n then g.time else if n = 0 then m.time else none
    faults := if 4 ≤ n then g.faults.map (fun l => (g.seq, l)) else m.faults
    traces := if 5 ≤ n then g.traces.map (fun l => (g.seq, l)) else m.traces }

/-- What AON holds of the time since power-on: the switches of the domains and what switched them off, the monitors' extremes, and the
choice of the next boot (R611, R612, R614, R615). -/
def sincePowerOn : List Nat :=
  (List.range 29).flatMap (fun d => [key R.dom_OFF_CAUSE d, key R.dom_SWITCHES d])
    ++ (List.range 30).flatMap (fun m => [key R.rail_MIN_MV m, key R.rail_MAX_MV m])
    ++ (List.range 17).map (key R.temp_MAX) ++ [key R.prst_NEXT_BOOT_GEN 0]

/-- Power returns after a save: what AON holds of the time since power-on starts again. -/
def State.powerOn (s : State) : State :=
  { s with dict := s.dict.filter (fun e => !sincePowerOn.contains e.1), pwr := { s.pwr with measured := [], bandSince := [] } }

/-- LAST_GASP_DONE (R608): the save ends after writing `n` of its five parts in `us` microseconds; the device waits for power in reset, and
boots as power returns, unless RESET_N or the thermal hold still holds it. A cause that arises until then changes nothing (R592). -/
def execLastGaspDone (n us : Nat) (s : State) : Host.Outcome State Fault Refusal :=
  outcome (n ≤ 5 && us < 2 ^ 32) s <|
    match s.pwr.gasp with
    | none => s
    | some g =>
      let m := saveSections s.pwr.mram g n
      let m' := if n = 5 then { m with saves := (m.saves + 1) % 2 ^ 32, lastSaveUs := us } else m
      { s with pwr := { s.pwr with mram := m', gasp := none, bootDue := true, cause := if n = 5 then 8 else 0 } }.powerOn

/-! ## Rails (R583, R586) -/

/-- Nominal of a rail and the half width of its band, in microvolts (R583). -/
def State.railNominal (s : State) (m : Nat) : Nat :=
  match m with
  | 0 => 650000 + s.rd R.prst_AVS_CODE 0 * 2500
  | 1 => 750000 | 2 => 500000 | 3 => 1800000 | 4 => 750000 | 5 => 3300000
  | _ => if m ≤ 13 then 750000 else if m ≤ 21 then 1200000 else 1050000

/-- The band of a rail in microvolts: low and high (R583). -/
def State.railBand (s : State) (m : Nat) : Nat × Nat :=
  if m = 5 then (3100000, 3600000)
  else
    let n := s.railNominal m
    let h := if m = 3 then n * 5 / 100 else n * 3 / 100
    (n - h, n + h)

/-- The hard action of a rail beyond 5 % of nominal outside its band (R586). -/
def State.railHard (s : State) (m uv : Nat) : State :=
  if 6 ≤ m ∧ m ≤ 21 then
    let k := if m ≤ 13 then m - 6 else m - 14
    let s1 := s.dropDomain (5 + k) 3
    ((s1.wr R.chip_STATE k 5).wr R.chip_STATE_SINCE k s.slotNo).beginSwitch
  else if 22 ≤ m then (s.dropDomain (m - 1) 3).beginSwitch
  else if m = 4 ∧ uv < s.railNominal 4 then s.beginGasp
  else if m = 5 then s
  else s.startInternal 5

/-- A monitor has read a rail or a sensor (`m` as Power.measured numbers them). -/
def State.measure (s : State) (m : Nat) : State := { s with pwr := { s.pwr with measured := m :: s.pwr.measured.filter (· != m) } }

/-- The moment since which a rail's readings are in band, of one that has read out of it (R584). -/
def State.noteBand (s : State) (m goodMs : Nat) (out : Bool) : State :=
  if out then { s with pwr := { s.pwr with bandSince := mdel s.pwr.bandSince m } }
  else if s.on R.rail_IN_BAND m || m ∉ s.pwr.measured then s
  else { s with pwr := { s.pwr with bandSince := mins s.pwr.bandSince m (s.clk.ticks - ticksMs goodMs) } }

/-- RAIL_OUT (R586): a rail read `mv` for `us` microseconds, after `goodMs` milliseconds in its band. Ten microseconds out of
band send RAIL_OUT, again only after 1 ms in band; two beyond a further 5 % of nominal take the hard action. -/
def execRailOut (rail mv us goodMs : Nat) (s : State) : Host.Outcome State Fault Refusal :=
  outcome (rail < 30 && mv < 65536) s <|
    let uv := mv * 1000
    let (lo, hi) := s.railBand rail
    let out := uv < lo ∨ hi < uv
    let s1 := (((s.noteBand rail goodMs (decide out)).measure rail).wr R.rail_MV rail mv).wr R.rail_IN_BAND rail (b2n (!decide out))
    let s2 := (s1.raise R.rail_MAX_MV rail mv).wr R.rail_MIN_MV rail
      (if rail ∉ s.pwr.measured then mv else min mv (s.rd R.rail_MIN_MV rail))
    let s3 := if rail = 5 then (s2.wr R.gasp_VLG_MV 0 mv).wr R.gasp_LG_READY 0 (b2n (decide (3100 ≤ mv))) else s2
    let armed := !(s.pwr.railSent.contains rail) || decide (1 ≤ goodMs)
    let s4 :=
      if out ∧ 10 ≤ us ∧ armed then
        ({ s3 with pwr := { s3.pwr with railSent := rail :: s3.pwr.railSent.filter (· != rail) } }.bump32
          R.rail_OUT_COUNT rail).fault 0x001 0x23 rail
      else s3
    let five := s.railNominal rail * 5 / 100
    if 2 ≤ us ∧ (uv + five < lo ∨ hi + five < uv) then s4.railHard rail uv else s4

/-! ## Temperatures (R587) -/

/-- TEMP_CRIT and trip of a sensor in m°C. -/
def tempCrit (n : Nat) : Int := if n ≤ 8 then 110000 else 100000
def tempTrip (n : Nat) : Int := if n ≤ 8 then 120000 else 105000

/-- A reading of a sensor shown: TEMP, MAX, and DIE_SPREAD over the die sensors that have been read. -/
def State.showTemp (s : State) (n : Nat) (t : Int) : State :=
  let s1 := (s.measure (32 + n)).wrI R.temp_TEMP n t
  let s2 := s1.wrI R.temp_MAX n (if 32 + n ∈ s.pwr.measured then max t (s.rdI R.temp_MAX n) else t)
  let dies := ((List.range 9).filter (fun i => s2.pwr.measured.contains (32 + i))).map (fun i => s2.rdI R.temp_TEMP i)
  s2.wrI R.prst_DIE_SPREAD 0 (dies.foldl max (dies.headD 0) - dies.foldl min (dies.headD 0))

/-- TEMP_HIGH (R587): a sensor that was as low as `lowest` rises through HIGH_LIMIT. -/
def execTempHigh (sensor : Nat) (lowest mdeg : Int) (s : State) : Host.Outcome State Fault Refusal :=
  outcome (sensor < 17 && decide (-(2 : Int) ^ 31 ≤ mdeg) && decide (mdeg < 2 ^ 31)) s <|
    let s1 := s.showTemp sensor mdeg
    let lim := s.rdI R.temp_HIGH_LIMIT sensor
    let armed := !(s.pwr.hotSent.contains sensor) || decide (lowest ≤ lim - 5000)
    if lim ≤ mdeg ∧ armed then
      ({ s1 with pwr := { s1.pwr with hotSent := sensor :: s1.pwr.hotSent.filter (· != sensor) } }.bump32
        R.temp_HIGH_EVENTS sensor).fault 0x001 0x21 sensor
    else s1

/-- TEMP_CRIT (R587): a sensor reaches its fixed critical limit; the message is FATAL. -/
def execTempCrit (sensor : Nat) (mdeg : Int) (s : State) : Host.Outcome State Fault Refusal :=
  outcome (sensor < 17 && decide (-(2 : Int) ^ 31 ≤ mdeg) && decide (mdeg < 2 ^ 31)) s <|
    let s1 := s.showTemp sensor mdeg
    if tempCrit sensor ≤ mdeg then s1.fault 0x001 0x22 sensor else s1

/-- THERMAL_TRIP (R587): at a sensor's trip every domain but AON goes off and the device is held in reset, cause THERMAL. -/
def execThermalTrip (sensor : Nat) (mdeg : Int) (s : State) : Host.Outcome State Fault Refusal :=
  outcome (sensor < 17 && decide (-(2 : Int) ^ 31 ≤ mdeg) && decide (mdeg < 2 ^ 31)) s <|
    let s1 := s.showTemp sensor mdeg
    if tempTrip sensor ≤ mdeg then
      let s2 := (s1.enterReset 6).dropAll 4
      { s2 with pwr := { s2.pwr with thermalHold := true, dropping := false } }
    else s1

/-- THERMAL_RECOVER (R587): every sensor has read 85 °C or less for 1 s: the device boots again. -/
def execThermalRecover (mdegs : List Int) (s : State) : Host.Outcome State Fault Refusal :=
  outcome (mdegs.length == 17 && mdegs.all (fun t => decide (-(2 : Int) ^ 31 ≤ t) && decide (t < 2 ^ 31))) s <|
    let s1 := s.each (mdegs.zipIdx) (fun t e => t.showTemp e.2 e.1)
    if s.pwr.thermalHold ∧ mdegs.all (fun t => decide (t ≤ 85000)) then
      let s2 := { s1 with pwr := { s1.pwr with thermalHold := false } }
      if s.pwr.pinLow ∨ s.pwr.internal.isSome ∨ s.pwr.gasp.isSome then s2 else s2.releaseReset
    else s1

/-- AVS_STEP (R585): the VID code moves one step: toward the setpoint the monitors need, or toward FACTORY_CODE while
AVS_ENABLE is clear; not before CORE has run for 10 ms, nor within 100 µs of the last step. -/
def execAvsStep (up : Bool) (s : State) : Host.Outcome State Fault Refusal :=
  completes (
    let c := s.rd R.prst_AVS_CODE 0
    let f := s.rd R.prst_FACTORY_CODE 0
    let c' := if s.on R.prst_AVS_ENABLE 0 then (if up then min 60 (c + 1) else c - 1)
      else if c < f then c + 1 else if f < c then c - 1 else c
    if s.coreOn ∧ s.past s.pwr.coreOnTick (ticksMs 10) ∧ s.past s.pwr.avsTick (ticksUs 100) ∧ c' ≠ c then
      { s with pwr := { s.pwr with avsTick := s.clk.ticks } }.wr R.prst_AVS_CODE 0 c' |>.emit (.pin 2 c')
    else s)

/-! ## Boot flash and OTP (R600, R604) -/

/-- Octets written into flash. -/
def flashPut (m : Map Octet) (at_ : Nat) (bs : Octets) : Map Octet :=
  bs.zipIdx.foldl (fun m e => mput 0xFF m (at_ + e.2) (e.1 % 256)) m

/-- A flash command takes effect: BUSY, with its address and data as they stand (R600). -/
def State.flashStart (s : State) (op addr : Nat) (data : Octets) : State :=
  if s.rd R.flash_STATUS 0 = 1 then s
  else { s with pwr := { s.pwr with flashCmd := some (op, addr, data) } }.wr R.flash_STATUS 0 1

/-- FLASH_DONE (R600): the command completes, or fails as the flash reports. -/
def execFlashDone (ok : Bool) (s : State) : Host.Outcome State Fault Refusal :=
  completes (match s.pwr.flashCmd with
    | none => s
    | some (op, addr, data) =>
      let s1 := { s with pwr := { s.pwr with flashCmd := none } }
      let aligned := op = 1 ∨ (op = 2 ∧ addr % 256 = 0) ∨ (op = 3 ∧ addr % 65536 = 0)
      if !ok ∨ ¬ aligned then s1.wr R.flash_STATUS 0 3
      else
        let s2 := s1.emit (.flash op addr data)
        let s3 :=
          if op = 1 then s2.wr R.flash_DATA 0 (domOf (flashOctets s addr 256))
          else if op = 2 then { s2 with pwr := { s2.pwr with flash := flashPut s2.pwr.flash addr data } }
          else { s2 with pwr := { s2.pwr with flash := s2.pwr.flash.filter (fun e => e.1 / 65536 != addr / 65536) } }
        s3.wr R.flash_STATUS 0 2)

/-- The 2,048 bits of a record from its 252 octets, with the CRC the device computes (R601, R604). -/
def recordBits (bytes : Octets) : Nat := beNat bytes * 2 ^ 32 + crc32c 0xFFFFFFFF bytes

/-- The CRC of a record is valid; a blank generation never has one (R603). -/
def recordValid (w : Nat) : Bool := w != 0 && crc32c 0xFFFFFFFF ((toBE 256 w).take 252) == w % 2 ^ 32

/-- GEN_STATE of a record: 0 BLANK, 1 VALID, 2 INVALID (R613). -/
def recordState (w : Nat) : Nat := if w = 0 then 0 else if recordValid w then 1 else 2

/-- OTP_PROGRAM_DONE (R604): the generation is read back; on a mismatch its bits are open and its CRC does not match. -/
def execOtpProgramDone (ok : Bool) (s : State) : Host.Outcome State Fault Refusal :=
  completes (match s.pwr.programming with
    | none => s
    | some (g, w) =>
      let (f, s1) := if ok then (w, s) else s.free 2048
      let s2 := { s1 with pwr := { s1.pwr with programming := none, otp := s1.pwr.otp.set g f } }
      (s2.wr R.settings_PROGRAM_STATUS g (if ok then 2 else 3)).wr R.settings_GEN_STATE g (if ok then 1 else recordState f))

end Sys2Proof.Machine
end

