-- ==== Sys2Proof/Machine/Functions.lean ====
section
/-! DEFINITION. Stoppable functions: requests, starting, stopping, powering off, containment, isolation (00_scope.md R9,
02_object_dictionary.md R48 to R54, 18_faults.md R566). -/

namespace Sys2Proof.Machine

/-! ## Containment and ownership (R53) -/

/-- Tables held under a tenant's quota: those whose quota in effect for it is not 0, which is no limit (R200, R206). A tenant that is OFF
holds none. -/
def State.heldTables (s : State) (n : Nat) : List Nat :=
  if s.fnState .tenant n = stOff then []
  else (if s.on R.tquota_HOST_QUOTA n then [2] else []) ++ (if s.on R.tquota_ROUTE_QUOTA n || s.on R.tquota_LONG6_QUOTA n then [3] else [])
    ++ (if s.on R.tquota_FLOW_QUOTA n then [9] else [])

/-- The tenants that hold a table under their quotas. -/
def State.holders (s : State) (t : Nat) : List Nat :=
  (([R.tquota_HOST_QUOTA, R.tquota_ROUTE_QUOTA, R.tquota_LONG6_QUOTA, R.tquota_FLOW_QUOTA].flatMap
    (fun r => (s.instances r).map (·.1))).eraseDups).filter (fun n => (s.heldTables n).contains t)

/-- Members of a function that are in a state other than STOPPED and OFF: a chiplet's ports and links; the carve's groups, tables and
tenants; the tables held under a tenant's quota. -/
def State.activeMembers (s : State) (f : Fn) (n : Nat) : List (Fn × Nat) :=
  let active (g : Fn) : List Nat := [2, 3, 4, 5].flatMap (s.fnsIn g)
  match f with
  | .chiplet => ((active .port).filter (fun p => p / 96 == n)).map (fun p => (.port, p))
      ++ ((active .link).filter (fun l => l / 96 == n)).map (fun l => (.link, l))
  | .carve => (active .group).map (fun g => (.group, g)) ++ (active .table).map (fun t => (.table, t))
      ++ (active .tenant).map (fun t => (.tenant, t))
  | .tenant => ((s.heldTables n).filter (fun t => 2 ≤ s.fnState .table t)).map (fun t => (.table, t))
  | _ => []

/-- The containers of a function: the chiplet of a port or link, the carve of a group, table or tenant, the tenants that hold a table. -/
def State.containers (s : State) (f : Fn) (n : Nat) : List (Fn × Nat) :=
  match f with
  | .port => [(.chiplet, n / 96)]
  | .link => [(.chiplet, n / 96)]
  | .group => [(.carve, 0)]
  | .table => (.carve, 0) :: (s.holders n).map (fun t => (.tenant, t))
  | .tenant => [(.carve, 0)]
  | .chiplet => []
  | .carve => []

/-- The power domain that a function switches: of a chiplet, a group, the carve (R580). -/
def fnDomain (f : Fn) (n : Nat) : Option Nat :=
  match f with
  | .chiplet => some (5 + n)
  | .group => some (13 + n)
  | .carve => some 4
  | _ => none

/-- The function that owns an STP sub-index; none for a lane's TX_OVERRIDE while the lane has no owner (R348), and for a region that no
table owns (R205). -/
def State.stpOwner (s : State) (k : Nat) : Option (Fn × Nat) :=
  let i := keyIndex k
  let n := keyInst k
  if i = 0x2000 then some (.chiplet, n)
  else if i = 0x2008 then ownerFn (s.rd R.lane_OWNER n)
  else if i = 0x2040 then some (.port, n)
  else if i = 0x6040 then some (.link, n)
  else if i = 0x3000 ∨ i = 0x3040 ∨ i = 0x3048 ∨ i = 0x4010 then some (.group, n)
  else if i = 0x4000 ∨ i = 0x4004 then some (.table, n)
  else if i = 0x4001 then some (.table, 3)
  else if i = 0x4008 then (if s.rd R.region_TABLE n < 26 then some (.table, s.rd R.region_TABLE n) else none)
  else if i = 0x5000 then some (.carve, 0)
  else if 0xA000 ≤ i then some (.tenant, n)
  else none

/-- STP values written for a function take effect as it enters STARTING (R52). -/
def State.takeStp (s : State) (f : Fn) (n : Nat) : State :=
  let mine := s.acc.stp.filter (fun e => s.stpOwner e.1 == some (f, n)
    || (keyIndex e.1 == 0x4008 && f == .table && s.stpOr R.region_TABLE (keyInst e.1) == n))
  let s1 := s.each mine (fun t e => t.setVal e.1 e.2)
  { s1 with acc := { s1.acc with stp := s1.acc.stp.filter (fun e => !mine.any (fun m => m.1 == e.1)) } }

/-- A function's own objects return to their defaults as it powers up (R50, R234); what a domain holds beside them starts with it. -/
def State.fnDefaults (s : State) (f : Fn) (n : Nat) : State :=
  let own (k : Nat) : Bool :=
    keyInst k == n && ((keySub k != 1 && keySub k != 3) || !List.contains [0x2040, 0x6040, 0x4000, 0xA000] (keyIndex k)) && (match f with
      | .port => keyIndex k == 0x2040
      | .link => keyIndex k == 0x6040
      | .table => keyIndex k == 0x4000 || keyIndex k == 0x4004
      | .tenant => decide (0xA000 ≤ keyIndex k)
      | _ => false)
  s.resetKeys own

/-! ## Stopping (R50, R54, R113, R269, R366) -/

/-- A port enters STOPPING (R366): waiting frames are discarded, its queues emptied, its lanes go to IDLE; a frame in transmission
completes. -/
def State.portStops (s : State) (p : Nat) : State :=
  let s1 := (s.setInbuf p []).add R.pcnt_RX_STOP_DISCARD p (s.inbuf p).length
  let s2 := (s1.dropSelected p).each (List.range 8) (fun t c => t.discardQueue (egKey (8 * p + c)) 0x0A)
  let sending := s2.prt.txEnd
  let s3 := { s2 with prt := { s2.prt with txEnd := mdel s2.prt.txEnd p } }.setPortLink p 0
  let s4 := { s3 with prt := { s3.prt with txEnd := sending, degraded := mdel s3.prt.degraded p } }
  s4.each (s4.ownerLanes (portOwner p)) State.restLane

/-- A link enters STOPPING: cells not acknowledged are lost, queued cells go back to route selection, its lanes go to IDLE. -/
def State.linkStops (s : State) (l : Nat) : State :=
  let s1 := (s.loseReplay l).setLink l 0 0
  s1.each (s1.ownerLanes (linkOwner l)) State.restLane

/-- A chiplet enters STOPPING: a pending reference switch is cancelled (R337), its tests end (R339). -/
def State.chipStops (s : State) (k : Nat) : State := (s.cancelSwitch k).restChip k

/-- What a function does in the slot in which it enters STOPPING; a tenant has nothing to drain but its tables. -/
def State.stopActs (s : State) (f : Fn) (n : Nat) : State :=
  match f with
  | .port => s.portStops n
  | .link => s.linkStops n
  | .group => s.groupHalts n
  | .chiplet => s.chipStops n
  | .table => s
  | .tenant => s
  | .carve => s

/-- One function enters STOPPING; its start, if one was in progress, is abandoned (R50). -/
def State.beginStop (s : State) (f : Fn) (n : Nat) : State := (s.setFn f n stStopping).stopActs f n

/-- A function is stopped: members first (R53). A FAULTED one goes to STOPPED at once (R50). -/
def State.stopOne (s : State) (f : Fn) (n : Nat) : State :=
  let st := s.fnState f n
  if st = stFaulted then s.setFn f n stStopped else if st = stStarting ∨ st = stRunning then s.beginStop f n else s

/-- Stop every member that is not STOPPED or OFF. -/
def State.stopMembers (s : State) (f : Fn) (n : Nat) : State := s.each (s.activeMembers f n) (fun t m => t.stopOne m.1 m.2)

/-- A STOP of a function in STARTING or RUNNING, members first. -/
def State.stopFn (s : State) (f : Fn) (n : Nat) : State := (s.stopMembers f n).beginStop f n

/-- Every packet of the store is discarded with STOP_DISCARD, every page freed, every queue cleared, those of the links among them (R269). -/
def State.emptyStore (s : State) : State :=
  let s1 := s.each (s.sto.queues.map (·.1)) (fun t q => t.discardQueue q 0x0A)
  let s2 := s1.each (s1.sto.repl.flatMap (fun e => e.2)) (fun t r =>
    let n := match t.pkt? r.pid with
      | some p => p.len
      | none => 0
    (t.qmDrop 0x0A n none none).endRepl r.pid)
  { s2 with sto := { s2.sto with repl := [] } }.dropLeaving 0x0A

/-- Whether a function in STOPPING has drained: the frame on the wire has ended (R366), the egress pipelines are empty (R113), walks and
queued writes of a table are done (R209), every member is at rest (R53). -/
def State.drained (s : State) (f : Fn) (n : Nat) : Bool :=
  match f with
  | .port => s.txIdle n
  | .link => true
  | .group => s.pip.atEgress.all (fun e => portGroup e.1 != n || e.2.isEmpty)
  | .table => s.tableStopped n
  | .tenant => (s.activeMembers .tenant n).isEmpty
  | .chiplet => (s.activeMembers .chiplet n).isEmpty
  | .carve => (s.activeMembers .carve 0).isEmpty

/-- What ends with the stop of a function: a chiplet's PLL and die-to-die link, the contents of the store, a table's ageing. -/
def State.stopEnds (s : State) (f : Fn) (n : Nat) : State :=
  match f with
  | .chiplet => (s.wr R.chip_REF_IN_USE n 0xFF).wr R.d2d_LINK_STATE n 0
  | .carve => s.emptyStore
  | _ => s

/-- A function leaves STOPPING: for STOPPED, or for FAULTED when an escalation or a fault stopped it (R566, R346). -/
def State.endStop (s : State) (f : Fn) (n : Nat) : State :=
  let k := fnKey f n
  let faulted := s.fns.faultAfter.contains k
  let s1 := { s with fns := { s.fns with stopTick := mdel s.fns.stopTick k, faultAfter := s.fns.faultAfter.filter (· != k) } }
  (s1.stopEnds f n).setFn f n (if faulted then stFaulted else stStopped)

/-- STOP_COMPLETE (R54): a function in STOPPING whose drain or discard has completed is STOPPED. -/
def execStopComplete (fn : Fn) (n : Nat) (s : State) : Host.Outcome State Fault Refusal :=
  outcome (n < fnCount fn) s (if s.fnState fn n = stStopping ∧ s.drained fn n then s.endStop fn n else s)

/-- What a function still holds 100 ms after it entered STOPPING is discarded (R54). -/
def State.forceStop (s : State) (f : Fn) (n : Nat) : State :=
  match f with
  | .port => { s with prt := { s.prt with txEnd := mdel s.prt.txEnd n } }
  | .group => s.each ((s.pip.atEgress.filter (fun e => portGroup e.1 == n)).map (·.1)) State.dropSelected
  | .table => s.tableForced n
  | _ => s

/-- STOP_LIMIT (R54): 100 ms after it entered STOPPING a function is STOPPED, members before their container. -/
def execStopLimit (fn : Fn) (n : Nat) (s : State) : Host.Outcome State Fault Refusal :=
  outcome (n < fnCount fn) s <|
    let due (t : State) (f : Fn) (m : Nat) : Bool :=
      t.fnState f m == stStopping && t.past (mget 0 t.fns.stopTick (fnKey f m) - 1) (ticksMs 100)
    let force (t : State) (f : Fn) (m : Nat) : State := if due t f m then (t.forceStop f m).endStop f m else t
    if due s fn n then force (s.each (s.activeMembers fn n) (fun t m => force t m.1 m.2)) fn n else s

/-! ## Starting (R50 to R52) -/

/-- What a function does as it enters STARTING, with its STP values in effect. -/
def State.startActs (s : State) (f : Fn) (n : Nat) (shareMoved : Bool) : State :=
  match f with
  | .chiplet => match s.chipLock n with
    | none => s.startFailed .chiplet n
    | some r => ((s.wr R.chip_REF_IN_USE n r).setD2d n (s.d2d n).restarted).wr R.d2d_LINK_STATE n 1
  | .port => s.trainOwner (portOwner n)
  | .link => (s.setLinkSt n LinkSt.idle).trainOwner (linkOwner n)
  | .table => s.tableStarts n
  | .carve => (if shareMoved then s.clearTables else s).returnPages.recountPages
  | .group => s
  | .tenant => s

/-- A START takes effect on a function in STOPPED for a principal: STARTING. -/
def State.startFn (s : State) (who : Nat) (f : Fn) (n : Nat) : State :=
  let share := s.rd R.store_TABLE_SHARE_GIB 0
  let s1 := s.takeStp f n
  let s2 := { s1 with fns := { s1.fns with starter := mput 0 s1.fns.starter (fnKey f n) who } }.setFn f n stStarting
  s2.startActs f n (f == .carve && s2.rd R.store_TABLE_SHARE_GIB 0 != share)

/-- What follows as a function enters RUNNING. -/
def State.runActs (s : State) (f : Fn) (n : Nat) : State :=
  match f with
  | .chiplet =>
    let s1 := (s.wr R.d2d_LINK_STATE n 2).restChip n
    let mine := s1.fns.autoStart.filter (fun l => l / 96 == n)
    let s2 := { s1 with fns := { s1.fns with autoStart := s1.fns.autoStart.filter (fun l => l / 96 != n) } }
    s2.each mine (fun t l => if t.fnState .link l = stStopped then t.startFn 0 .link l else t)
  | .link => s.linkAligns n
  | .group => (s.holdRelease n).pumpReads
  | .table => if n = 7 then s.fillMeters else s
  | .port => s
  | .tenant => s
  | .carve => s

/-- What a function that could not start gives up. -/
def State.startUndone (s : State) (f : Fn) (n : Nat) : State :=
  match f with
  | .chiplet => (s.wr R.chip_REF_IN_USE n 0xFF).wr R.d2d_LINK_STATE n 0
  | .port => let t := s.setPortLink n 0; t.each (t.ownerLanes (portOwner n)) State.restLane
  | .link => let t := s.setLink n 0 0; t.each (t.ownerLanes (linkOwner n)) State.restLane
  | _ => s

/-- START_COMPLETE (R50, R51): a function in STARTING reaches RUNNING, or cannot and returns to STOPPED with START_FAILED. A port reaches
RUNNING only as its link is UP (R358). -/
def execStartComplete (fn : Fn) (n : Nat) (ok : Bool) (s : State) : Host.Outcome State Fault Refusal :=
  outcome (n < fnCount fn) s <|
    if s.fnState fn n ≠ stStarting then s
    else if !ok then (s.startFailed fn n).startUndone fn n
    else if fn = .port ∧ s.rd R.port_LINK_STATE n ≠ 3 then s
    else (s.setFn fn n stRunning).runActs fn n

/-! ## Powering off and on (R50, R234, R580) -/

/-- A tenant whose tables are at rest powers off: its tenant entry is written as zero (R234). -/
def State.tenantGone (s : State) (n : Nat) : State := (s.putEntry 1 n (List.replicate 8 0) false).fnGone .tenant n

/-- A POWER_OFF takes effect on a function in STOPPED, members first (R53). -/
def State.powerOffFn (s : State) (f : Fn) (n : Nat) : State :=
  let k := fnKey f n
  let going (t : State) : State := { t with fns := { t.fns with powering := k :: t.fns.powering } }
  match f with
  | .chiplet => (going (s.stopMembers f n)).requestSwitch (5 + n) false 1
  | .group => (going s).requestSwitch (13 + n) false 1
  | .carve => if s.switchBarred 4 false then s else (going (s.stopMembers f n)).requestSwitch 4 false 1
  | .table => (going s).eraseTable n
  | .port => (s.releaseLanes (portOwner n)).fnGone .port n
  | .link => (s.releaseLanes (linkOwner n)).fnGone .link n
  | .tenant => if (s.activeMembers .tenant n).isEmpty then s.tenantGone n else going (s.stopMembers .tenant n)

/-- POWER_OFF_COMPLETE (R50, R53, R234): the erase of a table ends, its far-tier writes done, and it is OFF; so is a tenant whose tables had
to stop first. A function with a domain of its own is OFF with its domain (DOMAIN_SWITCHED). -/
def execPowerOffComplete (fn : Fn) (n : Nat) (s : State) : Host.Outcome State Fault Refusal :=
  outcome (n < fnCount fn) s
    (if !s.fns.powering.contains (fnKey fn n) then s
    else if fn = .table ∧ (s.writersOf n).isEmpty then s.fnGone fn n
    else if fn = .tenant ∧ (s.activeMembers fn n).isEmpty then s.tenantGone n
    else s)

/-- A STOP takes effect on a function in OFF: it powers up with defaults, then it is STOPPED (R50). -/
def State.powerUpFn (s : State) (f : Fn) (n : Nat) : State :=
  match fnDomain f n with
  | some d => s.requestSwitch d true 0
  | none => (s.fnDefaults f n).setFn f n stStopped

/-- A STOP takes effect on a function in FAULTED: STOPPED, once its members are at rest; one whose domain is off powers up. -/
def State.clearFault (s : State) (f : Fn) (n : Nat) : State :=
  match fnDomain f n with
  | some d =>
    if !s.domOn d then (s.fnGone f n).requestSwitch d true 0
    else
      let s1 := s.stopMembers f n
      if (s1.activeMembers f n).isEmpty then (s1.stopEnds f n).setFn f n stStopped else s1.setFn f n stStopping
  | none => s.setFn f n stStopped

/-! ## Requests (R50) -/

/-- A request takes effect at a slot boundary: 1 STOP, 2 START, 3 POWER_OFF. -/
def State.requestFn (s : State) (who : Nat) (f : Fn) (n code : Nat) : State :=
  let st := s.fnState f n
  if s.fns.powering.contains (fnKey f n) then s
  else if code = 1 then
    if st = stOff then s.powerUpFn f n
    else if st = stStarting ∨ st = stRunning then s.stopFn f n
    else if st = stFaulted then s.clearFault f n
    else s
  else if code = 2 then (if st = stStopped then s.startFn who f n else s)
  else if code = 3 then (if st = stStopped then s.powerOffFn f n else s)
  else s

/-! ## Isolation (R566, R346) -/

/-- A function stops as for a STOP request and then enters FAULTED; one that is FAULTED or OFF is left (R566, R567). -/
def State.isolate (s : State) (f : Fn) (n : Nat) : State :=
  let st := s.fnState f n
  let k := fnKey f n
  if st = stOff ∨ st = stFaulted then s
  else if st = stStopped then s.setFn f n stFaulted
  else
    let s1 := { s with fns := { s.fns with faultAfter := k :: s.fns.faultAfter.filter (· != k) } }
    if st = stStopping then s1 else s1.stopFn f n

/-- The die-to-die link of a chiplet is DOWN (R346): the flits in flight and in its replay buffers are lost, D2D_DOWN is sent, the chiplet is
FAULTED and its ports and links stop; one that is FAULTED itself leaves that state only by a STOP request (R9). -/
def State.d2dDown (s : State) (k : Nat) : State :=
  let x := s.d2d k
  let s1 := (((s.setD2d k x.restarted).wr R.d2d_LINK_STATE k 0).add R.d2d_FLITS_LOST k (x.held0 + x.held1)).fault (0x020 + k) 0x18 0
  let members := (s1.activeMembers .chiplet k).filter (fun m => s1.fnState m.1 m.2 != stFaulted)
  let s2 := ((s1.each members (fun t m => t.stopOne m.1 m.2)).cancelSwitch k).setFn .chiplet k stFaulted
  s2.restChip k

/-- D2D_RETRAIN_DONE (R346): a retrain of a chiplet's die-to-die link ends, well where both its directions trained (R343); after three failed in a row the link is DOWN. -/
def execD2dRetrainDone (chip : Nat) (toCore toPhy : Bool) (s : State) : Host.Outcome State Fault Refusal :=
  outcome (chip < 8) s <|
    if s.rd R.d2d_LINK_STATE chip ≠ 1 ∨ s.fnState .chiplet chip ≠ stRunning then s
    else
      let x := s.d2d chip
      if toCore && toPhy then (s.setD2d chip { x with failed := 0 }).wr R.d2d_LINK_STATE chip 2
      else if x.failed + 1 < 3 then (s.setD2d chip { x with failed := x.failed + 1 }).bump32 R.d2d_RETRAINS chip
      else s.d2dDown chip

end Sys2Proof.Machine
end

