-- ==== Sys2Proof/Machine/Reads.lean ====
section
/-! DEFINITION. What a read of the dictionary returns: the row of a sub-index, values that are computed as they are read, counters that
are read through their shadows, and the blocks of fast objects (02_object_dictionary.md R28 to R37, R65, 16_telemetry.md R506). -/

namespace Sys2Proof.Machine

/-! ## The last applied write (R37, R643) -/

/-- The value that a sub-index was last written with, in effect or not; STP values before their START, RW values before the boundary. -/
def State.latestKey (s : State) (k : Nat) : Nat :=
  match mfind s.acc.stp k with
  | some v => v
  | none => match s.acc.slotWrites.reverse.find? (fun w => w.key == k) with
    | some w => w.val
    | none => s.val k

/-- The last applied value of a register. -/
def State.latest (s : State) (r : Reg) (n : Nat) : Nat := s.latestKey (key r n)

/-! ## Counters (R506, R510) -/

/-- Sub-indices of an object that count: its block counters. -/
def counterSubs (index : Nat) : List (Nat × Nat) :=
  match index with
  | 0x1008 => [(3, 3), (6, 6), (9, 9)]
  | 0x1010 => [(6, 6)]
  | 0x1018 => [(R.gen_LAST_HELD_SLOT.sub, R.gen_LAST_HELD_SLOT.sub), (0x0E, 0x0E)]
  | 0x2000 => [(0x0A, 0x0A)]
  | 0x2008 => [(0x0C, 0x0E)]
  | 0x2018 => [(7, 9)]
  | 0x2020 => [(1, 0x13), (0x15, 0x15), (0x18, 0x1F)]
  | 0x2038 => [(2, 4), (7, 8)]
  | 0x2040 => [(0x0B, 0x0B), (0x0F, 0x0F)]
  | 0x2048 => [(1, 0x16)]
  | 0x2060 => [(8, 0x0A)]
  | 0x3000 => [(0x0A, 0x0A)]
  | 0x3008 => [(4, 8)]
  | 0x3009 => [(1, 3)]
  | 0x3010 => [(1, 5)]
  | 0x3030 => [(1, 2)]
  | 0x3031 => [(1, 2)]
  | 0x3048 => [(7, 8), (0x0A, 0x0B)]
  | 0x3050 => [(1, 2)]
  | 0x4000 => [(0x0E, 0x11)]
  | 0x4001 => [(4, 5)]
  | 0x4002 => [(2, 3)]
  | 0x4004 => [(9, 0x0F)]
  | 0x4010 => [(2, 3)]
  | 0x4011 => [(6, 9)]
  | 0x5000 => [(0x11, 0x18)]
  | 0x5010 => [(0x0B, 0x0B), (0x0E, 0x0E)]
  | 0x5040 => [(1, 2)]
  | 0x5041 => [(1, 2)]
  | 0x5048 => [(2, 2)]
  | 0x5080 => [(2, 2)]
  | 0x5090 => [(1, 2), (6, 6)]
  | 0x5110 => [(1, 5)]
  | 0x5120 => [(4, 6)]
  | 0x5128 => [(4, 6)]
  | 0x5130 => [(6, 6)]
  | 0x5131 => [(6, 6)]
  | 0x5138 => [(3, 3)]
  | 0x6000 => [(0x0C, 0x0C)]
  | 0x6020 => [(0x12, 0x12)]
  | 0x6048 => [(1, 0x12)]
  | 0x6050 => [(7, 0x0F), (0x11, 0x12)]
  | 0x6058 => [(4, 6)]
  | 0x6070 => [(4, 4)]
  | 0x6088 => [(2, 4)]
  | 0x7000 => [(0x10, 0x10)]
  | 0x7008 => [(8, 9)]
  | 0x7010 => [(0x0D, 0x0F)]
  | 0x7018 => [(4, 5)]
  | 0x7020 => [(6, 0x0C)]
  | 0x7028 => [(7, 7)]
  | 0x8000 => [(6, 6), (8, 8), (0x0C, 0x0C)]
  | 0x8008 => [(3, 3)]
  | 0x8010 => [(0x0D, 0x0E)]
  | 0x8030 => [(2, 2), (4, 5)]
  | 0x8040 => [(3, 5)]
  | 0x8050 => [(5, 5)]
  | 0x8058 => [(6, 6)]
  | 0x8068 => [(5, 5)]
  | 0x8078 => [(R.gasp_SAVES.sub, R.gasp_SAVES.sub)]
  | 0x806C => [(4, 4)]
  | 0x8100 => [(4, 0x0B)]
  | 0x8108 => [(6, 6), (8, 8)]
  | 0x8120 => [(7, 8)]
  | 0x8128 => [(0x0A, 0x0C)]
  | 0x8130 => [(7, 0x0C)]
  | 0x8140 => [(0x10, 0x10)]
  | 0x9000 => [(5, 5), (8, 9)]
  | 0x9010 => [(0x10, 0x11)]
  | 0x9020 => [(7, 7)]
  | 0xA010 => [(9, 9)]
  | 0xA020 => [(6, 6)]
  | 0xA030 => [(6, 6)]
  | 0xA040 => [(4, 5)]
  | _ => []

/-- A block counter: an RO counting sub-index. -/
def isCounter (k : Nat) : Bool := (counterSubs (keyIndex k)).any (fun r => decide (r.1 ≤ keySub k) && decide (keySub k ≤ r.2))

/-- What a read of an RO sub-index shows: a counter as the last slot boundary latched it while slots run, any other value as it is. -/
def State.latched (s : State) (k : Nat) : Nat :=
  if isCounter k && s.clk.running then mget (dictDefault k) s.acc.shadow k else s.val k

/-! ## Values computed as they are read -/

/-- Index ranges that hold a staged value other than the value in effect (R39). -/
def State.stagedPending (s : State) : Nat :=
  (List.range 10).foldl (fun a i =>
    if s.acc.staged.any (fun e => keyIndex e.1 / 0x1000 == i + 1 && e.2 != s.val e.1) then a + 2 ^ (i + 1) else a) 0

/-- Queues whose profile is `n` (R249, R271). -/
def State.profileQueues (s : State) (n : Nat) : Nat :=
  let m := s.rd R.store_VOQ_PROFILE_MAP 0
  let voqs := ((List.range 8).filter (fun t => bits m (5 * t + 4) (5 * t) == n)).length * 131072
  let set := s.instances R.ptc_EGQ_PROFILE
  voqs + (set.filter (fun e => e.2 == n)).length + (if n = 0 then 6144 - set.length else 0)

/-- Lanes of a chiplet in READY (R347). -/
def State.chipReady (s : State) (k : Nat) : Nat :=
  ((s.instances R.lane_TRAIN_STATE).filter (fun e => laneChip e.1 == k && e.2 == 5)).length

/-- Lanes that use the default record (R333); one under TX_OVERRIDE may use its receiver settings. -/
def State.lanesDefaulted (s : State) : Nat :=
  ((s.instances R.lane_TRAIN_STATE).filter (fun e => decide (2 ≤ e.2) && mget 0 s.lan.bounds e.1 == 0)).length

/-- Four 16-bit counts as one word, the first uppermost. -/
def fourWord (l : List Nat) : Nat := (l.take 4).foldl (fun a n => a * 65536 + min n 65535) 0

/-- A word of the i-th newest of some records. -/
def recordWord (l : List LogRec) (i sub : Nat) : Nat :=
  match l[i]? with
  | none => 0
  | some x => if sub = 1 then x.w0 else if sub = 2 then x.w1 else if sub = 3 then x.w2 else x.w3

/-- The trace records that boot restored (R618). -/
def State.savedTraces (s : State) : List LogRec :=
  match s.pwr.mram.traces with
  | some (_, l) => if s.pwr.restored.contains 4 then l else []
  | none => []

/-- A value that the device computes as it is read; none for a value the dictionary holds. -/
def State.computed (s : State) (k : Nat) : Option Nat :=
  let n := keyInst k
  let is (r : Reg) : Bool := keyIndex k == r.index && keySub k == r.sub
  if is R.ident_DICT_VERSION then some (Config.dictVersion (s.rd R.ident_FW_VERSION 0) % 2 ^ 32)
  else if is R.commit_STAGED_PENDING then some s.stagedPending
  else if is R.chip_LANES_READY then some (s.chipReady n)
  -- an instance of the histogram that serves no owner reads zero (R341)
  else if keyIndex k = R.fec_BIN0.index ∧ isCounter k ∧ !s.fecServes n then some 0
  else if is R.board_DEFAULTED then some s.lanesDefaulted
  else if is R.rte_LEAF_LINES then some s.leafLines
  else if is R.ceng_FLUSH_QUEUED then some s.flushes.length
  else if is R.tmnt_AGE_NOW then some (if n = 2 ∨ n = 9 then s.ageNow n else 0)
  else if is R.tmnt_SWEEP_EPOCHS then some (s.sweepEpochs n)
  else if is R.store_SHARED_CELLS then some s.sharedSize
  else if is R.store_FILL_FREE then some s.fillFreeNow
  -- a group beyond REPL_GROUPS reads as invalid (R276)
  else if is R.mgrp_VALID && decide (s.rd R.store_REPL_GROUPS 0 ≤ n) then some 0
  else if is R.qprof_QUEUES then some (s.profileQueues n)
  else if is R.fab_DEVICE_ID then some (s.rd R.ident_DEVICE_ID 0)
  else if is R.fab_REMOTE_OUTSTANDING then some (s.remote.ops.filter (fun o => match o.owner with
      | .mailbox _ _ _ => true
      | .proxy _ => false)).length
  else if is R.rt_LIVE then some (s.liveMask n)
  else if is R.link_CREDITS then some (creditsOf (s.stpOr R.link_CREDITS n) (s.stpOr R.link_WIDTH n))
  else if is R.pgr_GRANT_RATE then some (s.grantRate n)
  else if is R.pgr_STANDING_RESERVED then some (s.standingReserved n)
  else if is R.feq_OUTSTANDING then some (s.outQ n)
  else if is R.feq_REQUESTERS then some ((s.reqs n).filter (fun e => e.pending != 0)).length
  else if is R.feq_PENDING_CELLS then some ((s.reqs n).foldl (fun a e => a + e.pending) 0)
  else if is R.linkq_QUEUED then some (fourWord ((s.link n).queues.map List.length))
  else if is R.linkq_ACCEPT_LIMIT then some (s.acceptLimit n)
  else if is R.invar_TIME then some (timeRaw s.now)
  else if is R.invar_COUNT then some s.clk.count
  else if keyIndex k = R.log_W0.index ∧ keySub k ≠ 0 then some (recordWord s.coll.log n (keySub k))
  else if keyIndex k = R.strace_W0.index ∧ keySub k ≠ 0 then some (recordWord s.savedTraces n (keySub k))
  else if is R.settings_RECORD then some (2 ^ 2048 + s.pwr.otp.getD n 0)
  else if is R.coll_ALIVE_STATE then some s.aliveNow
  else if is R.prst_RESET_HELD_TIME && s.pwr.inReset then some s.heldMs
  else if is R.flash_FLASH_SIZE then some (Config.flashSize % 2 ^ 32)
  else if is R.gasp_SAVES then some s.pwr.mram.saves
  else if is R.gasp_LAST_SAVE_US then some s.pwr.mram.lastSaveUs
  else if is R.gasp_SAVE_SEQ then some s.pwr.mram.saveSeq
  else if is R.gtel_FROZEN then some (b2n ((mfind s.tel.offAt n).isSome && !s.domOn (13 + n)))
  else none

/-- The value a read returns (R37): a computed value, a staged value on request, a counter's latch, or the last applied write. -/
def State.readVal (s : State) (k : Nat) (staged : Bool) : Nat :=
  match rowOf k with
  | none => 0
  | some r =>
    -- SAVES stands in MRAM, and is read through its shadow as every counter is (R506)
    if k = key R.gasp_SAVES 0 ∧ s.clk.running then s.latched k
    else match s.computed k with
    | some v => v
    | none =>
      if r.acc = .cmt then (if staged then (mfind s.acc.staged k).getD (s.val k) else s.val k)
      else if r.acc = .ro then s.latched k
      -- a pending clear of a W1C object is a mask, no value of it
      else if r.acc = .w1c then s.val k
      else s.latestKey k

/-- The octets of a value, least significant first; a DOMAIN's own octets in order. -/
def valueOctets (r : Row) (v : Nat) : Octets := if r.ty = .domain then domOctets v else toLE r.len v

/-! ## Fast objects (R65, R524) -/

end Sys2Proof.Machine
end

