-- ==== Sys2Proof/Machine/Rules.lean ====
section
/-! DEFINITION. The refusals of a write that rules of single objects state: principal, access, busy, state and range (R32 steps 5 to 8
and 10). Combination checks stand in Combos. -/

namespace Sys2Proof.Machine

/-! ## Requests (R48, R50) -/

/-- The kind of function whose own object an index is. -/
def fnOfIndex (i : Nat) : Option Fn := [Fn.port, .link, .group, .chiplet, .tenant, .table, .carve].find? (fun f => fnIndex f == i)

/-- An index is a stoppable function's own object. -/
def isFunctionIndex (i : Nat) : Bool := (fnOfIndex i).isSome

/-- A key is a REQUEST. -/
def isRequest (k : Nat) : Bool := isFunctionIndex (keyIndex k) && keySub k == 2

/-- The state that the requests accepted in this slot will produce (R50). -/
def State.projected (s : State) : State :=
  s.each (s.acc.slotWrites.filter (fun w => isRequest w.key)) (fun t w => match fnOfIndex (keyIndex w.key) with
    | none => t
    | some f => t.requestFn w.who f (keyInst w.key) w.val)

/-- OWNED entries of a tenant remain (R234). -/
def State.tenantUses (s : State) (n : Nat) : Bool :=
  s.rd R.tquota_HOST_USED n != 0 || s.rd R.tquota_ROUTE_USED n != 0 || s.rd R.tquota_LONG6_USED n != 0
    || s.rd R.tquota_FLOW_USED n != 0

/-- A START of a function in STOPPED is refused for what it needs first: its container RUNNING (R53, R358), a whole image (R162), a
board table (R332). -/
def State.startNeeds (s : State) (f : Fn) (n : Nat) : Bool :=
  (s.containers f n).all (fun c => s.fnState c.1 c.2 == stRunning) && (f != .group || s.on R.img_STORE_VALID n) && (f != .chiplet || s.lan.board.isSome)

/-- A POWER_OFF of a function in STOPPED is refused: of a tenant with owned entries (R234), of the carve over domains that are on or
asked to come on (R580). -/
def State.keepsPower (s : State) (f : Fn) (n : Nat) : Bool :=
  match f with
  | .tenant => s.tenantUses n
  | .carve => ((List.range 24).map (· + 5)).any (fun d =>
      s.rd R.dom_DOMAIN_STATE d != 0 || s.domTarget d
        || s.acc.slotWrites.any (fun w => R.dom_POWER_REQUEST.has w.key && keyInst w.key == d && w.val == 1))
  | _ => false

/-- A request answers DA_STATE (R50). -/
def State.requestBad (s : State) (f : Fn) (n code : Nat) : Bool :=
  let st := s.fnState f n
  if s.fns.powering.contains (fnKey f n) then code == 2
  else if st = stOff then code == 2
  else if st = stStopped then (code == 2 && !s.startNeeds f n) || (code == 3 && s.keepsPower f n)
  else if st = stStarting ∨ st = stRunning then code == 3
  else code == 2 || code == 3

/-! ## Rights (R55 to R58) -/

/-- Right bits of a range (R55): 0 READ, 1 WRITE, 2 CONTROL, 3 COMMIT. -/
def State.hasRight (s : State) (p index right : Nat) : Bool :=
  bit (s.rd R.princ_RIGHTS p) (4 * (index / 0x1000) + right)

/-- Ranges that a scope mask selects. -/
def scopeRanges (scope : Nat) : List Nat := ((List.range 10).map (· + 1)).filter (fun i => bit scope i)

/-- A key lies in a range that a scope selects (R39). -/
def inScope (scope k : Nat) : Bool := 1 ≤ keyIndex k / 0x1000 && keyIndex k / 0x1000 ≤ 10 && bit scope (keyIndex k / 0x1000)

/-- Refusals with DA_PRINCIPAL of single objects: RIGHTS beyond the writer's own (R58), a commit without the COMMIT right (R40), SET_ID
(R399), a command of another tenant (R217), a tenant's record output (R511). -/
def badPrincipal (s : State) (who k v : Nat) : Bool :=
  let tenant := s.rd R.princ_TENANT who
  if R.princ_RIGHTS.has k then Nat.land (v % 2 ^ 44 / 16 * 16) (s.rd R.princ_RIGHTS who) != v % 2 ^ 44 / 16 * 16
  else if R.commit_TRIGGER.has k then
    (v == 1 || v == 2) && !(scopeRanges (s.latest R.commit_SCOPE 0)).all (fun i => s.hasRight who (i * 0x1000) 3)
  else if R.fab_SET_ID.has k then who != 0
  else if R.chan_CMD.has k then tenant != 0xFFFF && !(cmdTenanted v && cmdTenant v == tenant)
  else if R.ttel_OUTPUT.has k then tenant != 0xFFFF
  else false

/-- Refusals with DA_ACCESS of single objects: fixed principals (R57), this device's own identity entry (R397), a generation that is not
blank (R604). -/
def badAccess (s : State) (k : Nat) : Bool :=
  let n := keyInst k
  (keyIndex k == 0x1020 && decide (n ≤ 2))
    || (keyIndex k == 0x6008 && s.myId == n && s.on R.idn_VALID n)
    || (R.settings_RECORD.has k && (s.rd R.settings_GEN_STATE n != 0 || (match s.pwr.programming with
        | some (g, _) => g == n
        | none => false)))

/-! ## Service (R32 step 7) -/

/-- A write that firmware serves: a START (R49), a LOAD of an image or of the board table (R162, R333). -/
def firmwareServed (k v : Nat) : Bool :=
  (isRequest k && v == 2) || R.img_LOAD.has k || R.board_LOAD.has k

/-- A fetch uses the boot flash: a load from it, or a Pewter that boots; so does a command that a reset left running (log entry 31). -/
def State.flashBusy (s : State) : Bool :=
  (s.pwr.flashCmd.isSome && s.rd R.flash_STATUS 0 != 1) || s.pip.loading.any (fun e => e.2.2.2 == 1) || s.rd R.pewter_STATE 0 == 1 || s.rd R.pewter_STATE 1 == 1

/-- The chiplet or group domain that serves a key is off. -/
def State.blockOff (s : State) (k : Nat) : Bool :=
  let d := keyDomain k
  decide (5 ≤ d) && decide (d ≤ 20) && !s.domOn d

/-- Refusals with DA_BUSY of a write: the flash in use (R600), a block that is off; a REQUEST of a chiplet or group reaches it in AON. -/
def badBusy (s : State) (k : Nat) : Bool :=
  (R.flash_CMD.has k && s.flashBusy)
    || (s.blockOff k && !(isRequest k && (keyIndex k == 0x2000 || keyIndex k == 0x3000)))

/-- A read of a block that is off answers DA_BUSY; a function's own object and frozen counters are read all the same (R48, R510). -/
def readBusy (s : State) (k : Nat) : Bool := s.blockOff k && !isFunctionIndex (keyIndex k) && !shadowedCounter k

/-! ## State (R32 step 8) -/

/-- An STP sub-index is writable: its owning function is STOPPED, or nothing owns it; for a region, of the table in effect, the table last
written and the new one, each that is a table (R205). -/
def stpWritable (s : State) (k v : Nat) : Bool :=
  let stopped (f : Fn) (n : Nat) : Bool := s.fnState f n == stStopped
  if keyIndex k = 0x4008 then
    let n := keyInst k
    ([s.rd R.region_TABLE n, s.stpOr R.region_TABLE n] ++ (if keySub k = 1 then [v] else [])).all
      (fun t => decide (26 ≤ t) || stopped .table t)
  else match s.stpOwner k with
    | none => true
    | some (f, n) => stopped f n

/-- A CMT sub-index lies in the scope of an armed commit (R44). -/
def armedCovers (s : State) (k : Nat) : Bool :=
  match s.acc.armed with
  | some a => inScope a.scope k
  | none => false

/-- The instant that is 128 ns ahead. -/
def State.soon (s : State) : Nat := s.now + 128 * 65536

/-- RECORD is refused with DA_STATE (R604): not the lowest blank generation above the live one, or no OTP_UNLOCK in the last second. -/
def State.recordState_ (s : State) (g : Nat) : Bool :=
  let live := s.rd R.ident_SETTINGS_GEN 0
  let next := ((List.range 4).filter (fun i => decide (live < i) && s.rd R.settings_GEN_STATE i == 0)).head?
  next != some g || (match s.pwr.unlock with
    | some t => s.past t (ticksMs 1000 + 1)
    | none => true)

/-- A flash command is refused with DA_STATE: another runs, or it would change the slot that the active Pewter booted from (R600). -/
def State.flashHeld (s : State) (op : Nat) : Bool :=
  let addr := s.latest R.flash_ADDRESS 0
  let act := s.rd R.svc_ACTIVE_PEWTER 0
  let slot := if act = 1 then s.coll.pewterA.slot else if act = 2 then s.coll.pewterB.slot else 2
  let len := if op = 3 then 65536 else 256
  s.rd R.flash_STATUS 0 == 1 || (op != 1 && decide (slot < 2)
    && decide (fwSlot slot < addr + len) && decide (addr < fwSlot slot + 0x00800000))

/-- Refusals with DA_STATE of the commit object (R44, R45). -/
def commitHeld (s : State) (k v : Nat) : Bool :=
  s.acc.armed.isSome && (keySub k == 1 || keySub k == 3 || (keySub k == 2 && (v == 1 || v == 2 || v == 4)))

/-- POWER_REQUEST is refused (R582): a domain that is switched otherwise, or a stack while CORE is off or going off. In reset, where every
domain but AON is to be off (R590), every one is (DEDUCED, log entry 70). -/
def State.powerHeld (s : State) (d v : Nat) : Bool :=
  s.pwr.inReset || !(d == 3 || (decide (21 ≤ d) && decide (d ≤ 28)))
    || (decide (21 ≤ d) && v == 1 && (s.rd R.dom_DOMAIN_STATE 4 == 0 || !s.domTarget 4))

/-- No Pewter may run: the device is in reset, or its boot halted at step 2 with AON and HOST only (R590, R595; DEDUCED, log entry 70). -/
def State.noPewters (s : State) : Bool := s.pwr.inReset || s.rd R.prst_HALT_CAUSE 0 == 1

/-- No reaction of a source is pending that an ACK written now could end: none, or one that expired at a boundary that is past (R567). -/
def State.ackLate (s : State) (n : Nat) : Bool :=
  s.rd R.src_REACT_STATE n != 1 || decide (mget 0 s.coll.countdown n ≤ b2n s.clk.epochDue)

/-- Refusals with DA_STATE of single objects. -/
def badState (s : State) (k v : Nat) : Bool :=
  let n := keyInst k
  let b := keySub k
  match keyIndex k with
  | 0x1010 => commitHeld s k v
  | 0x1018 =>
    if b = 4 then s.rd R.gen_PREV_HELD 0 != 0
    else if b = 5 then
      (s.latest R.fab_FENCE 0 == 0 && s.rd R.gen_GEN_STATE 0 == 1) || armedCovers s k
    else false
  | 0x2000 =>
    if b = 2 then s.projected.requestBad .chiplet n v
    else b == 8 && !s.refHealthy (s.chipStandby n)
  | 0x2040 => b == 2 && s.projected.requestBad .port n v
  | 0x3000 => b == 2 && s.projected.requestBad .group n v
  | 0x4000 => b == 2 && s.projected.requestBad .table n v
  | 0x5000 => b == 2 && s.projected.requestBad .carve n v
  | 0xA000 => b == 2 && s.projected.requestBad .tenant n v
  | 0x6040 =>
    if b = 2 then s.projected.requestBad .link n v
    else if b = 0x13 then
      !(s.rd R.link_LINK_STATE n == 4 && s.rd R.link_NB_SERIAL n == s.latest R.link_ASSIGN_SERIAL n
        && s.rd R.link_NB_INCARNATION n == s.latest R.link_ASSIGN_INCARNATION n)
    else b == 0x15 && s.rd R.link_PROXY_STATUS n == 1
  | 0x2008 => b == 0x0B && s.ownerState n != stRunning
  | 0x2018 => 1 ≤ b && b ≤ 5 && !s.testAllowed n
  | 0x2030 => b == 4 && !(s.fnsIn .chiplet stStarting).isEmpty
  | 0x2060 => (b ≤ 2 || b == 4 || 0x10 ≤ b) && (mfind s.prt.i2c n).isSome
  | 0x4100 => (b ≤ 3 || 0x10 ≤ b) && (s.chan? n).isSome
  | 0x6000 =>
    if b = 2 then s.rd R.ident_DEVICE_ID 0 != 0x0FFF || s.on R.fab_FIXED_ID 0
    else b == 5 && v == 0 && s.on R.coll_FATAL_LATCHED 0
  | 0x7000 => b == 0x0F && !s.refHealthy s.timeStandby
  | 0x7001 =>
    if b = 6 then v == 1 && (s.latest R.invar_SYNC_SOURCE 0 == 1 || s.clk.change.isSome)
    else s.rd R.tchg_STATUS 0 == 1
  | 0x8120 => (b == 2 || b == 3) && s.latest R.fring_ENABLE n == 1 && v != s.latestKey k
  | 0x8140 => b != 0x0F && b != 1 && s.latest R.dump_ENABLE n == 1
  | 0x9010 => b != 1 && s.rd R.ring_RING_STATE n != 0
  | 0x9020 => b != 1 && s.rd R.ering_STATE n != 0
  | 0x9040 => b != 1 && s.latest R.win_ENABLE n == 1
  | 0x8010 => b == 8 && s.ackLate n
  | 0x8040 =>
    if b = 6 then s.rd R.pewter_STATE n == 3 || s.noPewters
    else b == 7 && !(s.rd R.pewter_STATE n == 2 && s.rd R.pewter_STATE (1 - n) == 3)
  | 0x8050 => b == 2 && s.projected.powerHeld n v
  | 0x8058 => b == 7 && s.pwr.programming.isSome
  | 0x8060 => b == 1 && s.recordState_ n
  | 0x8070 => b == 1 && s.flashHeld v
  | _ => false

/-! ## Ranges (R32 step 10) -/

/-- TX_OVERRIDE satisfies R331 in the lane's mode, enabled or not; one that is enabled, R330's range of TX_MAIN too, which the 0 that disables
it does not reach. A lane with no mode is in neither of those in which R331 bars TX_PRE3 and TX_PRE2. -/
def overrideOk (s : State) (lane v : Nat) : Bool :=
  let mode := s.rd R.lane_LANE_MODE lane
  if bit v 63 then firOk (v % 2 ^ 35) mode else firRule (v % 2 ^ 35) mode

/-- A record output names a destination and a target that exist (R491). -/
def outputOk (v : Nat) : Bool :=
  match bits v 15 12 with
  | 0 => true
  | 1 => true
  | 2 => decide (bits v 7 0 < 16)
  | 3 => decide (bits v 7 0 < 4)
  | _ => false

/-- TARGET of a shaper (R318): fixed below 7,168; a VOQ above. -/
def targetOk (n v : Nat) : Bool := decide (7168 ≤ n) && bits v 30 28 == 0 && decide (bits v 19 0 < 2 ^ 20)

/-- Every nibble of a slot-table word has its reserved bit clear (R286). -/
def slotWordOk (v : Nat) : Bool := (List.range 16).all (fun i => !bit v (4 * i + 3))

/-- FT_KEY names header vector words or 0xFF (R494); one of fewer than 10 octets contributes zeros for those it lacks (log entry 43). -/
def ftKeyOk (v : Nat) : Bool := (domOctets v).length ≤ 10 && (domOctets v).all (fun x => decide (x < 0x90) || x == 0xFF)

/-- Operating limit of a die or stack in m°C (R587, R615). -/
def highLimitMax (n : Nat) : Int := if n ≤ 8 then 105000 else 95000

/-- Values in range for a sub-index whose range a rule gives in its own words. -/
def specialRange (s : State) (k v : Nat) : Bool :=
  let n := keyInst k
  let b := keySub k
  match keyIndex k with
  | 0x1018 => b != 0x10 || (1 ≤ v && v ≤ s.rd R.ident_FEATURE_LEVEL 0)
  | 0x2008 => overrideOk s n v
  | 0x2018 => v ≤ 10
  | 0x2040 => v ≤ 11
  | 0x2060 => 1 ≤ bits v 63 56 && bits v 63 56 ≤ 3
  | 0x4000 =>
    if b = 0x0C then (if n = 2 ∨ n = 9 then v == 1 else 1 ≤ v && v ≤ 16)
    else v == 0 || (isAux n && 64 ≤ v && v ≤ 131072 && 2 ^ Nat.log2 v == v)
  | 0x5018 => queueExists (v % 2 ^ 20 + v / 2 ^ 30 * 2 ^ 30)
  | 0x5080 => slotWordOk v
  | 0x5130 => targetOk n v
  | 0x5131 => targetOk (65536 + n) v
  | 0x6000 => v < 0xFFF
  | 0x6040 => b != 0x12 || v ≤ 0xFFF
  | 0x8010 => b != 5 || v ≤ 4
  | 0x8058 => v == 0x4F54
  | 0x806C => decide (sext 32 v ≤ highLimitMax n)
  | 0x8100 => outputOk v
  | 0x8108 => ftKeyOk v
  | 0x8130 => outputOk v
  | 0xA040 => outputOk v
  | _ => true

/-- Kinds that R555 lists for a source. -/
def kindOfSource (src kind : Nat) : Bool :=
  let at_ (lo hi : Nat) : Bool := decide (lo ≤ kind) && decide (kind ≤ hi)
  if src = 0 then at_ 1 6
  else if src = 1 then at_ 0x21 0x23
  else if src = 2 ∨ src = 3 then at_ 7 8
  else if src = 4 then kind == 0x24
  else if src = 0x10 then at_ 0x11 0x12
  else if src = 0x11 then kind == 0x15
  else if src = 0x12 then at_ 0x1D 0x20
  else if src = 0x13 then at_ 0x0D 0x0E || kind == 0x10
  else if src = 0x14 then at_ 0x0D 0x0F || kind == 0x11
  else if 0x20 ≤ src ∧ src ≤ 0x27 then at_ 0x16 0x1B
  else if 0x30 ≤ src ∧ src ≤ 0x37 then at_ 9 0x0F
  else if 0x40 ≤ src ∧ src ≤ 0x47 then at_ 0x13 0x14
  else if 0x50 ≤ src ∧ src ≤ 0x53 then kind == 0x1C
  else false

/-- The commit of a scope would advance the generation (R475): the staged NEXT differs from CURRENT. -/
def State.advances (s : State) (scope : Nat) : Bool :=
  let k := key R.gen_NEXT 0
  inScope scope k && (mfind s.acc.staged k).getD (s.val k) != s.rd R.gen_CURRENT 0

/-- COMMIT_AT is too close (R43, R475). -/
def State.commitLate (s : State) : Bool :=
  let t := timeOf (s.latest R.commit_COMMIT_AT 0)
  decide (t < s.soon)
    || (s.advances (s.latest R.commit_SCOPE 0) && decide (t < s.now + s.latest R.gen_GEN_LEAD 0 * 1000 * 65536))

/-- The first slot boundary that lies at least 128 ns ahead, in units of 2 to the minus 16 ns. -/
def State.nextApply (s : State) : Nat := s.timeAt (s.countAt s.clk.count (ceilDiv s.soon (64 * 65536) * (64 * 65536)))

/-- Invar time at the apply point of an ARM (R439). -/
def State.applyPoint (s : State) : Nat :=
  match s.latest R.tchg_APPLY_MODE 0 with
  | 0 => s.timeAt (s.latest R.tchg_APPLY_COUNT 0)
  | 1 => timeOf (s.latest R.tchg_APPLY_TIME 0)
  | _ => s.nextApply

/-- An ARM is late (R440, last row). -/
def armLate (s : State) : Bool :=
  match s.latest R.tchg_APPLY_MODE 0 with
  | 0 => decide (s.latest R.tchg_APPLY_COUNT 0 < s.clk.count) || decide (s.applyPoint < s.soon)
  | 1 => decide (s.applyPoint < s.soon)
  | _ => false

/-- The DA_RANGE rows of R440 before the last. -/
def armRange (s : State) : Bool :=
  let step := sext 64 (s.latest R.tchg_OFFSET_STEP 0)
  let rate := s.latest R.tchg_NEW_RATE 0
  decide (step % 64 ≠ 0) || decide (rate < rateLow) || decide (rateHigh < rate)
    || decide ((s.applyPoint : Int) + step * 65536 < 0)

/-- A code of a map pattern, a standby code, the flash clock or a reserved bit of a settings record is out of range (R604). -/
def recordRange (w : Nat) : Bool :=
  (List.range 8).any (fun m => decide (40319 < bits w (1279 - 48 * m) (1264 - 48 * m)) || decide (40319 < bits w (1263 - 48 * m) (1248 - 48 * m)))
    || ((List.range 8).map (fun c => bits w (605 - 5 * c) (603 - 5 * c)) ++ [bits w 565 563, bits w 560 558]).any
        (fun x => decide (4 ≤ x) && decide (x ≤ 6))
    || bits w 521 520 == 3 || bits w 515 481 != 0 || bits w 384 32 != 0

/-- Refusals with DA_RANGE of single objects. -/
def badRange (s : State) (k v : Nat) : Bool :=
  let n := keyInst k
  let b := keySub k
  match keyIndex k with
  | 0x1010 => b == 2 && v == 2 && s.commitLate
  | 0x1018 => b == 4 && !(s.rd R.gen_PREV_STATE 0 == 1 && v == (s.rd R.gen_CURRENT 0 + 65535) % 65536)
  | 0x7001 =>
    if b = 6 then v == 1 && (armRange s || armLate s)
    else false
  | 0x8008 => !kindListed n || (b == 1 && (decide (n ≤ 4) || n == 6))
  | 0x8010 =>
    !sourceListed n || (b == 8 && v != s.rd R.src_PENDING_SEQ n)
      || (b == 0x0B && !kindOfSource n (s.latest R.src_FORCE_KIND n))
  | 0x8060 => b == 1 && recordRange (recordBits (domOctets v))
  | 0x8108 => b == 5 && v == 0
  | 0x8140 =>
    (b == 9 && decide (v < s.latest R.dump_SUB_FIRST n)) || (b == 0x0B && decide (s.latest R.dump_PERIOD n ≤ v))
  | 0x9040 => b == 4 && (decide (26 ≤ v) || (s.latest R.win_TARGET_KIND n == 1 && decide (16 ≤ v)))
  | _ => false

end Sys2Proof.Machine
end

