-- ==== Sys2Proof/Machine/Combos.lean ====
section
/-! DEFINITION. Combination checks (R32 step 11, R35, R41, R52): lane ownership, what a START validates, what a commit would leave in
effect, and the combinations that single writes may not form. -/

namespace Sys2Proof.Machine

/-! ## Lanes and octets (R323 to R325, R353, R379) -/

/-- What owns lanes of an octet, by a reader of PORT_MODE, WIDTH and LANE_MODE: first lane, lanes, 1 for a port or 2 for a link, lane mode. -/
def State.octetOwners (s : State) (rdw : Reg → Nat → Nat) (o : Nat) : List (Nat × Nat × Nat × Nat) :=
  ((List.range 8).map (· + 8 * o)).flatMap (fun l =>
    let m := rdw R.port_PORT_MODE l
    let w := rdw R.link_WIDTH l
    (if m ≠ 0 ∧ s.fnState .port l ≠ stOff then [(l, portLanes m, 1, portLaneMode m)] else [])
      ++ (if w ≠ 0 ∧ s.fnState .link l ≠ stOff then [(l, w, 2, rdw R.link_LANE_MODE l)] else []))

/-- A port or link lies where R353 and R379 allow it. -/
def ownerPlaced (x : Nat × Nat × Nat × Nat) : Bool :=
  let (l, n, kind, _) := x
  decide (l % 8 + n ≤ 8) && (if kind = 1 then decide (n < 2) || l % 2 == 0 else l % n == 0)

/-- Two owners of lanes share none. -/
def ownersApart (a b : Nat × Nat × Nat × Nat) : Bool := decide (a.1 + a.2.1 ≤ b.1) || decide (b.1 + b.2.1 ≤ a.1)

/-- The owners of an octet keep R323, R353 and R379: no lane twice, ports only or links only, N10 with no other mode. -/
def State.octetOk (s : State) (rdw : Reg → Nat → Nat) (o : Nat) : Bool :=
  let xs := s.octetOwners rdw o
  xs.all ownerPlaced
    && xs.zipIdx.all (fun a => xs.zipIdx.all (fun b => a.2 == b.2 || ownersApart a.1 b.1))
    && (xs.all (fun x => x.2.2.1 == 1) || xs.all (fun x => x.2.2.1 == 2))
    && (xs.all (fun x => x.2.2.2 == 5) || xs.all (fun x => x.2.2.2 != 5))

/-! ## START (R52): the STP values of the function, taken into effect in the state given -/

/-- Octets of TCAM_MAP, padded to 16. -/
def tcamMapOctets (v : Nat) : Octets := let bs := domOctets v; (List.range 16).map (fun i => bs.getD i 0)

/-- A wide stage owns complete aligned groups of 4 blocks (R99). -/
def tcamWideOk (map : Octets) (wide : Nat) : Bool :=
  (List.range 16).all (fun b =>
    let x := map.getD b 0
    let stage := (if bit x 6 then 16 else 0) + bits x 3 0
    !(bit x 7 && bit wide stage)
      || (List.range 4).all (fun i => bits (map.getD (b / 4 * 4 + i) 0) 7 6 == bits x 7 6 && bits (map.getD (b / 4 * 4 + i) 0) 3 0 == bits x 3 0))

/-- FEATURES agree with an image's mask and pairs (R123). -/
def featuresOk (u : Ucode) (mask features : Nat) : Bool :=
  Nat.land features mask == features && u.pairs.all (fun p => !bit features p.1 || bit features p.2)

/-- A group's START (R99, R123, R162, R224). -/
def State.groupStartOk (s : State) (g : Nat) : Bool :=
  let u := s.ucode g
  let map := tcamMapOctets (s.rd R.grp_TCAM_MAP g)
  let wide := s.rd R.grp_TCAM_WIDE g
  let h := s.rd R.lgrp_LEARN_HANDLE g
  map == u.tcamMap && wide == u.tcamWide && tcamWideOk map wide && decide (u.bridgeMin ≤ s.rd R.grp_BRIDGE_WORDS g)
    && featuresOk u (s.rd R.img_FEATURE_MASK g) (s.rd R.grp_FEATURES g)
    && (h == 0xFF || (match s.bound g h with
      | some t => t == 2 || isAux t
      | none => false))

/-- The regions of 0x4008 that name a table, with their instance: table, stack, base and size in MiB. -/
def State.regionList (s : State) : List (Nat × Nat × Nat × Nat × Nat) :=
  ((List.range 64).map (fun i => (i, s.rd R.region_TABLE i, s.rd R.region_STACK i, s.rd R.region_BASE_MIB i, s.rd R.region_SIZE_MIB i))).filter
    (fun r => decide (r.2.1 < 26) && r.2.2.2.2 != 0)

/-- A region lies within its stack's table share and overlaps no other (R169). -/
def State.regionOk (s : State) (r : Nat × Nat × Nat × Nat × Nat) : Bool :=
  let (i, _, k, base, size) := r
  decide (base + size ≤ 128 * s.rd R.store_TABLE_SHARE_GIB 0)
    && s.regionList.all (fun x => x.1 == i || x.2.2.1 != k || decide (base + size ≤ x.2.2.2.1) || decide (x.2.2.2.1 + x.2.2.2.2 ≤ base))

/-- The regions of a table are what R170 asks of it. -/
def State.tableRegionsOk (s : State) (t : Nat) : Bool :=
  let mine := s.regionList.filter (fun r => r.2.1 == t)
  mine.all s.regionOk &&
  (let each (least : Nat) : Bool := (List.range 8).all (fun k =>
      match mine.filter (fun r => r.2.2.1 == k) with
      | [r] => decide (least ≤ r.2.2.2.2)
      | _ => false)
   if t = 2 then each 128 else if t = 8 then each 32 else if t = 9 then each 256
   else if t = 3 then decide (1 ≤ mine.length) && decide (mine.length ≤ 32) else true)

/-- Some tenant has a quota on a table (R201). -/
def State.quotaOn (s : State) (t : Nat) : Bool :=
  let any (r : Reg) : Bool := (s.instances r).any (fun e => e.2 != 0)
  (t == 2 && any R.tquota_HOST_QUOTA) || (t == 3 && (any R.tquota_ROUTE_QUOTA || any R.tquota_LONG6_QUOTA))
    || (t == 9 && any R.tquota_FLOW_QUOTA)

/-- A table's START (R169, R170, R180, R201, R207, R230). -/
def State.tableStartOk (s : State) (t : Nat) : Bool :=
  let direct := s.rd R.tbl_ACCESS_MODE t == 1
  s.tableRegionsOk t && !(direct && (t == 8 || t == 9 || s.quotaOn t))
    && (!isAux t || (s.rd R.tbl_ENTRY_COUNT t != 0
      && decide ((((List.range 8).map (fun i => s.rd R.tbl_ENTRY_COUNT (10 + i))).foldl (· + ·) 0) ≤ 131072)))
    && ((t != 2 && t != 9) || ageBoundOk t (s.rd R.tmnt_AGE_QUANTUM_EXP t) (s.latest R.tmnt_AGE_LIMIT t) (s.latest R.tmnt_SCAN_BUCKETS t))

/-- The carve's START (R169, R247). -/
def State.carveStartOk (s : State) : Bool := s.regionList.all s.regionOk && decide (262144 ≤ s.sharedSize)

/-- A tenant's START (R298, R299): its ranges lie within the tables. -/
def State.tenantStartOk (s : State) (n : Nat) : Bool :=
  let ok (first count : Reg) (places : Nat) : Bool := s.rd count n == 0 || decide (s.rd first n + s.rd count n ≤ places)
  ok R.tlimit_METER_FIRST R.tlimit_METER_COUNT 524288 && ok R.tlimit_COUNTER_FIRST R.tlimit_COUNTER_COUNT 16777216

/-- No lane is under test, and the octet's pattern is valid (R325, R334). -/
def State.lanesStartOk (s : State) (l n : Nat) : Bool :=
  ((List.range n).all (fun i => s.rd R.lane_TRAIN_STATE (l + i) != 6)) && !patternBad (s.octetPattern (l / 8))

/-- A port's START (R325, R334, R355). -/
def State.portStartOk (s : State) (p : Nat) : Bool :=
  let m := s.rd R.port_PORT_MODE p
  m != 0 && (s.rd R.port_FEC_MODE p == 0 || m == 10 || m == 11) && s.lanesStartOk p (portLanes m)

/-- Credits of all links that are not OFF (R387). -/
def State.creditSum (s : State) : Nat :=
  ((s.instances R.link_STATE).filter (fun e => e.2 != 0)).foldl
    (fun a e => let c := s.credits e.1; a + creditVl c 0 + creditVl c 1 + creditVl c 2 + creditVl c 3) 0

/-- A link's START (R325, R334, R387). -/
def State.linkStartOk (s : State) (l : Nat) : Bool :=
  let w := s.rd R.link_WIDTH l
  w != 0 && s.lanesStartOk l w && decide (s.creditSum ≤ s.rd R.store_TRANSIT_CELLS 0)

/-- A START forms a defined combination: judged with the function's STP values in effect (R52). -/
def State.startOk (s : State) (f : Fn) (n : Nat) : Bool :=
  let t := s.takeStp f n
  match f with
  | .port => t.portStartOk n
  | .link => t.linkStartOk n
  | .group => t.groupStartOk n
  | .table => t.tableStartOk n
  | .carve => t.carveStartOk
  | .tenant => t.tenantStartOk n
  | .chiplet => true

/-! ## Commit (R41, R42) -/

/-- The state with the staged values of a scope in effect. -/
def State.withStaged (s : State) (scope : Nat) : State :=
  s.each (s.acc.staged.filter (fun e => inScope scope e.1)) (fun t e => t.setVal e.1 e.2)

/-- Members of a route word name links that exist, and weigh something (R400). -/
def memberOk (s : State) (v : Nat) : Bool :=
  let exists_ (l : Nat) : Bool := decide (l < 768) && s.stpOr R.link_WIDTH l != 0
  !bit v 31 || (bits v 29 26 != 0 && exists_ (bits v 25 16) && (!bit v 15 || exists_ (bits v 9 0)))

/-- How many entries of a stack's slot table a class owns (R283, R286). -/
def State.slotsOwned (s : State) (stack c : Nat) : Nat :=
  (((List.range 32).flatMap (fun w => let v := s.rd (Reg.at R.slots_WORD0 w) stack
    (List.range 16).map (fun i => bits v (4 * i + 2) (4 * i)))).filter (· == c)).length

/-- The slot table of a stack is defined (R286). -/
def State.slotTableOk (s : State) (stack : Nat) : Bool :=
  ((List.range 7).all (fun c => s.slotsOwned stack (c + 1) != 0)) && decide (s.slotsOwned stack 1 ≤ s.slotsOwned stack 2)

/-- Egress queues with FABRIC_CT whose profile spills (R621), lowest first. -/
def State.ctSpills (s : State) : List Nat :=
  ((s.instances R.feq_FABRIC_CT).filter (fun e => e.2 != 0 && s.on R.qprof_SPILL_EN (s.rd R.ptc_EGQ_PROFILE e.1))).map (·.1)

/-- A feature of level 2 is enabled (R487). -/
def State.level2Used (s : State) : Bool :=
  s.latest R.fab_VERSION_MIN 0 == 2 || (s.instances R.stand_ENABLE).any (fun e => e.2 != 0)
    || (s.instances R.feq_FABRIC_CT).any (fun e => e.2 != 0)

/-- Ports that enabled standing grants name. -/
def State.standingPorts (s : State) : List Nat := ((s.instances R.stand_ENABLE).filter (fun e => e.2 != 0)).map (fun e => s.rd R.stand_PORT e.1)

/-- The standing reservations of a port stay within half of C_p times SPEEDUP (R419). -/
def State.standingFits (s : State) (p : Nat) : Bool :=
  !standingOver s.rd ((s.standingOf p).filter (fun i => s.on R.stand_ENABLE i)) (s.grantRate8 p)

/-- What one staged value breaks in the state that the commit would leave: the object that fails, if one does. `now` tells a COMMIT_NOW. -/
def State.stagedBreaks (t : State) (now : Bool) (k : Nat) : Option Nat :=
  let n := keyInst k
  let b := keySub k
  let v := t.val k
  let fails (bad : Bool) : Option Nat := if bad then some k else none
  match keyIndex k with
  | 0x1018 =>
    if b = 3 then
      fails (v != t.rd R.gen_CURRENT 0 && (v != (t.rd R.gen_CURRENT 0 + 1) % 65536 || t.rd R.gen_PREV_STATE 0 == 1
        || (now && t.latest R.gen_GEN_LEAD 0 != 0)))
    else fails (decide (v < 2) && t.level2Used)
  | 0x3000 => fails (match mfind t.pip.ucode n with
      | some u => !featuresOk u (t.rd R.img_FEATURE_MASK n) v
      | none => false)
  | 0x5008 =>
    if b = 3 then (t.ctSpills.head?).map (fun q => key R.feq_FABRIC_CT q)
    else if b = 4 ∨ b = 6 then fails (decide (t.rd R.qprof_HEAD_KEEP n < t.rd R.qprof_FILL_LEVEL n))
    else fails ((b == 8 || b == 9) && decide (t.rd R.qprof_ECN_MAX n ≤ t.rd R.qprof_ECN_MIN n))
  | 0x5010 =>
    if b = 2 then (t.ctSpills.head?).map (fun q => key R.feq_FABRIC_CT q)
    else if b = 1 then fails (decide (t.sharedSize < 262144))
    else if b = 3 ∨ b = 4 then
      fails ((t.on R.ptc_LOSSLESS n && (t.rd R.ptc_HEADROOM n == 0 || t.rd R.psch_FLOW_MODE (n / 8) == 0))
        || (b == 4 && decide (t.sharedSize < 262144)))
    else none
  | 0x5120 => fails (b == 2 && v == 0 && (List.range 8).any (fun c => t.on R.ptc_LOSSLESS (8 * n + c)))
  | 0x5080 => fails (!t.slotTableOk n)
  | 0x5130 => fails (bit v 31 && t.dict.any (fun e => (keyIndex e.1 == 0x5130 || keyIndex e.1 == 0x5131) && keySub e.1 == 4
      && e.1 != k && e.2 == v))
  | 0x5131 => fails (bit v 31 && t.dict.any (fun e => (keyIndex e.1 == 0x5130 || keyIndex e.1 == 0x5131) && keySub e.1 == 4
      && e.1 != k && e.2 == v))
  | 0x6020 => fails (!memberOk t v)
  | 0x6050 => fails (b == 2 && t.standingPorts.any (fun p => !t.standingFits p))
  | 0x6060 =>
    if v ≠ 0 ∧ t.rd R.gen_FABRIC_LEVEL 0 < 2 then some k else (t.ctSpills.head?).map (fun q => key R.feq_FABRIC_CT q)
  | 0x6078 =>
    fails (t.on R.stand_ENABLE n && (decide (t.rd R.gen_FABRIC_LEVEL 0 < 2) || t.rd R.stand_CELLS n == 0
      || !t.standingFits (t.rd R.stand_PORT n)))
  | 0xA020 => fails (b == 1 && decide (t.sharedSize < 262144))
  | _ => none

/-- The first object that fails the combination check of a commit (R41); none when it passes. -/
def commitConflict (s : State) (scope : Nat) (now : Bool) : Option Nat :=
  let t := s.withStaged scope
  ((s.acc.staged.filter (fun e => inScope scope e.1)).filterMap (fun e => t.stagedBreaks now e.1)).foldl
    (fun a k => match a with
      | none => some k
      | some x => some (min x k)) none

/-! ## Single writes (R35): `rdw` reads the settings in effect with every entry of the request applied -/

/-- A far ring lies outside its stack's table share, or meets a region or another enabled far ring (R492). -/
def farRingBad (s : State) (rdw : Reg → Nat → Nat) (f : Nat) : Bool :=
  let base := rdw R.fring_BASE f
  let size := rdw R.fring_SIZE f
  let off := farOff base
  let k := farStack base
  size == 0 || base / 2 ^ 37 != 0 || decide (128 * 1048576 * s.rd R.store_TABLE_SHARE_GIB 0 < off + size)
    || s.regionList.any (fun r => r.2.2.1 == k && decide (off < (r.2.2.2.1 + r.2.2.2.2) * 1048576) && decide (r.2.2.2.1 * 1048576 < off + size))
    || (List.range 16).any (fun g => g != f && rdw R.fring_ENABLE g == 1 && farStack (rdw R.fring_BASE g) == k
        && decide (off < farOff (rdw R.fring_BASE g) + rdw R.fring_SIZE g) && decide (farOff (rdw R.fring_BASE g) < off + size))

/-- Values that a dump set writes (R508). -/
def dumpValues (rdw : Reg → Nat → Nat) (d : Nat) : Nat :=
  if rdw R.dump_KIND d = 0 then 2 * rdw R.dump_COUNT d
  else rdw R.dump_INSTANCES d * (rdw R.dump_SUB_LAST d + 1 - rdw R.dump_SUB_FIRST d)

/-- Two enabled fabric principals name one device (R58). -/
def principalTwice (rdw : Reg → Nat → Nat) (n : Nat) : Bool :=
  let fabric (i : Nat) : Bool := rdw R.princ_ENABLE i == 1 && rdw R.princ_ROUTE i == 3
  fabric n && (List.range 64).any (fun i => i != n && fabric i && rdw R.princ_DEVICE_ID i == rdw R.princ_DEVICE_ID n)

/-- An ESCALATION is allowed for a source (R566). -/
def escalationAllowed (src v : Nat) : Bool :=
  let px := (0x20 ≤ src && src ≤ 0x27) || (0x30 ≤ src && src ≤ 0x37)
  if v = 1 then px else if v = 2 then px || (0x40 ≤ src && src ≤ 0x47) || (2 ≤ src && src ≤ 4) else true

/-- The ageing settings of a table are defined (R230, R235). -/
def ageOk (rdw : Reg → Nat → Nat) (t b v : Nat) : Bool :=
  if t = 2 ∨ t = 9 then
    (if b = 5 then t == 2 || v != 1 else true) && (b == 5 || ageBoundOk t (rdw R.tmnt_AGE_QUANTUM_EXP t) (rdw R.tmnt_AGE_LIMIT t) (rdw R.tmnt_SCAN_BUCKETS t))
  else if b = 3 then v == 10 else if b = 4 then v == 300 else if b = 5 then v == 0 else v == 2048

/-- A START that a REQUEST asks for is refused: judged in the state that the requests before it will produce. -/
def State.startBad (s : State) (k : Nat) : Bool :=
  match fnOfIndex (keyIndex k) with
  | none => false
  | some f =>
    let t := s.projected
    t.fnState f (keyInst k) == stStopped && !t.startOk f (keyInst k)

/-- A write answers STATE_CONFLICT (R32 step 11). `s` holds the entries before it, `next` every entry of the request. -/
def conflicts (s next : State) (k v : Nat) : Bool :=
  let n := keyInst k
  let b := keySub k
  let rdw (r : Reg) (i : Nat) : Nat := next.stpOr r i
  if isRequest k then v == 2 && { next with acc := { next.acc with slotWrites := s.acc.slotWrites } }.startBad k
  else match keyIndex k with
  | 0x1008 => (b == 7 || b == 8) && decide (16000 < rdw R.svc_REMOTE_TIMEOUT 0 * (rdw R.svc_REMOTE_RETRIES 0 + 1))
  | 0x1010 =>
    b == 2 && (v == 1 || v == 2)
      && (commitConflict { next with acc := { next.acc with staged := s.acc.staged } } (s.latest R.commit_SCOPE 0) (v == 1)).isSome
  | 0x1020 => principalTwice rdw n
  | 0x2018 => (b == 1 || b == 2) && decide (7 ≤ rdw R.ltest_PATTERN n) && decide (rdw R.ltest_PATTERN n ≤ 9) && decide (4 ≤ rdw R.ltest_TEST_MODE n)
  -- a bus address of host memory is aligned to 4 KiB (R163, R351)
  | 0x2030 => (b == 1 || b == 2) && rdw R.board_SOURCE 0 == 0 && rdw R.board_ADDRESS 0 % 4096 != 0
  | 0x3040 => (b == 1 || b == 2) && rdw R.img_SOURCE n == 0 && rdw R.img_ADDRESS n % 4096 != 0
  | 0x2040 => b == 4 && !next.octetOk rdw (n / 8)
  | 0x3008 => b ≤ 3 && decide (32 < rdw R.ipipe_REINJECT_SHARE n + rdw R.ipipe_RECIRC_SHARE n + rdw R.ipipe_HOST_SHARE n)
  | 0x4004 => (3 ≤ b && b ≤ 6) && !ageOk rdw n b v
  | 0x6000 =>
    if b = 6 ∨ b = 7 then decide (rdw R.fab_DEAD_INTERVAL 0 < 4 * rdw R.fab_HELLO_INTERVAL 0)
    else b == 9 && v == 2 && decide (rdw R.gen_FABRIC_LEVEL 0 < 2)
  | 0x6040 =>
    if b = 4 then !next.octetOk rdw (n / 8)
    else
      let d := s.latest R.link_ASSIGN_ID n
      b == 0x13 && !(rdw R.idn_VALID d == 1 && rdw R.idn_SERIAL d == s.latest R.link_ASSIGN_SERIAL n
        && rdw R.idn_INCARNATION d == s.latest R.link_ASSIGN_INCARNATION n)
  | 0x8010 => b == 5 && !escalationAllowed n v
  | 0x8120 => b == 1 && v == 1 && farRingBad s rdw n
  | 0x8128 =>
    b == 1 && v == 1 && (rdw R.port_PORT_MODE (rdw R.expo_PORT n) == 0
      || decide ((domOctets (rdw R.expo_TEMPLATE n)).length < rdw R.expo_UDP_OFFSET n + 8))
  | 0x8140 =>
    b == 1 && v == 1 && (decide (rdw R.dump_BUF_SIZE n < 32 + 8 * dumpValues rdw n)
      -- settings that R517 does not allow together, whichever of them was written last (log entry 42)
      || (rdw R.dump_KIND n == 1 && decide (rdw R.dump_SUB_LAST n < rdw R.dump_SUB_FIRST n)) || decide (rdw R.dump_PERIOD n ≤ rdw R.dump_PHASE n))
  | 0x9010 => b == 1 && v == 1 && !ringConfigOk next.latest n
  | 0x9020 => b == 1 && v == 1 && decide ((if next.latest R.ering_LOCATION n = 0 then 1984 else 64) ≤ next.latest R.ering_VECTOR n)
  | 0x9040 => b == 1 && v == 1 && !windowOk rdw n
  | _ => false

end Sys2Proof.Machine
end

