-- ==== Sys2Proof/Machine/Faults.lean ====
section
/-! DEFINITION. Reactions, escalations and FATAL actions (18_faults.md R556 to R568). -/

namespace Sys2Proof.Machine

/-- FATAL_ACTION runs: 3 FENCE_FROM_FABRIC, 4 DEVICE_RESET (R568). -/
def State.fatalAction (s : State) : State :=
  if s.rd R.coll_FATAL_ACTION 0 = 4 then s.startInternal 3 else s.fence true

/-- One message classified with everything it starts (R557, R568). -/
def State.message (s : State) (src kind addr : Nat) (forced : Bool) : State :=
  let (fatal, s1) := s.classify src kind addr forced
  if fatal then s1.fatalAction else s1

/-- FAULT_MESSAGE (R556, R557): the collector takes one message, in round robin over the sources that hold one. -/
def execFaultMessage (s : State) : Host.Outcome State Fault Refusal :=
  completes (match s.nextSource with
    | none => s
    | some src =>
      match mget [] s.coll.held src with
      | [] => s
      | m :: rest =>
        { s with coll := { s.coll with
          held := mput [] s.coll.held src rest, rrNext := src + 1, takenAt := s.aonEdge + 1 } }.message src m.kind m.addr
          m.forced)

/-- HEARTBEAT_MISSING (R570, R571): HB_TIMEOUT has passed without a Pewter's heartbeat. -/
def execHeartbeatMissing (p : Nat) (s : State) : Host.Outcome State Fault Refusal :=
  outcome (p < 2) s (let (f, s1) := s.beatMissing p; if f then s1.fatalAction else s1)

/-- A FATAL PAIR_MISMATCH of a pair is made past the classifier, and FATAL_ACTION runs (R559). -/
def State.pairReported (s : State) (n : Nat) : State :=
  (((s.logRecord 0 0x01 3 n false false).recordEvent).wr R.coll_FATAL_LATCHED 0 1).fatalAction

/-- A pair has read non-complementary at two edges (R559): reported, and pair 0 stops the ALIVE_OUT driver. -/
def State.pairFails (s : State) (n : Nat) : State :=
  { s with coll := { s.coll with badPairs := if s.coll.badPairs.contains n then s.coll.badPairs else n :: s.coll.badPairs } }.pairReported n

/-- PAIR_MISMATCH (R559): pairs 0 to 7. -/
def execPairMismatch (pair : Nat) (s : State) : Host.Outcome State Fault Refusal :=
  outcome (pair < 8) s (s.pairFails pair)

/-- A PAIR_TEST takes effect: DETECTED, or MISSED, which is itself reported as a PAIR_MISMATCH and never reaches the ALIVE_OUT driver (R559). -/
def State.pairTest (s : State) (n : Nat) (detected : Bool) : State :=
  if detected then s.wr R.coll_PAIR_TEST_RESULT 0 1 else (s.wr R.coll_PAIR_TEST_RESULT 0 2).pairReported n

/-- The function that ISOLATE_FUNCTION stops for a source: a port or link that the message's address names, otherwise the
chiplet; for a pipeline group the group (R566). -/
def isolateTarget (s : State) (src kind addr : Nat) : Fn × Nat :=
  if 0x30 ≤ src then (.group, src - 0x30)
  else if kind = 0x16 then
    let o := s.rd R.lane_OWNER (addr % 1024)
    if bits o 15 14 = 1 then (.port, o % 1024) else if bits o 15 14 = 2 then (.link, o % 1024) else (.chiplet, src - 0x20)
  else if kind = 0x19 ∨ kind = 0x1A ∨ kind = 0x1B then (.link, addr % 1024)
  else (.chiplet, src - 0x20)

/-- The domain that POWER_OFF_DOMAIN switches off for a source (R566). -/
def escalationDomain (src : Nat) : Nat := sourceDomain src

/-- An escalation runs (R566): 0 NONE, 1 ISOLATE_FUNCTION, 2 POWER_OFF_DOMAIN, 3 FENCE_FROM_FABRIC, 4 DEVICE_RESET. -/
def State.escalate (s : State) (src act msg : Nat) : State :=
  if act = 1 then
    let (fn, n) := isolateTarget s src (msg / 2 ^ 40) (msg % 2 ^ 40)
    s.isolate fn n
  else if act = 2 then s.requestSwitch (escalationDomain src) false 2
  else if act = 3 then s.fence true
  else if act = 4 then s.startInternal 2
  else s

/-- The reaction of a source ends in its escalation, which is counted and logged as REACT_ESCALATE (R564). -/
def State.logEscalation (s : State) (src : Nat) : State :=
  ((s.endReaction src).bump32 R.coll_ESCALATIONS 0).noteRecord 0x03 (s.rd R.src_ESCALATION src * 2 ^ 12 + src)

/-- The sources whose reactions are due at this epoch boundary, in ascending order (R564, R567). -/
def State.reactionsDue (s : State) : List Nat :=
  (List.range 128).filter (fun x => s.rd R.src_REACT_STATE x == 1 && mget 0 s.coll.countdown x == 0)

/-- The countdown of a source has reached zero (R564, R567): its escalation runs and REACT_ESCALATE is logged. Sources due at one boundary
run in ascending order; when one of them is to reset the device, only the reset runs, after every other is logged. -/
def State.reactionExpires (s : State) (src : Nat) : State :=
  let due := s.reactionsDue
  if due.head? = some src then
    let act := s.rd R.src_ESCALATION src
    let msg := mget 0 s.coll.reactMsg src
    let others := due.filter (· != src)
    if act = 4 then ((s.each others State.logEscalation).logEscalation src).escalate src 4 msg
    else if others.any (fun x => s.rd R.src_ESCALATION x == 4) then s.logEscalation src
    else (s.logEscalation src).escalate src act msg
  else s

/-- REACTION_EXPIRE (R564). -/
def execReactionExpire (src : Nat) (s : State) : Host.Outcome State Fault Refusal :=
  outcome (sourceListed src) s (s.reactionExpires src)

/-- An accepted ACK is applied: the reaction is cancelled and REACT_ACK logged (R565). -/
def State.ackApplied (s : State) (src val : Nat) : State :=
  if s.rd R.src_REACT_STATE src = 1 ∧ s.rd R.src_PENDING_SEQ src = val then (s.endReaction src).noteRecord 0x02 src else s

/-- A FORCE makes a message of its source (R560), held as any other. -/
def State.forceMsg (s : State) (src kind addr : Nat) : State :=
  let held := mget [] s.coll.held src
  if held.length < 16 then
    { s with coll := { s.coll with held := mput [] s.coll.held src (held ++ [⟨kind, addr % 2 ^ 40, true, s.clk.ticks⟩]) } }
  else s.bump32 R.src_LOST src

end Sys2Proof.Machine
end

