-- ==== Sys2Proof/Machine/Effects.lean ====
section
/-! DEFINITION. What an accepted write does: values held until they take effect, triggers that act as they are applied, and the effect of
each RW, WO and W1C write at its slot boundary (R7, R19, R52, R643). -/

namespace Sys2Proof.Machine

/-! ## Parameters of triggers (R643) -/

/-- The values of a run of sub-indices as last written. -/
def State.latestRun (s : State) (r : Reg) (n count : Nat) : List Nat := (List.range count).map (fun i => s.latest (r.at i) n)

/-- What a trigger takes as it is accepted. -/
def triggerParams (s : State) (k : Nat) : List Nat :=
  let n := keyInst k
  if R.src_FORCE.has k then [s.latest R.src_FORCE_KIND n, s.latest R.src_FORCE_ADDR n]
  else if R.link_ASSIGN.has k then [s.latest R.link_ASSIGN_SERIAL n, s.latest R.link_ASSIGN_INCARNATION n, s.latest R.link_ASSIGN_ID n]
  else if R.flash_CMD.has k then [s.latest R.flash_ADDRESS 0, s.latest R.flash_DATA 0]
  else if R.board_LOAD.has k then [s.latest R.board_SOURCE 0, s.latest R.board_ADDRESS 0, s.latest R.board_LENGTH 0]
  else if R.img_LOAD.has k then [s.latest R.img_SOURCE n, s.latest R.img_ADDRESS n, s.latest R.img_LENGTH n]
  else if R.ring_ENABLE.has k then s.latestRun R.ring_DIRECTION n 14
  else if R.ering_ENABLE.has k then s.latestRun R.ering_LOCATION n 4
  else if R.dump_TRIGGER.has k then s.latestRun R.dump_ENABLE n 14
  else []

/-! ## Effects at a slot boundary -/

/-- A request takes effect; a START that no longer may, because of a write after it in its slot, fails (R50 to R53). -/
def State.takeRequest (s : State) (who : Nat) (f : Fn) (n code : Nat) : State :=
  if code = 2 ∧ s.fnState f n = stStopped ∧ !(s.fns.powering.contains (fnKey f n)) ∧ !(s.startNeeds f n && s.startOk f n) then
    ({ s with fns := { s.fns with starter := mput 0 s.fns.starter (fnKey f n) who } }).startFailed f n
  else s.requestFn who f n code

/-- Zero the counters of a link (R408). -/
def State.clearLink (s : State) (l : Nat) : State :=
  s.each [1, 2, 3, 4, 5, 6, 7, 8, 9, 0x0A, 0x0B, 0x0C, 0x0D, 0x0E, 0x0F, 0x10, 0x11, 0x12] (fun t i => t.wr ⟨0x6048, i⟩ l 0)

/-- Settings of the sync links take effect: the active link, the time state, and a root's alignment (R443, R449). -/
def State.syncMoved (s : State) : State :=
  let s1 := s.wr R.sync_ACTIVE_LINK 0 s.activeSync
  let root := s.rd R.invar_SYNC_SOURCE 0 == 0 && (List.range 4).all (fun i => s.rd (R.sync_SYNC_LINK0.at i) 0 == 0xFFFF)
  (if root && s1.rd R.sync_ALIGN_STATE 0 != 0 then s1.setAlign 0 else s1).retime

/-- The first n octets of a DOMAIN value, its missing octets 0xFF as flash leaves them. -/
def pageOctets (v n : Nat) : Octets := let bs := domOctets v; (List.range n).map (fun i => bs.getD i 0xFF)

/-- A write to a shaper's settings takes effect (R305). -/
def State.shaperWritten (s : State) (n k v : Nat) : State :=
  if keySub k = 3 then s.setVal k v else s.reshape n (fun t => t.setVal k v)

/-- One applied write takes effect (R7, R19 step 1). -/
def State.takeEffect (s : State) (w : SlotWrite) : State :=
  let k := w.key
  let n := keyInst k
  let b := keySub k
  let v := w.val
  let set := s.setVal k v
  let aux (i : Nat) : Nat := w.aux.getD i 0
  match fnOfIndex (keyIndex k) with
  | some f =>
    if b = 2 then s.takeRequest w.who f n v
    else if f = .chiplet ∧ b = 8 then s.requestSwitchNow n
    else if f = .link ∧ b = 0x13 then s.startAssign n (aux 0) (aux 1) (aux 2)
    else if f = .link ∧ b = 0x15 then set.startProxy n w.who (domOctets v)
    else set
  | none => match keyIndex k with
  | 0x1018 => if b = 4 then s.retireGen v else if b = 5 then s.adoptGen v else set
  | 0x2008 => s.retrainLane n
  | 0x2018 =>
    if b = 0x0A then s.injectErrors n v
    else if b = 0x0B then (if v = 1 then s.clearLaneTest n else s)
    else s.testWritten n b v
  | 0x2020 => if b = 0x16 then (if v = 1 then s.clearFec n else s) else set
  | 0x2030 => if b = 4 then s.startLoad 8 (aux 0) (aux 1) (aux 2) R.board_STATUS 0 7 else set
  | 0x3040 => s.startLoad n (aux 0) (aux 1) (aux 2) R.img_STATUS n 8
  | 0x2048 => if v = 1 then s.clearPort n else s
  | 0x3048 => if b = 4 then s.wr R.trap_PARKED_HWM n (s.rd R.trap_PARKED n) else set
  | 0x4004 => if b = 1 then set.lockChanged n v else if n = 2 ∨ n = 9 then set else s
  | 0x5018 => { set with sto := { set.sto with probes := n :: set.sto.probes } }
  | 0x5048 => if v = 1 then s.clearRetired n else s
  | 0x5080 => s.wr R.slots_STARVED n (s.rd R.slots_STARVED n - Nat.land (s.rd R.slots_STARVED n) v)
  | 0x5130 => s.shaperWritten n k v
  | 0x5131 => s.shaperWritten (65536 + n) k v
  | 0x6000 => if b = 5 then s.fence (v == 1) else set
  | 0x6008 => set.identityWritten n
  | 0x6048 => if v = 1 then s.clearLink n else s
  | 0x7000 => if b = 0x0F then s.pendPll else set.syncMoved
  | 0x7010 => if b ≤ 4 then set.syncMoved else set
  | 0x8000 =>
    if b = 9 then
      (match w.aux with
        | [d] => s.pairTest v (d == 1)
        | _ => let (d, s1) := s.free 1; s1.pairTest v (d == 1))
    else set
  | 0x8010 => if b = 8 then s.ackApplied n v else if b = 0x0B then s.forceMsg n (aux 0) (aux 1) else set
  | 0x8040 => if b = 6 then s.restartPewter n else s.switchover n
  | 0x8050 => s.requestSwitch n (v == 1) 1
  | 0x8058 => if b = 7 then s.startInternal 4 else set
  | 0x8070 => if b = 1 then s.flashStart v (aux 0) (pageOctets (aux 1) 256) else set
  | 0x8108 => if b = 5 then s.seedTrace n v else set
  | 0x8140 => if b = 0x0F then { s with tel := { s.tel with triggered := mins s.tel.triggered n w.aux } } else set
  | 0x8150 => { set with tel := { set.tel with pairs := n :: set.tel.pairs } }
  | 0x9010 => if b = 1 then s.enableRing n v w.aux else set
  | 0x9020 => if b = 1 then s.enableEv n v w.aux else set
  | _ => set

/-! ## STP writes (R52, R353, R379) -/

/-- A write of PORT_MODE, WIDTH or LANE_MODE moves the ownership of lanes as it is applied. -/
def State.moveLanes (s : State) (k v : Nat) : State :=
  let n := keyInst k
  if R.port_PORT_MODE.has k then
    let t := s.releaseLanes (portOwner n)
    if v = 0 then t else t.takeLanes (portOwner n) (portLanes v) (portLaneMode v)
  else if R.link_WIDTH.has k then
    let t := s.releaseLanes (linkOwner n)
    if v = 0 then t else t.takeLanes (linkOwner n) v (s.stpOr R.link_LANE_MODE n)
  else if R.link_LANE_MODE.has k ∧ s.stpOr R.link_WIDTH n ≠ 0 then s.takeLanes (linkOwner n) (s.stpOr R.link_WIDTH n) v
  else s

/-- Hold a write until its slot boundary, or let it take effect while no slot runs. -/
def State.holdWrite (s : State) (w : SlotWrite) : State :=
  if s.clk.running then { s with acc := { s.acc with slotWrites := s.acc.slotWrites ++ [w] } } else s.takeEffect w

/-- An STP write is applied: held until the owning function enters STARTING, or in effect at once where nothing owns it; a LOAD starts at
the slot boundary. CREDITS 0 is held as 2 to the 64, which no write can hold otherwise. -/
def State.applyStp (s : State) (who k v : Nat) : State :=
  if R.img_LOAD.has k then s.holdWrite ⟨who, k, v, triggerParams s k⟩
  else
    let v := if R.link_CREDITS.has k ∧ v = 0 then 2 ^ 64 else v
    match s.stpOwner k with
    | none =>
      if keyIndex k = 0x4008 ∧ s.stpOr R.region_TABLE (keyInst k) < 26 then { s with acc := { s.acc with stp := mins s.acc.stp k v } }
      else if R.region_TABLE.has k ∧ v < 26 then { s with acc := { s.acc with stp := mins s.acc.stp k v } }
      else s.setVal k v
    | some _ => ({ s with acc := { s.acc with stp := mins s.acc.stp k v } }).moveLanes k v

/-! ## RECORD (R604) -/

/-- Programming of a settings generation begins. -/
def State.applyOtp (s : State) (k v : Nat) : State :=
  let g := keyInst k
  { s with pwr := { s.pwr with programming := some (g, recordBits (domOctets v)) } }.wr R.settings_PROGRAM_STATUS g 1

/-! ## Triggers that act as they are applied -/

/-- A write that acts as it is applied: commit triggers (R42), ARM and CANCEL (R439), OTP_UNLOCK (R604), a command's CMD (R217, R373), an
I2C RESET (R375), SET_ID (R399). -/
def actsNow (k : Nat) : Bool :=
  R.commit_TRIGGER.has k || R.tchg_ARM.has k || R.prst_OTP_UNLOCK.has k || R.chan_CMD.has k || R.i2c_CMD.has k || R.i2c_RESET.has k
    || R.fab_SET_ID.has k

/-- A commit trigger is applied (R42, R45). -/
def State.commitTrigger (s : State) (v : Nat) : State :=
  let scope := s.latest R.commit_SCOPE 0
  let arm (at? : Option Nat) : State := ({ s with acc := { s.acc with armed := some ⟨scope, at?⟩ } }).wr R.commit_STATUS 0 1
  if v = 1 then arm none
  else if v = 2 then arm (some (timeOf (s.latest R.commit_COMMIT_AT 0)))
  else if v = 3 then
    (if s.acc.armed.isSome then ({ s with acc := { s.acc with armed := none } }).wr R.commit_STATUS 0 5 else s)
  else { s with acc := { s.acc with staged := s.acc.staged.filter (fun e => !inScope scope e.1) } }

/-- ARM or CANCEL is applied (R439, R440). -/
def State.armTrigger (s : State) (v : Nat) : State :=
  if v = 1 then
    let mode := s.latest R.tchg_APPLY_MODE 0
    let point := if mode = 0 then s.latest R.tchg_APPLY_COUNT 0 else if mode = 1 then timeOf (s.latest R.tchg_APPLY_TIME 0) else s.soon
    ({ s with clk := { s.clk with change := some ⟨s.latest R.tchg_NEW_RATE 0, sext 64 (s.latest R.tchg_OFFSET_STEP 0), mode, point⟩ } }).wr
      R.tchg_STATUS 0 1
  else if s.clk.change.isSome then ({ s with clk := { s.clk with change := none } }).wr R.tchg_STATUS 0 4
  else s

/-- A trigger acts as it is applied. -/
def State.actNow (s : State) (who k v : Nat) : State :=
  let n := keyInst k
  if R.commit_TRIGGER.has k then s.commitTrigger v
  else if R.tchg_ARM.has k then s.armTrigger v
  else if R.prst_OTP_UNLOCK.has k then { s with pwr := { s.pwr with unlock := some s.clk.ticks } }
  else if R.chan_CMD.has k then s.acceptCmd n who v (s.latest R.chan_ARG0 n) (s.latest R.chan_ARG1 n) (s.latestRun R.chan_DATA0 n 32)
  else if R.i2c_CMD.has k then s.acceptI2c n v (s.latest R.i2c_ADDR n) ((s.latestRun R.i2c_DATA0 n 16).flatMap (toBE 8))
  else if R.i2c_RESET.has k then s.resetI2c n
  else s.setIdEffect v

end Sys2Proof.Machine
end

