-- ==== Sys2Proof/Machine/Boot.lean ====
section
/-! DEFINITION. Boot: the seven steps from reset to DONE and their failures (19_power_reset_boot.md R594 to R605, R609). -/

namespace Sys2Proof.Machine

/-! ## Step 1: the MRAM sections and the incarnation (R595, R605, R609) -/

/-- Sections accepted at this boot: bit s for section s. Section 1 is held only while its sequence is the header's. -/
def mramSections (m : Mram) : Nat :=
  let current (x : Option (Nat × List LogRec)) : Bool := match x with
    | some (seq, _) => seq == m.saveSeq
    | none => false
  b2n (m.incA.isSome || m.incB.isSome) + 2 * b2n m.time.isSome + 4 + 8 * b2n (current m.faults) + 16 * b2n (current m.traces)

/-- Sections not accepted are discarded. -/
def keepSections (m : Mram) : Mram :=
  { m with faults := if bit (mramSections m) 3 then m.faults else none, traces := if bit (mramSections m) 4 then m.traces else none }

/-- The incarnation of the new life and the two copies after it is written; the flag is INC_RESET (R605). -/
def nextIncarnation (m : Mram) : Nat × Bool × Mram :=
  let v := match m.incA, m.incB with
    | some a, some b => some (max a b)
    | some a, none => some a
    | none, some b => some b
    | none, none => none
  match v with
  | none => (1, true, { m with incA := some 1, incB := none })
  | some v =>
    if 0xFFFFFFFE ≤ v then (1, true, { m with incA := some 1, incB := none })
    else if m.incA = some v then (v + 1, false, { m with incB := some (v + 1) })
    else (v + 1, false, { m with incA := some (v + 1) })

/-- The boot is in a step, or DONE. -/
def State.bootAt (s : State) (n : Nat) : State := (s.wr R.prst_BOOT_STATE 0 n).wr R.prst_HALT_CAUSE 0 0

/-- Step 1: MRAM is restored, the life's incarnation and cause are recorded, the fault log is what was saved after a loss of power and is
kept over a reset, a BOOT record follows, and HOST is on (R561, R592, R605). -/
def State.bootStep1 (s0 : State) : State :=
  let s := if s0.pwr.inReset then s0.releaseReset else s0
  let sections := mramSections s.pwr.mram
  let (inc, fresh, m) := nextIncarnation (keepSections s.pwr.mram)
  let power := s.pwr.cause = 0 ∨ s.pwr.cause = 8
  let saved := match m.faults with
    | some (_, l) => l
    | none => []
  let s1 := { s with
    pwr := { s.pwr with mram := m, restored := [1, 2, 3, 4], inReset := false, bootDue := false }
    coll := { s.coll with log := if power then saved else s.coll.log } }
  let s2 := ((s1.wr R.prst_RESET_HELD 0 0).wr R.prst_LAST_RESET_CAUSE 0 s.pwr.cause).wr R.gasp_SECTIONS 0 sections
  let s3 := ((s2.wr R.ident_INCARNATION 0 inc).wr R.prst_INC_RESET 0 (b2n fresh)).noteRecord 0x04 inc
  (s3.markOn 3).bootAt 2

/-! ## Step 2: the settings record (R602, R603) -/

/-- The highest generation that holds a valid record. -/
def State.newestGen (s : State) : Option Nat := ([3, 2, 1, 0] : List Nat).find? (fun g => recordValid (s.pwr.otp.getD g 0))

/-- The generation that becomes live: the one NEXT_BOOT_GEN names where it is valid, else the highest valid one. -/
def State.liveGen (s : State) : Option Nat :=
  let n := s.rd R.prst_NEXT_BOOT_GEN 0
  if n < 4 ∧ recordValid (s.pwr.otp.getD n 0) then some n else s.newestGen

/-- The i-th of the lanes left, in rising order, for each digit of a permutation code (R324). -/
def permFrom : List Nat → Nat → List Nat → List Nat
  | [], _, _ => []
  | _ :: fuel, code, left =>
    let n := left.length
    let f := ((List.range n).drop 1).foldl (· * ·) 1
    let d := code / f % n
    let x := left.getD d 0
    x :: permFrom fuel (code % f) (left.filter (· != x))

/-- The permutation of a code: the physical lane of each logical lane; an invalid code leaves the lanes in place (R324, R325). -/
def permOf (code : Nat) : List Nat :=
  if 40319 < code then List.range 8 else permFrom (List.range 8) code (List.range 8)

/-- PHYS_TX, PHYS_RX and POLARITY of a lane from its octet's map pattern (R324, R348). -/
def State.mapLane (s : State) (lane : Nat) : State :=
  let o := lane / 8
  let p := s.octetPattern o
  let tx := (permOf (bits p 47 32)).getD (lane % 8) 0
  let rx := (permOf (bits p 31 16)).getD (lane % 8) 0
  ((s.wr R.lane_PHYS_TX lane (8 * o + tx)).wr R.lane_PHYS_RX lane (8 * o + rx)).wr R.lane_POLARITY lane
    (2 * bits p (8 + tx) (8 + tx) + bits p rx rx)

/-- A standby of a reference field as its object shows it (R602). -/
def standbyShown (f : Nat) : Nat := if f % 8 = 7 then 0xFF else f % 8

/-- The defaults that the live record sets (R602). -/
def State.recordDefaults (s : State) : State :=
  let s1 := s.each (List.range 8) (fun t k =>
    let f := t.setting (607 - 5 * k) (603 - 5 * k)
    (t.wr R.chip_REF_PRIMARY k (f / 8)).wr R.chip_REF_STANDBY k (standbyShown f))
  let f := s1.setting 567 563
  let s2 := (s1.wr R.invar_TIME_REF_PRIMARY 0 (f / 8)).wr R.invar_TIME_REF_STANDBY 0 (standbyShown f)
  s2.each (List.range 768) State.mapLane

/-- A value that a reset keeps or that OTP gives: what its object returns to within this life. -/
def keptRow (k : Nat) : Bool :=
  match rowOf k with
  | some r => r.dflt == .kept || r.preserved
  | none => false

/-- Kept values that stand outside the dictionary: DICT_VERSION, the last-gasp record in MRAM, and the settings generations in OTP. -/
def keptComputed : List Nat :=
  [key R.ident_DICT_VERSION 0, key R.gasp_SAVES 0, key R.gasp_LAST_SAVE_US 0, key R.gasp_SAVE_SEQ 0]
    ++ (List.range 4).map (key R.settings_RECORD)

/-- The kept values of this life are those that stand now (R31). -/
def State.noteKept (s : State) : State :=
  { s with acc := { s.acc with
      kept := keptComputed.foldl (fun m k => mput 0 m k ((s.computed k).getD 0)) (s.dict.filter (fun e => keptRow e.1)) } }

/-- Seconds and rate that time starts from: those saved, the rate only for the reference that is assigned now (R445). -/
def State.savedTime (s : State) : Nat × Nat :=
  match s.pwr.mram.time with
  | some (sec :: rate :: ref :: _) => (sec, if ref = s.rd R.invar_TIME_REF_PRIMARY 0 then rate else rateNominal)
  | _ => (0, rateNominal)

/-- The boot halts (R595). -/
def State.bootHalts (s : State) (cause : Nat) : State := (s.wr R.prst_BOOT_STATE 0 9).wr R.prst_HALT_CAUSE 0 cause

/-- Every monitor of orders 2 and 3 has read in band for 1 ms (R584). One that has read nothing yet has read nothing out of its band
(log entry 71). -/
def State.railsGood (s : State) : Bool :=
  ((List.range 30).filter (fun m => decide (m ≤ 2) || decide (6 ≤ m))).all (fun m =>
    !s.pwr.measured.contains m || (s.on R.rail_IN_BAND m && (match mfind s.pwr.bandSince m with
      | some t => s.past t (ticksMs 1)
      | none => true)))

/-- Step 2 for live generation `g`: the record's defaults, then CORE and the two management islands on; the Pewters boot. -/
def State.bootLive (s : State) (g : Nat) : State :=
  let s1 := ((s.wr R.ident_SETTINGS_GEN 0 g).recordDefaults).noteKept
  let (sec, rate) := s1.savedTime
  let s2 := (((s1.markOn 4).startCore sec rate |>.markOn 1).markOn 2).noteKept
  (((s2.wr R.prst_NEXT_BOOT_GEN 0 0xFF).bootPewter 0).bootPewter 1).bootAt 3

/-- Step 2: the settings record is chosen, and the rails are waited for before any domain but AON and HOST comes on (R584, R595, R603). -/
def State.bootStep2 (s : State) : State :=
  let s1 := s.each (List.range 4) (fun t g => t.wr R.settings_GEN_STATE g
    (if t.rd R.settings_PROGRAM_STATUS g = 1 then 0 else recordState (t.pwr.otp.getD g 0)))
  match s.liveGen with
  | none => s1.bootHalts 1
  | some g => if s.railsGood then s1.bootLive g else s1

/-! ## Step 3: firmware (R595, R599) -/

/-- The versions of this life's firmware are kept values (R31, R76). -/
def State.noteFirmware (s : State) : State :=
  { s with acc := { s.acc with
      kept := [key R.ident_DICT_VERSION 0, key R.ident_FW_VERSION 0, key R.ident_FEATURE_LEVEL 0].foldl
        (fun m k => if keptRow k then mput (dictDefault k) m k ((s.computed k).getD (s.val k)) else m) s.acc.kept } }

/-- Step 3: the first Pewter becomes active, the other follows as standby; only one that is BOOTING takes part. With no firmware for either
the boot halts; with neither active it waits. -/
def State.bootStep3 (s : State) : State :=
  let first := s.setting 517 517
  let beat (t : State) (p : Nat) : State := if t.rd R.pewter_STATE p = 1 then t.heartbeat p else t
  if (List.range 2).all (fun p => s.rd R.pewter_STATE p == 4) then s.bootHalts 2
  else
    let s1 := beat (beat s first) (1 - first)
    if s1.rd R.svc_ACTIVE_PEWTER 0 = 0 then s1 else s1.noteFirmware.bootAt 4

/-! ## Step 4: the board table (R332, R595, R597) -/

/-- The board table of flash, its length as its header gives it. -/
def State.bootBoard (s : State) : State :=
  let n := fieldAt (flashOctets s 0x1000000 64) 6 2
  let len := 68 + 16 * n
  let bt := flashOctets s 0x1000000 (68 + 16 * min n 3840)
  (((s.wr R.board_SOURCE 0 1).wr R.board_ADDRESS 0 0x1000000).wr R.board_LENGTH 0 len).boardArrives bt (n ≤ 3840)

/-- Step 4: the board table is loaded; the boot halts where the record demands one and none loads. -/
def State.bootStep4 (s : State) : State :=
  let t := s.bootBoard
  if t.rd R.board_STATUS 0 ≠ 2 ∧ t.setting 518 518 = 1 then t.bootHalts 3 else t.bootAt 5

/-! ## Steps 5 and 6: chiplets, stacks, images (R12, R163, R594) -/

/-- A chiplet's domain is on; it is FAULTED when its PLL does not lock. -/
def State.bootChiplet (s : State) (k : Nat) (locks : Bool) : State :=
  let s1 := (s.markOn (5 + k)).domainUp (5 + k)
  if locks then s1 else s1.setFn .chiplet k stFaulted

/-- A stack's domain is on and it trains, or reports MS_TRAIN and its domain is off. -/
def State.bootStack (s : State) (k : Nat) (trains : Bool) : State :=
  let s1 := s.markOn (21 + k)
  if trains then s1.wr R.slots_STACK_UP k 1 else (s1.fault (0x040 + k) 0x14 0).dropDomain (21 + k) 0

/-- A group that an image is assigned to is STOPPED, loads it from its microcode slot, and takes the values the image carries. -/
def State.bootGroup (s : State) (g : Nat) (storeOk : Bool) : State :=
  let slot := s.setting (537 - 2 * g) (536 - 2 * g)
  if slot = 3 then s
  else
    let at_ := 0x1010000 + 0x400000 * slot
    let len := fieldAt (flashOctets s at_ 12) 8 4
    let fits := decide (len ≤ 0x400000)
    let im := if fits then flashOctets s at_ len else []
    let s1 := (s.markOn (13 + g)).domainUp (13 + g)
    let s2 := (((s1.wr R.img_SOURCE g 1).wr R.img_ADDRESS g at_).wr R.img_LENGTH g len).imageArrives g im fits storeOk
    if s2.on R.img_STORE_VALID g then
      let u := imageUcode im
      ((s2.wr R.grp_TCAM_MAP g (domOf u.tcamMap)).wr R.grp_TCAM_WIDE g u.tcamWide).wr R.grp_BRIDGE_WORDS g u.bridgeMin
    else s2

/-! ## Step 7: the carve and the automatic links (R596) -/

/-- The automatic link of an octet: configured, and started once its chiplet runs. -/
def State.bootLink (s : State) (o : Nat) : State :=
  let l := 8 * o
  let s1 := ((s.fnDefaults .link l).setFn .link l stStopped).wr R.link_WIDTH l 8
  let s2 := (s1.wr R.link_LANE_MODE l 1).wr R.link_CLASS l (if s.setting 516 516 = 1 then 0 else 1)
  let s3 := s2.takeLanes (linkOwner l) 8 1
  let s4 := if s3.startOk .link l then { s3 with fns := { s3.fns with autoStart := s3.fns.autoStart ++ [l] } } else s3.startFailed .link l
  if s4.fnState .chiplet (o / 12) = stStopped then s4.startFn 0 .chiplet (o / 12) else s4

/-- The octets whose links start by themselves. -/
def State.autoOctets (s : State) : List Nat := (List.range 96).filter (fun o => s.setting (480 - o) (480 - o) == 1)

/-- Step 5: the chiplets and the stacks come on, in order. -/
def State.bootStep5 (s : State) (chiplets trained : Nat) : State :=
  ((s.each (List.range 8) (fun t k => t.bootChiplet k (bit chiplets k))).each (List.range 8) (fun t k => t.bootStack k (bit trained k))).bootAt 6

/-- Step 6: service is full, and every group that an image is assigned to loads it. -/
def State.bootStep6 (s : State) (images : Nat) : State :=
  ((s.wr R.svc_SERVICE_STATE 0 1).each (List.range 8) (fun t g => t.bootGroup g (bit images g))).bootAt 7

/-- Step 7: the carve and the automatic links start, and the boot is DONE. -/
def State.bootStep7 (s : State) (ms : Nat) : State :=
  let t := s.startFn 0 .carve 0
  ((t.each t.autoOctets State.bootLink).bootAt 8).wr R.prst_BOOT_TIME 0 ms

/-- The endpoint accepts configuration when the boot has reached step 7 or has halted; a link up now reports itself (R593, R594). -/
def State.bootLinkUp (s : State) (cfg : Option LinkConfig) : State :=
  match cfg with
  | none => s
  | some c => if s.ep.perstLow ∨ s.ep.linkUp ∨ !s.domOn 3 then s else s.linkReturns c

/-- A boot halted for want of firmware goes on once a Pewter that RESTART released has found some (R595). -/
def State.bootRetries (s : State) : Bool :=
  s.rd R.prst_HALT_CAUSE 0 == 2 && !s.pwr.inReset && (List.range 2).any (fun p => s.rd R.pewter_STATE p == 1 || s.rd R.pewter_STATE p == 3)

/-- The step in progress: the first where a reset is released, the third where a boot halted for want of firmware goes on; 0 for none. A
release waits for RESET_N and the thermal hold (R587, R589). -/
def State.bootNow (s : State) : Nat :=
  if s.pwr.bootDue then (if s.pwr.inReset && (s.pwr.pinLow || s.pwr.thermalHold) then 0 else 1)
  else if s.bootRetries then 3
  else if s.pwr.inReset || s.rd R.prst_BOOT_STATE 0 == 8 || s.rd R.prst_BOOT_STATE 0 == 9 then 0
  else s.rd R.prst_BOOT_STATE 0

/-- What a run of the boot finds: the stacks that train, the chiplet PLLs that lock, the groups whose read-back is good, the measured time. -/
structure BootFinds where
  trained : Nat
  chiplets : Nat
  images : Nat
  ms : Nat
deriving DecidableEq, Repr

/-- One step of the boot. Steps 4 to 7 are run by the active Pewter: with none the step waits, and the one that takes over repeats it. -/
def State.bootStep (s : State) (n : Nat) (f : BootFinds) : State :=
  if n = 1 then s.bootStep1
  else if n = 2 then s.bootStep2
  else if n = 3 then s.bootStep3
  else if s.rd R.svc_ACTIVE_PEWTER 0 = 0 then s
  else if n = 4 then s.bootStep4
  else if n = 5 then s.bootStep5 f.chiplets f.trained
  else if n = 6 then s.bootStep6 f.images
  else s.bootStep7 f.ms

/-- The steps of a run in order, each where it is the one in progress. -/
def State.bootRun (s : State) (upTo : Nat) (f : BootFinds) : State :=
  s.each ([1, 2, 3, 4, 5, 6, 7].filter (fun n => decide (n ≤ upTo))) (fun t n => if t.bootNow = n then t.bootStep n f else t)

/-- BOOT (R594, R595): the boot runs on from the step in progress, to DONE or HALTED where nothing stops it before. -/
def execBoot (run : BootPart) (chiplets images bootMs : Nat) (cfg : Option LinkConfig) (s : State) : Host.Outcome State Fault Refusal :=
  outcome (run.trained < 256 && chiplets < 256 && images < 256 && bootMs < 2 ^ 32 && (match cfg with
      | some c => c.ok
      | none => true)) s <|
    if s.bootNow = 0 then s
    else
      let t := s.bootRun run.upTo ⟨run.trained, chiplets, images, bootMs⟩
      if t.rd R.prst_BOOT_STATE 0 = 8 ∨ t.rd R.prst_BOOT_STATE 0 = 9 then t.bootLinkUp cfg else t

end Sys2Proof.Machine
end

