-- ==== Sys2Proof/Machine/Access.lean ====
section
/-! DEFINITION. The dictionary service: checks, reads, writes, staged values and commits (02_object_dictionary.md). -/

namespace Sys2Proof.Machine

/-! ## Status codes (R33) -/

def daOk : Nat := 0x00
def daNoObject : Nat := 0x01
def daNoSub : Nat := 0x02
def daAccess : Nat := 0x03
def daRange : Nat := 0x04
def daState : Nat := 0x05
def daLength : Nat := 0x06
def daBusy : Nat := 0x07
def daLost : Nat := 0x08
def daPrincipal : Nat := 0x09
def daStale : Nat := 0x0A
def stateConflict : Nat := 0x0B

/-- The status of the first check that fails; DA_OK when none does (R32). -/
def firstFail : List (Bool × Nat) → Nat
  | [] => daOk
  | (bad, st) :: t => if bad then st else firstFail t

/-! ## Rows and rights -/

/-- The object and instance of a key exist (R29, R75). -/
def objectExists (k : Nat) : Bool :=
  0x1000 ≤ keyIndex k && keyIndex k ≤ 0xAFFF &&
    match findObj (keyIndex k) with
    | none => false
    | some o => decide (keyInst k < o.instances)

/-- Selectors (R55): 0x5018.01 QUEUE and 0x8150.01 PAIR. -/
def isSelector (k : Nat) : Bool := (keyIndex k == 0x5018 || keyIndex k == 0x8150) && keySub k == 1

/-- Sub-indices a write of which needs CONTROL (R55): REQUEST, DEVICE_RESET and CLEAR of a page retirement list. -/
def needsControl (k : Nat) : Bool :=
  (isFunctionIndex (keyIndex k) && keySub k == 2) || (keyIndex k == 0x8058 && keySub k == 7)
    || (keyIndex k == 0x5048 && keySub k == 4)

/-- The principal's TENANT admits the instance (R56). -/
def State.tenantAdmits (s : State) (p k : Nat) : Bool :=
  keyIndex k < 0xA000 || s.rd R.princ_TENANT p == 0xFFFF || s.rd R.princ_TENANT p == keyInst k

/-- The SMBus subset (R74, R76, R573, R590, R610). -/
def inSmbSubset (index : Nat) : Bool :=
  index == 0x1000 || index == 0x2060 || (0x8000 ≤ index && index ≤ 0x80FF)

/-- While RESET_N is held the SMBus target serves the objects of R590 only. -/
def servedInReset (k : Nat) : Bool :=
  if keyIndex k = 0x1000 then (1 ≤ keySub k && keySub k ≤ 4) || keySub k == 7 else inSmbSubset (keyIndex k)

/-- The domain that serves an object (R11, R580, R590). -/
def servingDomain (index : Nat) : Nat := if inSmbSubset index then 0 else 4

/-- The block that serves a key is powered, and answers at this moment (R32 step 7, R590, R595). -/
def State.served (s : State) (who : Accessor) (k : Nat) : Bool :=
  let aon := servingDomain (keyIndex k) == 0 || (keyIndex k == 0x5000 && keySub k ≤ 3)
  (aon || s.coreOn)
    && (!(s.pwr.inReset || s.rd R.prst_HALT_CAUSE 0 == 1) || who.route != 2 || servedInReset k)

/-- A Pewter is active and ready: firmware-served entries answer (R32 step 7, R570). -/
def State.firmware (s : State) : Bool := s.rd R.svc_SERVICE_STATE 0 == 1

/-! ## Values -/

/-- The value of a write without its reserved bits, which are ignored (R3). -/
def maskBits (k : Nat) (r : Row) (v : Nat) : Nat :=
  match r.rng with
  | .mask m => Nat.land v m
  | .special =>
    if R.qprobe_QUEUE.has k then setBits v 29 20 0
    else if R.shapA_TARGET.has k || R.shapB_TARGET.has k then setBits v 27 20 0
    else if keyIndex k = 0x6020 then setBits v 14 10 0
    else if R.lane_TX_OVERRIDE.has k then setBits v 62 35 0
    else if R.telem_TRACE_OUTPUT.has k || R.telem_FT_OUTPUT.has k || R.mirr_OUTPUT.has k || R.ttel_OUTPUT.has k then setBits v 11 8 0
    else v
  | _ =>
    if R.grp_TCAM_MAP.has k then domOf ((domOctets v).map (Nat.land 0xCF)) else if r.ty = .time then v / 65536 * 65536 else v

/-- The value of a sub-index as a write would hold it: the ageing sub-indices of tables without ageing read zero (R235). -/
def maskValue (k : Nat) (r : Row) (v : Nat) : Nat :=
  if keyIndex k = 0x4004 ∧ 3 ≤ keySub k ∧ keySub k ≤ 6 ∧ keyInst k ≠ 2 ∧ keyInst k ≠ 9 then 0 else maskBits k r v

/-- A value lies in a row's range or enumeration (R32 step 10, R6). -/
def inRange (k : Nat) (r : Row) (v : Nat) (s : State) : Bool :=
  (r.ty == .domain || decide (v < 2 ^ (8 * r.len))) &&
  match r.rng with
  | .any => true
  | .range lo hi also => (decide (lo ≤ v) && decide (v ≤ hi)) || also.contains v
  | .srange lo hi => decide (lo ≤ sext 32 v) && decide (sext 32 v ≤ hi)
  | .mask _ => true
  | .step lo hi d => decide (lo ≤ v) && decide (v ≤ hi) && v % d == 0
  | .pow2 lo hi => decide (lo ≤ v) && decide (v ≤ hi) && 2 ^ Nat.log2 v == v
  | .time => decide (bits v 63 32 ≤ 999999999)
  | .special => specialRange s k v

/-- Length check (R30). -/
def lengthBad (r : Row) (len : Nat) : Bool := if r.ty = .domain then decide (r.len < len) else len != r.len

/-! ## The expected answer to a remote request (R69) -/

/-- A length rounded up to a multiple of n. -/
def padTo (n len : Nat) : Nat := (len + n - 1) / n * n

/-- Octets of value that a READ or DESCRIBE of a key may answer, by this device's own dictionary: none where it has no such sub-index. -/
def expectedLen (op k : Nat) : Nat :=
  if !objectExists k then 0 else match rowOf k with
    | none => 0
    | some r => if op = 1 then r.len else 8 + r.len

/-- Octets of the expected response to a request for some keys. -/
def expectedAnswer (op : Nat) (ks : List Nat) : Nat :=
  12 + ks.foldl (fun a k => a + 8 + (if op = 2 then 0 else padTo 4 (expectedLen op k))) 0

/-- The keys that the entries of a remote request name; none where they run beyond its payload. -/
def netKeys (write : Bool) : Nat → Octets → Option (List Nat)
  | 0, _ => some []
  | n + 1, bs =>
    let body := if write then padTo 4 (bs.getD 6 0) else 0
    if bs.length < 8 + body then none
    else (netKeys write n (bs.drop (8 + body))).map (keyOf (fieldAt bs 0 2) (fieldAt bs 2 2) (bs.getD 4 0) :: ·)

/-- A PROXY_REQUEST whose expected response would not fit a cell (R69). A payload that its responder refuses as malformed expects none. -/
def proxyTooLong (p : Octets) : Bool :=
  let op := p.headD 0
  let count := p.getD 10 0
  1 ≤ op && op ≤ 3 && 1 ≤ count && count ≤ 24 && match netKeys (op == 2) count (p.drop 12) with
    | none => false
    | some ks => decide (256 < expectedAnswer op ks)

/-! ## Write checks (R32) -/

/-- The status of a write of a value of a length to a key by an accessor, against a state: steps 2 to 10. -/
def State.checkTo10 (s : State) (who : Accessor) (k len v : Nat) : Nat :=
  match rowOf k with
  | none =>
    firstFail [(!s.on R.princ_ENABLE who.principal, daPrincipal), (!objectExists k, daNoObject), (true, daNoSub)]
  | some r =>
    firstFail [
      (!s.on R.princ_ENABLE who.principal, daPrincipal),
      (!objectExists k, daNoObject),
      (!(if isSelector k then s.hasRight who.principal (keyIndex k) 0
         else if needsControl k then s.hasRight who.principal (keyIndex k) 2
         else s.hasRight who.principal (keyIndex k) 1)
        || !s.tenantAdmits who.principal k || badPrincipal s who.principal k v, daPrincipal),
      (r.acc == .ro || (who.route == 2 && !inSmbSubset (keyIndex k)) || badAccess s k, daAccess),
      (!s.served who k || (firmwareServed k v && !s.firmware) || badBusy s k, daBusy),
      ((r.acc == .stp && !stpWritable s k v) || (r.acc == .cmt && armedCovers s k) || badState s k v, daState),
      (lengthBad r len || (k / 0x100 / 0x10000 == 0x8060 && len != 252) || (R.link_PROXY_REQUEST.has k && proxyTooLong (domOctets v)), daLength),
      (!inRange k r v s || badRange s k v, daRange)]

/-- The status of a write with its combination check, step 11, against a state that holds every entry of the request (R35). -/
def State.checkWrite (s next : State) (who : Accessor) (k len v : Nat) : Nat :=
  let st := s.checkTo10 who k len v
  if st ≠ daOk then st else if conflicts s next k (match rowOf k with
    | some r => maskBits k r v
    | none => v) then stateConflict else daOk

/-! ## Applying a write -/

/-- Values of RW, STP and W1C sub-indices written by the entries of a request, over a state, without their effects (R35). -/
def State.overlay (s : State) (k v : Nat) : State :=
  match rowOf k with
  | none => s
  | some r =>
    match r.acc with
    | .rw =>
      let w : SlotWrite := ⟨0, k, maskValue k r v, []⟩
      ({ s with acc := { s.acc with slotWrites := s.acc.slotWrites ++ [w] } } : State).setVal k (maskValue k r v)
    | .stp => { s with acc := { s.acc with stp := mins s.acc.stp k (maskValue k r v) } }
    | _ => s

/-- A write that passed its checks is applied (R7, R19, R36): RW, WO and W1C writes wait for the slot boundary, CMT writes are staged, STP
writes wait for STARTING; a trigger whose rule says so acts now. `aux` is what the trigger takes with it beside its parameters. -/
def State.applyWrite (s : State) (who : Accessor) (k v : Nat) (aux : List Nat) : State :=
  match rowOf k with
  | none => s
  | some r =>
    let v := maskValue k r v
    match r.acc with
    | .ro => s
    | .cmt => { s with acc := { s.acc with staged := if v = s.val k then mdel s.acc.staged k else mins s.acc.staged k v } }
    | .stp => s.applyStp who.principal k v
    | .otp => s.applyOtp k v
    | _ => if actsNow k then s.actNow who.principal k v else s.holdWrite ⟨who.principal, k, v, triggerParams s k ++ aux⟩

/-! ## Bookkeeping of the service (R77) -/

/-- A request of any route is complete: counted, its failure recorded. -/
def State.noteAccess (s : State) (k st : Nat) : State :=
  let s1 := if st = daOk then s
    else (s.wr R.svc_LAST_ERROR_REF 0 k).wr R.svc_LAST_ERROR_STATUS 0 st
  { s1 with acc := { s1.acc with lastStatus := st } }

/-- What a failing trigger records of its own failure when its entry is the only failing one (R34, R41, R43, R440); `view` is the state it
was judged in. -/
def State.noteTrigger (s view : State) (k v st : Nat) : State :=
  if R.commit_TRIGGER.has k ∧ v = 2 ∧ st = daRange then s.wr R.commit_STATUS 0 3
  else if R.commit_TRIGGER.has k ∧ (v = 1 ∨ v = 2) ∧ st = stateConflict then
    (s.wr R.commit_STATUS 0 4).wr R.commit_CONFLICT_REF 0
      ((commitConflict view (view.latest R.commit_SCOPE 0) (v == 1)).getD 0)
  else if R.tchg_ARM.has k ∧ v = 1 ∧ st = daRange ∧ !armRange view ∧ armLate view then s.wr R.tchg_STATUS 0 3
  else s

/-- One write by an accessor, as a request of one entry: its status is recorded, and it is applied when it is DA_OK. -/
def State.singleWriteWith (s : State) (who : Accessor) (k len v : Nat) (aux : List Nat) : State :=
  let st := s.checkWrite (s.overlay k v) who k len v
  let s1 := if st = daOk then s.applyWrite who k v aux else s.noteTrigger s k v st
  (s1.noteAccess k st).bump R.svc_REQUESTS 0

/-- A single write that takes nothing beside its parameters. -/
def State.singleWrite (s : State) (who : Accessor) (k len v : Nat) : State := s.singleWriteWith who k len v []

/-- A trigger written with a value of its type's length. -/
def State.trigger (s : State) (who : Accessor) (r : Reg) (n v : Nat) : State :=
  s.singleWrite who (key r n) (typeLen (key r n)) v

/-! ## Several entries (R34, R35) -/

/-- One write entry: key, length, value. -/
structure WEntry where
  k : Nat
  len : Nat
  v : Nat
deriving DecidableEq, Repr

/-- The entries of a request checked in order, each against the state that the entries before it leave: the statuses and the
state after all that passed. -/
def checkEntries (next : State) (who : Accessor) : State → List WEntry → List Nat × State
  | s, [] => ([], s)
  | s, e :: t =>
    let st := s.checkWrite next who e.k e.len e.v
    let s1 := if st = daOk then s.applyWrite who e.k e.v [] else s
    let (sts, s2) := checkEntries next who s1 t
    (st :: sts, s2)

/-- The first status that is not DA_OK. -/
def overall (sts : List Nat) : Nat := (sts.find? (· != daOk)).getD daOk

/-- A write request: all entries, or none (R34). The statuses and the state after. -/
def State.writeAll (s : State) (who : Accessor) (es : List WEntry) : List Nat × State :=
  let next := s.each es (fun t e => t.overlay e.k e.v)
  let (sts, s1) := checkEntries next who s es
  let bad := (es.zip sts).filter (fun x => x.2 != daOk)
  match bad.getLast? with
  | none => (sts, s1.bump R.svc_REQUESTS 0)
  | some (e, st) =>
    let view := (checkEntries next who s (es.takeWhile (· != e))).2
    let s2 := if bad.length = 1 then s.noteTrigger { next with acc := view.acc } e.k e.v st else s
    (sts, (s2.noteAccess e.k st).bump R.svc_REQUESTS 0)

/-! ## Reads (R37) -/

/-- The status of a read or DESCRIBE of a key (R32). -/
def State.checkRead (s : State) (who : Accessor) (k : Nat) (describe : Bool) : Nat :=
  firstFail [
    (!s.on R.princ_ENABLE who.principal, daPrincipal),
    (!objectExists k, daNoObject),
    ((rowOf k).isNone, daNoSub),
    (!s.hasRight who.principal (keyIndex k) 0 || !s.tenantAdmits who.principal k, daPrincipal),
    (who.route == 2 && !inSmbSubset (keyIndex k), daAccess),
    (!describe && (match rowOf k with
      | some r => r.acc == .wo
      | none => false), daAccess),
    (!s.served who k || (describe && firmwareServed k 1 && !s.firmware) || readBusy s k, daBusy)]

/-- The descriptor word of a sub-index (R31). The ACCESS shown of the fixed principals is RO, not their row's (DESIGN CHOICE, log entry 65). -/
def describeWord (k : Nat) (r : Row) (o : Obj) : Nat :=
  let ty := match r.ty with
    | .u8 => 1 | .u16 => 2 | .u32 => 3 | .u64 => 4 | .s32 => 5 | .s64 => 6 | .bool => 7 | .enum8 => 8 | .bits32 => 9
    | .bits64 => 10 | .time => 11 | .stamp48 => 12 | .domain => 13
  let acc := match r.acc with
    | .ro => 0 | .rw => 1 | .wo => 2 | .w1c => 3 | .cmt => 4 | .stp => 5 | .otp => 6
  let acc := if keyIndex k = 0x1020 ∧ keyInst k ≤ 2 then 0 else acc
  let fast := (fastBlock k).isSome && (r.ty != .domain || decide (r.len ≤ 16))
  ty * 2 ^ 56 + acc * 2 ^ 52 + b2n (firmwareServed k 1 || (isRequest k && Config.requestFw)) * 2 ^ 51 + b2n fast * 2 ^ 50
    + b2n (inSmbSubset (keyIndex k)) * 2 ^ 49 + b2n r.preserved * 2 ^ 48 + o.instances % 65536 * 2 ^ 32
    + (if fast then (fastBlock k).getD 0 else 0) * 2 ^ 16 + r.len

/-- The default that DESCRIBE returns (R31). -/
def State.describedDefault (s : State) (k : Nat) (r : Row) : Nat :=
  match r.dflt with
  | .kept => mget 0 s.acc.kept k
  | .dash => 0
  | _ => if r.preserved then mget (dictDefault k) s.acc.kept k else dictDefault k

end Sys2Proof.Machine
end

