-- ==== Sys2Proof/Machine/Dumps.lean ====
section
/-! DEFINITION. The central reader: pair reads and counter dumps (16_telemetry.md R506 to R509, R517, R518). -/

namespace Sys2Proof.Machine

/-! ## Pair reads (R518) -/

/-- Pair reads whose PAIR was written in the ending slot take their values (R518). -/
def State.takePairs (s : State) : State :=
  let ns := s.tel.pairs.eraseDups
  ({ s with tel := { s.tel with pairs := [] } }).each ns (fun t n =>
    let i := t.rd R.pair_PAIR n
    let (v, t1) := t.readPair i
    -- what was posted to it since a pass began waits in the divert store
    let (dp, db) := t.diverted i
    ((t1.wr R.pair_PACKETS n ((v.packets + dp) % 2 ^ 64)).wr R.pair_BYTES n ((v.bytes + db) % 2 ^ 64)).wr R.pair_PARTIAL n (b2n v.part))

/-! ## Values of a dump (R508) -/

/-- The values of the pairs of a COUNTER set, in order, and whether one is PARTIAL: those the pass has read out of order as they were read
then, the others now (R507). -/
def State.dumpPairs (s : State) (first count : Nat) : (List Nat × Bool) × State :=
  (List.range count).foldl (fun (x : (List Nat × Bool) × State) j =>
    let i := (first + j) % 16777216
    let t := if (mfind x.2.tel.passRead i).isSome then x.2 else x.2.readOut i
    let v := (mfind t.tel.passRead i).getD ⟨0, 0, false⟩
    ((x.1.1 ++ [v.packets, v.bytes], x.1.2 || v.part), t)) (([], false), s)

/-- A COUNTER dump has ended: pairs that no other dump of the pass waits for leave the bitmap, and what was diverted from them is posted. -/
def State.passEnds (s : State) : State :=
  let loose := s.tel.divert.filter (fun e => !s.unread e.2.pair)
  let s1 := { s with tel := { s.tel with divert := s.tel.divert.filter (fun e => s.unread e.2.pair) } }
  let s2 := s1.each loose (fun t e => t.accumulate e.2.pair e.2.packets e.2.bytes)
  { s2 with tel := { s2.tel with passRead := s2.tel.passRead.filter (fun e => s2.passHas e.1) } }

/-- One value of an OBJECTS set: unsigned values zero-extended, signed ones sign-extended, other types 0; a free value where the object
has no such instance or sub-index, or no read is permitted, which the manual leaves open. -/
def State.dumpValue (s : State) (k : Nat) : Nat × State :=
  match rowOf k with
  | none => s.free 64
  | some r =>
    if !objectExists k then s.free 64
    else match r.ty with
    | .u8 | .u16 | .u32 | .u64 => if r.acc = .wo then s.free 64 else (s.readVal k false % 2 ^ 64, s)
    | .s32 | .s64 => if r.acc = .wo then s.free 64 else (toWord 64 (sext (8 * r.len) (s.readVal k false)), s)
    | _ => (0, s)

/-- The keys of an OBJECTS set, in order. -/
def dumpKeys (ps : List Nat) : List Nat :=
  let p (x : Reg) : Nat := ps.getD (x.sub - 1) 0
  let first := p R.dump_SUB_FIRST
  (List.range (p R.dump_INSTANCES)).flatMap (fun i =>
    (List.range (p R.dump_SUB_LAST + 1 - first)).map (fun j =>
      keyOf (p R.dump_INDEX) (p R.dump_FIRST_INSTANCE + i) (first + j)))

/-- The values of an OBJECTS set, and whether one came from AON shadow storage (R510). -/
def State.dumpObjects (s : State) (ps : List Nat) : (List Nat × Bool) × State :=
  (dumpKeys ps).foldl (fun (x : (List Nat × Bool) × State) k =>
    let (v, t) := x.2.dumpValue k
    ((x.1.1 ++ [v], x.1.2 || (shadowedCounter k && !t.domOn (keyDomain k))), t)) (([], false), s)

/-! ## Dumps that fall due -/

/-- The settings of a set, sub-indices 0x01 to 0x0E: as its TRIGGER took them (R643), else as they stand in effect. -/
def State.dumpParams (s : State) (d : Nat) : List Nat :=
  (mfind s.tel.triggered d).getD ((List.range 14).map (fun i => s.rd (R.dump_ENABLE.at i) d))

/-- A set is due at the boundary of a slot (R508): its TRIGGER takes effect, or the slot begins an epoch of its PERIOD and PHASE. -/
def State.dumpIsDue (s : State) (d : Nat) : Bool :=
  (mfind s.tel.triggered d).any (fun ps => ps.headD 0 == 1)
    || (s.on R.dump_ENABLE d && s.clk.epochDue && s.clk.slot / 16384 % s.rd R.dump_PERIOD d == s.rd R.dump_PHASE d)

/-- A COUNTER pass of another boundary is running (R507, R509): dumps of one boundary share a pass. -/
def State.passBusy (s : State) (j : DumpJob) : Bool :=
  j.counter && s.tel.dumps.any (fun e => e.2.counter && e.2.header.getD 1 0 != j.header.getD 1 0)

/-- A set falls due: the header and the values of S, the boundary of the slot that begins, are captured under the next dump number; `last` is
the number of the slot before S. The pairs of a COUNTER set are read by the pass, which keeps them as they stood at S (R507). -/
def State.captureDump (s : State) (last : Nat) (d : Nat) : State :=
  let n := mget 0 s.tel.dumpNo d
  let ps := s.dumpParams d
  let p (x : Reg) : Nat := ps.getD (x.sub - 1) 0
  let counter := p R.dump_KIND == 0
  let ((vs, flag), s1) := if counter then (([], false), s) else s.dumpObjects ps
  let count := if counter then p R.dump_COUNT else 0
  let w0 := d * 2 ^ 60 + s.myId * 2 ^ 48 + s.rd R.gen_CURRENT 0 * 2 ^ 32 + b2n flag * 2 ^ 31
  let values := if counter then 2 * count else vs.length
  let job : DumpJob := ⟨n, if n % 2 = 0 then p R.dump_BUF0 else p R.dump_BUF1, counter,
    [w0, last, values * 2 ^ 32 + n % 2 ^ 32, stamp48 (s.timeAt s.clk.slotCount) * 2 ^ 16], vs, p R.dump_FIRST, count, false⟩
  let job := { job with late := s.passBusy job }
  { s1 with tel := { s1.tel with dumpNo := mput 0 s1.tel.dumpNo d (n + 1), due := mins s1.tel.due d job } }

/-- The sets due at the boundary of the slot that begins. -/
def State.captureDumps (s : State) (last : Nat) : State :=
  let ds := (List.range 16).filter s.dumpIsDue
  let s1 := s.each ds (fun t d => t.captureDump last d)
  { s1 with tel := { s1.tel with triggered := [] } }

/-- Words written to host memory of PF0, while it may issue DMA (R546). -/
def State.toHost (s : State) (addr : Nat) (ws : List Nat) : State := if s.masters 0 then s.emit (.hostWrite 0 addr ws) else s

/-- DUMP_DUE (R508, R509): the dump that fell due for a set at this boundary begins, the values of objects going out; while the set's previous
dump is being written, or another pass was running as it fell due, it is skipped. -/
def State.beginDump (s : State) (d : Nat) : State :=
  match mfind s.tel.due d with
  | none => s
  | some j =>
    let s1 := { s with tel := { s.tel with due := mdel s.tel.due d } }
    if (mfind s.tel.dumps d).isSome || j.late || s.passBusy j then (s1.bump32 R.dump_DUMP_SKIPPED d).passEnds
    else
      let s2 := { s1 with tel := { s1.tel with dumps := mins s1.tel.dumps d j } }
      if j.counter then s2 else s2.toHost (j.buf + 32) j.values

/-- DUMP_DUE (R508, R509). -/
def execDumpDue (d : Nat) (s : State) : Host.Outcome State Fault Refusal := outcome (d < 16) s (s.beginDump d)

/-- The pass reads the pairs of a COUNTER set that it has not read yet, and their values go out; PARTIAL joins the header (R507, R508). -/
def State.finishDump (s : State) (j : DumpJob) : List Nat × State :=
  if j.counter then
    let ((vs, part), t) := s.dumpPairs j.first j.count
    (j.header.set 0 (setBit (j.header.getD 0 0) 30 part), t.toHost (j.buf + 32) vs)
  else (j.header, s)

/-- DUMP_DONE (R509): every value is written; the header follows, and the event. -/
def execDumpDone (d : Nat) (s : State) : Host.Outcome State Fault Refusal :=
  outcome (d < 16) s <| match mfind s.tel.dumps d with
    | none => s
    | some j =>
      let (header, t) := s.finishDump j
      (({ t with tel := { t.tel with dumps := mdel t.tel.dumps d } }).passEnds.toHost j.buf header).event 0 0x001C
        [d * 2 ^ 60 + j.header.getD 1 0 % 2 ^ 48]

/-- AGEING_SCAN (R229): the scanner's step on a table at an epoch boundary, once. -/
def State.scanStep (s : State) (t : Nat) : State :=
  if s.clk.scans.contains t then ({ s with clk := { s.clk with scans := s.clk.scans.filter (· != t) } }).ageScan t else s

/-- AGEING_SCAN (R229). -/
def execAgeingScan (t : Nat) (s : State) : Host.Outcome State Fault Refusal := outcome (t == 2 || t == 9) s (s.scanStep t)

end Sys2Proof.Machine
end

