-- ==== Sys2Proof/Machine/Boundary.lean ====
section
/-! DEFINITION. Slot and epoch boundaries (01_architecture.md R18 to R21): what the device does at each, and the tclk edges between. -/

namespace Sys2Proof.Machine

/-! ## The clock (R18, R436, R441) -/

/-- The tclk count at which the next slot begins: the first at which Invar time reaches it. -/
def State.nextCount (s : State) : Nat := max (s.clk.count + 1) (s.countAt s.clk.count (64 * (s.clk.slot + 1) * 65536))

/-- One tclk edge within the slot in progress. The edge that ends the slot is the slot boundary's. Timers run on while time stands. -/
def State.tick (s : State) : State :=
  if s.clk.running then
    if s.clk.count + 1 < s.nextCount then { s with clk := { s.clk with ticks := s.clk.ticks + 1, count := (s.clk.count + 1) % 2 ^ 64 } }
    else s
  else { s with clk := { s.clk with ticks := s.clk.ticks + 1 } }

/-- Time moves to the next slot boundary; an armed change whose apply point has come is applied there (R439, R441). A step that crosses
one or more epoch boundaries makes the slot an epoch's first, once. -/
def State.advanceClock (s : State) : State :=
  let c := s.nextCount
  let due := s.clk.change.filter (fun ch => ch.due s (c % 2 ^ 64))
  let t := match due with
    | some ch => stepTime (s.timeAt (c % 2 ^ 64)) ch.step
    | none => s.timeAt (c % 2 ^ 64)
  let slot := t / 65536 / 64
  let epochal := slot % 16384 == 0 || decide (s.clk.slot / 16384 < slot / 16384)
  let s1 := { s with clk := { s.clk with
    ticks := s.clk.ticks + (c - s.clk.count), count := c % 2 ^ 64, slot := slot, slotCount := c % 2 ^ 64, epochAt := epochal, epochDue := epochal } }
  match due with
  | some ch => s1.applyChange (c % 2 ^ 64) ch
  | none => s1

/-! ## Step 1: the snapshot (R506) -/

/-- Every block counter is latched. -/
def State.snapshot (s : State) : State :=
  { s with acc := { s.acc with shadow := mput 0 (s.dict.filter (fun e => isCounter e.1)) (key R.gasp_SAVES 0) s.pwr.mram.saves } }

/-! ## Step 2: writes and commits (R19, R36, R42) -/

/-- An RW write that a later one of the same sub-index follows in its slot never takes effect (R36). -/
def lastWrites : List SlotWrite → List SlotWrite
  | [] => []
  | w :: t =>
    let rw := match rowOf w.key with
      | some r => r.acc == .rw
      | none => false
    if rw && t.any (fun x => x.key == w.key) then lastWrites t else w :: lastWrites t

/-- The writes of the ending slot take effect, in the order in which they were applied. -/
def State.takeWrites (s : State) : State :=
  ({ s with acc := { s.acc with slotWrites := [] } }).each (lastWrites s.acc.slotWrites) State.takeEffect

/-- The staged values in scope take effect, and the generation advances with them where NEXT was staged so (R475, R476). -/
def State.commitValues (s : State) (scope : Nat) : State :=
  let mine := s.acc.staged.filter (fun e => inScope scope e.1)
  let s1 := s.each mine (fun t e => t.setVal e.1 e.2)
  let s2 := { s1 with acc := { s1.acc with staged := s1.acc.staged.filter (fun e => !inScope scope e.1) } }
  let s3 := s2.countRepairs s
  if s.advances scope then s3.advance else s3

/-- The armed commit at a boundary (R42, R46): checked again, it takes effect or fails. -/
def State.takeCommit (s : State) : State :=
  match s.acc.armed with
  | none => s
  | some a =>
    let due := match a.at? with
      | none => true
      | some t => decide (t ≤ s.now)
    if !due then s
    else
      let s1 := { s with acc := { s.acc with armed := none } }
      match commitConflict s1 a.scope a.at?.isNone with
      | some k => (((s1.wr R.commit_STATUS 0 4).wr R.commit_CONFLICT_REF 0 k)).event 0 0x001D [k]
      | none => (((s1.commitValues a.scope).wr R.commit_STATUS 0 2).wr R.commit_APPLIED_SLOT 0 s.slotNo).bump32 R.commit_COMMIT_COUNT 0

/-! ## After the steps of R19 -/

/-- The queue manager's samples (R249) and what begins with the slot: FAR_FULL_SLOTS, STALL_SLOTS (R256), XOFF (R261). -/
def State.sampleStore (s : State) : State :=
  let s0 := { s with sto := { s.sto with freed := 0, freedMin := [], fillFreed := 0, pagesFreed := [] } }
  let s1 := (s0.wr R.store_SHARED_FREE 0 s0.sharedFreeNow).wr R.store_FAR_FREE 0 s0.farFreeNow
  let s2 := if s1.farFreeNow = 0 then s1.bump R.store_FAR_FULL_SLOTS 0 else s1
  let s3 := s2.add R.store_STALL_SLOTS 0 (s2.sto.queues.filter (fun e => e.2.stalled)).length
  let pairs := s3.activePairs
  (s3.each pairs State.evalXoff).each ((pairs.map (fun pt => pt / 8)) ++ (s3.trf.signalled.map Prod.fst)).eraseDups State.notePause

/-- Pauses that the slot begins with (R316, R317). -/
def State.samplePauses (s : State) : State :=
  s.each ((s.trf.paused.map (fun e => e.1 / 16)).eraseDups) (fun t p =>
    let t1 := t.countPaused p
    let v := t1.rd R.psch_PAUSED p
    let t2 := t1.each (onesBelow v 8) (fun u c => u.bump R.tcsch_PAUSED_SLOTS (8 * p + c))
    if v = 0 then t2 else t2.bump R.psch_PAUSED_SLOTS p)

/-- A probe takes the figures of its queue (R273). -/
def State.probe (s : State) (n : Nat) : State :=
  let q := s.rd R.qprobe_QUEUE n
  let x := s.queue q
  let st :=
    if qKind q = 0 ∧ s.rd R.reach_DEST_STATE (s.voqDest (qIndex q)) = 1 then 4
    else if x.stalled then 3 else if !x.pages.isEmpty then 2 else if s.nearCount q = 0 then 0 else 1
  ((((((((s.wr R.qprobe_STATE n st).wr R.qprobe_NEAR_CELLS n (s.nearCount q)).wr R.qprobe_SHARED_CELLS n (s.sharedCount q)).wr
    R.qprobe_PAGES n (s.pageCount q)).wr R.qprobe_NEAR_LIMIT n (s.nearLimit q)).wr R.qprobe_FAR_LIMIT n (s.farLimit q)).wr
    R.qprobe_DROPS n x.drops).wr R.qprobe_MARKS n x.marks)

/-- Probes whose QUEUE was written in the ending slot. -/
def State.takeProbes (s : State) : State :=
  ({ s with sto := { s.sto with probes := [] } }).each s.sto.probes.eraseDups State.probe

/-- Token buckets that are filled as they are used are brought up to date before a setting of theirs changes (R226, R504). -/
def State.fillBuckets (s : State) : State :=
  s.learnFill.each (s.tel.sessions.map (·.1)) (fun t n => t.setMirror n (t.mirrorFill n))

/-- Tenants in STOPPING reach STOPPED (05_tables_and_lookups.md, before R200), once the tables they hold are at rest (R53). -/
def State.tenantsStopped (s : State) : State :=
  s.each (s.fnsIn .tenant stStopping) (fun t n => if t.drained .tenant n then t.endStop .tenant n else t)

/-- What begins with a slot before the fabric scheduler: samples and XOFF (R258), Babbitt's samples (R284), commands that begin (R217),
the sweepers' steps (R295, R497) and the links' alignment. -/
def State.slotReady (s : State) : State :=
  let s1 := s.fillLinks.sampleStore.sampleBabbitt.samplePauses.sampleShapers
  let s2 := s1.each (s1.tab.chans.map (·.1)) State.startCmd
  let s3 := s2.sweepMeters.sweepFlows
  let s4 := s3.each (s3.fnsIn .link stRunning) State.linkAligns
  let s5 := (s4.wr R.sync_ACTIVE_LINK 0 s4.activeSync).retime
  if s5.rd R.sync_ALIGN_STATE 0 = 2 then s5.bump R.sync_OUT_OF_STEP_SLOTS 0 else s5

/-- What follows the fabric scheduler: the drain status (R479), probes, pair reads and dumps of the boundary. -/
def State.slotDone (s : State) (last : Nat) : State := (s.drainStatus.takeProbes.takePairs).captureDumps last

/-- Everything that follows R19's steps at a boundary, the fabric scheduler (R412) in its place. -/
def State.slotBegins (s : State) (last : Nat) : State := s.slotReady.schedule.slotDone last

/-! ## Epoch actions (R21) -/

/-- Readings of the lanes and links in the ending epoch: RX_PPM (R362), RATE_PPB (R389), and of the lanes that keep adapting RX_EQ and the
slots in which they held at a bound (R335). -/
structure EpochReadings where
  refs : List RefReading
  rxPpm : List (Nat × Int)
  rates : List (Nat × Int)
  adapts : List (Nat × Nat)
  hits : List (Nat × Nat)
deriving DecidableEq, Repr

/-- The readings of an epoch, one of each port, link or lane: the first that is given. -/
def onceEach {α : Type} : List (Nat × α) → List (Nat × α)
  | [] => []
  | e :: t => e :: (onceEach t).filter (fun x => x.1 != e.1)

/-- Countdowns of pending reactions drop by one (R564). -/
def State.countReactions (s : State) : State :=
  s.each ((List.range 128).filter (fun x => s.rd R.src_REACT_STATE x == 1)) (fun t x =>
    { t with coll := { t.coll with countdown := mput 0 t.coll.countdown x (mget 0 t.coll.countdown x - 1) } })

/-- RATE_PPB of an IR link as the monitor measured it (R389). -/
def State.ratePpb (s : State) (l : Nat) (ppb : Int) : State :=
  if l < 768 && s.rd R.link_CLASS l == 1 && s.linkReceives l then s.wrI R.lcnt_RATE_PPB l (clampInt (-2147483648) 2147483647 ppb) else s

/-- The actions of an epoch boundary begin: the monitors' readings, and what each rule compares once an epoch. Scans, dumps, expired
reactions and reference switches then fall due. -/
def State.epochBegins (s : State) (r : EpochReadings) : State :=
  let s0 := { s with
    clk := { s.clk with epochDue := false, epoch := s.clk.slot / 16384, scans := [2, 9] }
    lan := { s.lan with margin := [], epochBin := [] } }
  let s1 := s0.countReactions
  let s2 := (s1.each (onceEach r.adapts) (fun t e => t.keepsAdapting e.1 e.2)).each (onceEach r.hits) (fun t e => t.holdsAtBound e.1 e.2)
  let s4 := (s2.each (onceEach r.rxPpm) (fun t e => t.rxPpm e.1 e.2)).each (onceEach r.rates) (fun t e => t.ratePpb e.1 e.2)
  let s5 := s4.degradePorts.each (s4.fnsIn .link stRunning) State.fillerEpoch
  let s6 := s5.each (List.range 8) State.d2dEpoch
  (s6.refEpoch r.refs).settleSwitch

/-- What fell due at a boundary and was not carried out in the slot by its own command is carried out as the slot ends. -/
def State.endSlot (s : State) : State :=
  let s0 := if s.clk.epochDue then s.epochBegins ⟨[], [], [], [], []⟩ else s
  let s1 := s0.each s0.clk.scans State.scanStep
  let s2 := s1.each (s1.tel.due.map (·.1)) State.beginDump
  if s2.clk.epochAt then
    let s3 := s2.each s2.reactionsDue State.reactionExpires
    let s4 := match s3.switchNext with
      | some k => s3.refSwitch k
      | none => s3
    s4.timeRefSwitch
  else s2

/-! ## Rows -/

/-- R19's steps before commits: the snapshot of the ending slot, the new slot's time, and the writes of the ending slot. -/
def State.writesTaken (s : State) : State := s.endSlot.snapshot.advanceClock.fillBuckets.tenantsStopped.takeWrites

/-- A slot boundary (R19): the snapshot of the ending slot, its writes and commits, then what begins with the new slot. -/
def State.slotBoundary (s : State) : State :=
  if !s.clk.running then s
  else if !s.endSlot.clk.running then s.endSlot.snapshot
  else s.writesTaken.takeCommit.slotBegins s.clk.slot

/-- SLOT_BOUNDARY (R19). -/
def execSlotBoundary (s : State) : Host.Outcome State Fault Refusal := completes s.slotBoundary

/-- EPOCH_BOUNDARY (R21): the epoch's actions follow the steps of the slot boundary that began it. -/
def execEpochBoundary (refs : List RefReading) (rxPpm rates : List (Nat × Int)) (adapts hits : List (Nat × Nat))
    (s : State) : Host.Outcome State Fault Refusal :=
  outcome (refs.length ≤ 4) s (if s.clk.running && s.clk.epochDue then s.epochBegins ⟨refs, rxPpm, rates, adapts, hits⟩ else s)

/-- The slot that the next boundary begins, as a state to judge what falls due there. -/
def State.atNext (s : State) : State := s.advanceClock

/-- A boundary is run for an event that happens at the next one. -/
def State.boundaryFor (s : State) (due : State → Bool) : State := if s.clk.running && due s.atNext then s.slotBoundary else s

/-- COMMIT_TAKE_EFFECT (R42): the armed commit reaches its boundary. -/
def execCommitTakeEffect (s : State) : Host.Outcome State Fault Refusal :=
  completes (s.boundaryFor (fun t => match t.acc.armed with
    | none => false
    | some a => match a.at? with
      | none => true
      | some w => decide (w ≤ t.now)))

/-- TIME_CHANGE_APPLY (R439): the armed change reaches its boundary. -/
def execTimeChangeApply (s : State) : Host.Outcome State Fault Refusal :=
  completes (if s.clk.change.isSome then s.boundaryFor (fun t => t.clk.change.isNone) else s)

/-- REQUEST (R414): a REQUEST message reaches its DUE slot. -/
def execRequest (s : State) : Host.Outcome State Fault Refusal := completes (s.boundaryFor (fun t => !(t.dueMsgs 1).isEmpty))

/-- GRANT (R417): a GRANT message reaches its DUE slot. -/
def execGrant (s : State) : Host.Outcome State Fault Refusal := completes (s.boundaryFor (fun t => !(t.dueMsgs 2).isEmpty))

/-- ACCEPT (R416): an ACCEPT message reaches its DUE slot. -/
def execAccept (s : State) : Host.Outcome State Fault Refusal := completes (s.boundaryFor (fun t => !(t.dueMsgs 3).isEmpty))

/-- STANDING (R419): a STANDING message reaches its DUE slot. -/
def execStanding (s : State) : Host.Outcome State Fault Refusal := completes (s.boundaryFor (fun t => !(t.dueMsgs 4).isEmpty))

/-- STANDING_PERIOD (R420): the boundary at which a period of the standing grant of a device's port and TC begins; its credit is S. -/
def execStandingPeriod (dest port tc : Nat) (s : State) : Host.Outcome State Fault Refusal :=
  outcome (dest < 4096 && port < 1024 && tc < 8) s
    (s.boundaryFor (fun t => t.fab.standSrc.any (fun x => x.is dest port tc && t.periodDue x)))

/-- GRANT_UNANSWERED (R416): the answer to a grant is overdue at the next boundary. -/
def execGrantUnanswered (s : State) : Host.Outcome State Fault Refusal := completes (s.boundaryFor (fun t => !t.unanswered.isEmpty))

/-- WINDOW_END (R417): the window of a grant ends at the next boundary. -/
def execWindowEnd (s : State) : Host.Outcome State Fault Refusal :=
  completes (s.boundaryFor (fun t => t.fab.held.any (fun h => decide (h.due + 3 ≤ t.slotNo))
    || (t.dueMsgs 2).any (fun m => decide (m.due + 3 < t.slotNo))))

/-- GRANT_WRITEOFF (R416): cells of an accepted grant are overdue at the next boundary. -/
def execGrantWriteoff (s : State) : Host.Outcome State Fault Refusal := completes (s.boundaryFor (fun t => !t.overdue.isEmpty))

end Sys2Proof.Machine
end

