-- ==== Sys2Proof/Machine/Service.lean ====
section
/-! DEFINITION. The routes to the dictionary (02_object_dictionary.md R60 to R74): mailbox, fast objects, remote operations and SMBus; and
the rows that are one write of one sub-index. -/

namespace Sys2Proof.Machine

/-! ## Values on the wire (R2, R62, R68) -/

/-- Octets followed by zeros up to a multiple of n. -/
def padded (n : Nat) (bs : Octets) : Octets := bs ++ List.replicate (padTo n bs.length - bs.length) 0

/-- The value that octets in host order hold for a key. -/
def hostValue (k : Nat) (bs : Octets) : Nat := match rowOf k with
  | some r => if r.ty = .domain then domOf bs else leNat bs
  | none => leNat bs

/-- Octets change between host order and network order: a scalar is reversed, an octet string is not. A sub-index that the dictionary does
not have is taken as a scalar up to 8 octets (DEDUCED, log entry 60). -/
def swapOctets (k : Nat) (bs : Octets) : Octets := match rowOf k with
  | some r => if r.ty = .domain then bs else bs.reverse
  | none => if bs.length ≤ 8 then bs.reverse else bs

/-- The octets of the answer to a READ of a key, in host order. -/
def State.readOctets (s : State) (k : Nat) (staged : Bool) : Octets := match rowOf k with
  | some r => valueOctets r (s.readVal k staged)
  | none => []

/-- The default that a DESCRIBE carries, in host order (R31). -/
def State.defaultOctets (s : State) (k : Nat) : Octets := match rowOf k with
  | some r => valueOctets r (s.describedDefault k r)
  | none => []

/-- The descriptor word of a key. -/
def describeKey (k : Nat) : Nat := match rowOf k, findObj (keyIndex k) with
  | some r, some o => describeWord k r o
  | _, _ => 0

/-! ## Serving entries -/

/-- One entry of a request: its key, the STAGED flag, LENGTH, and the octets of a write in host order. -/
structure Entry_ where
  k : Nat
  staged : Bool
  len : Nat
  bytes : Octets
deriving DecidableEq, Repr

/-- What an entry answers: its status and, for a READ, the octets of its value or, for a DESCRIBE, of the default. -/
structure Answer where
  status : Nat
  bytes : Octets
deriving DecidableEq, Repr

/-- A request of several entries is served (R34): operation 1 READ, 2 WRITE, 3 DESCRIBE. Every read of one request sees one instant. -/
def State.serve (s : State) (who : Accessor) (op : Nat) (es : List Entry_) : List Answer × State :=
  if op = 2 then
    let (sts, s1) := s.writeAll who (es.map (fun e => ⟨e.k, e.len, hostValue e.k e.bytes⟩))
    (sts.map (fun st => ⟨st, []⟩), s1)
  else
    let as := es.map (fun e =>
      let st := s.checkRead who e.k (op == 3)
      let ans : Answer := ⟨st, if st ≠ daOk then [] else if op = 1 then s.readOctets e.k e.staged else s.defaultOctets e.k⟩
      ans)
    let s1 := s.each ((es.zip as).filter (fun x => x.2.status != daOk)) (fun t x => t.noteAccess x.1.k x.2.status)
    (as, s1.bump R.svc_REQUESTS 0)

/-- The overall status of some answers. R34 gives it for a WRITE; that of a READ or a DESCRIBE is taken the same way, as the status of the first
entry that fails (DESIGN CHOICE, log entry 65). -/
def overallOf (as : List Answer) : Nat := overall (as.map Answer.status)

/-! ## Mailbox (R60 to R64) -/

/-- The mailbox of a function. -/
def State.mb (s : State) (pf : Nat) : Mailbox := if pf = 0 then s.acc.mb0 else s.acc.mb1
def State.setMb (s : State) (pf : Nat) (m : Mailbox) : State :=
  { s with acc := if pf = 0 then { s.acc with mb0 := m } else { s.acc with mb1 := m } }

/-- Words over the beginning of a buffer. -/
def overwrite (new old : List Nat) : List Nat := new ++ old.drop new.length

/-- The entries of a request in host memory from an octet string, with their entry words; none where they run beyond it. -/
def hostEntries (write : Bool) : Nat → Octets → Option (List (Nat × Entry_))
  | 0, _ => some []
  | n + 1, bs =>
    if bs.length < 8 then none
    else
      let w := leNat (bs.take 8)
      let len := bits w 15 0
      let body := if write then padTo 8 len else 0
      if bs.length < 8 + body then none
      else (hostEntries write n (bs.drop (8 + body))).map
        ((w, ⟨keyOf (bits w 63 48) (bits w 47 32) (bits w 31 24), bit w 16, len, (bs.drop 8).take (if write then len else 0)⟩) :: ·)

/-- One entry of a response (R63): the entry word with its status and length, and the octets that follow it. -/
def hostAnswer (op w : Nat) (e : Entry_) (a : Answer) : Octets :=
  let body : Octets :=
    if a.status ≠ daOk ∨ op = 2 then []
    else if op = 1 then padded 8 a.bytes else toLE 8 (describeKey e.k) ++ padded 8 a.bytes
  let len := if op = 2 then e.len else if a.status ≠ daOk then 0 else if op = 1 then a.bytes.length else 8 + a.bytes.length
  toLE 8 (setBits (setBits w 23 16 a.status) 15 0 len) ++ body

/-- The header of a response: word 0 with the overall status, and the responder's incarnation (R63). -/
def hostHeader (w0 status inc : Nat) : List Nat := [setBits w0 15 8 status, inc * 2 ^ 32]

/-- The response of a request refused or ended as a whole (R63). -/
def wholeAnswer (w0 status inc : Nat) : List Nat := hostHeader (setBits w0 55 48 0) status inc

/-- A response is complete (R61): BUSY clears, DONE sets, the tag shows, and MB_DONE is posted. -/
def State.mbDone (s : State) (pf tag : Nat) (resp : List Nat) : State :=
  let m := s.mb pf
  (s.setMb pf { m with busy := false, done := true, tag := tag, response := overwrite resp m.response }).event pf 0x0001 [tag]

/-- A request that is refused or lost as a whole completes. -/
def State.mbRefuse (s : State) (pf tag w0 status : Nat) : State := (s.bump R.svc_REQUESTS 0).mbDone pf tag (wholeAnswer w0 status 0)

/-- The entries of a request in network order (R68). -/
def netEntries (op : Nat) (es : List Entry_) : Octets :=
  es.flatMap (fun e => toBE 2 (keyIndex e.k) ++ toBE 2 (keyInst e.k)
    ++ [keySub e.k, b2n e.staged, if op = 2 then e.len else 0, 0] ++ (if op = 2 then padded 4 (swapOctets e.k e.bytes) else []))

/-- The header of a remote request or response (R68). -/
def netHeader (op status txn inc source count : Nat) : Octets :=
  [op % 256, status] ++ toBE 2 txn ++ toBE 4 inc ++ toBE 2 source ++ [count, 0]

/-- A request with REMOTE set (R64, R69, R402): sent, or refused with DA_BUSY or DA_LENGTH. -/
def State.mbSendRemote (s : State) (pf tag w0 w1 : Nat) (es : List Entry_) : State :=
  let op := mbOp w0
  let p := netHeader op 0 0 (bits w1 63 32) s.myId es.length ++ netEntries op es
  let answer := expectedAnswer op (es.map Entry_.k)
  let mine := s.remote.ops.filter (fun o => match o.owner with
    | .mailbox _ _ _ => true
    | .proxy _ => false)
  if 64 ≤ mine.length then s.mbRefuse pf tag w0 daBusy
  else if 256 < p.length ∨ 256 < answer then s.mbRefuse pf tag w0 daLength
  else s.startRemote (mbTarget w0) p (.mailbox pf tag w0)

/-- A doorbell (R61): ignored and REJECTED while BUSY; otherwise the request in MB_REQUEST is served, or sent to its target. The words
are what the host wrote to MB_REQUEST before. -/
def State.submit (s : State) (pf tag : Nat) (words : List Nat) : State :=
  if !s.barServed then s
  else if (s.mb pf).busy then s.setMb pf { s.mb pf with rejected := true }
  else
    let m := s.mb pf
    let buf := (overwrite words m.request).take 512
    let s1 := s.setMb pf { m with busy := true, done := false, rejected := false, request := buf, taken := buf }
    let w0 := buf.getD 0 0
    let w1 := buf.getD 1 0
    let op := mbOp w0
    let bytes := wordsLE (buf ++ List.replicate (512 - buf.length) 0)
    if op = 0 ∨ 3 < op ∨ mbCount w0 = 0 ∨ 32 < mbCount w0 then s1.mbRefuse pf tag w0 daRange
    else match hostEntries (op == 2) (mbCount w0) (bytes.drop 16) with
      | none => s1.mbRefuse pf tag w0 daLength
      | some es =>
        if mbRemote w0 then s1.mbSendRemote pf tag w0 w1 (es.map (·.2))
        else
          let (as, s2) := s1.serve ⟨pf, pf⟩ op (es.map (·.2))
          let body := ((es.zip as).map (fun x => hostAnswer op x.1.1 x.1.2 x.2)).flatten
          if 4080 < body.length then s1.mbRefuse pf tag w0 daLength
          else s2.mbDone pf tag (hostHeader w0 (overallOf as) (s2.rd R.ident_INCARNATION 0) ++ octetsWords body)

/-- READ (R62, R37): a doorbell with a READ, or with an OPCODE that is none of the three. -/
def execRead (pf tag : Nat) (words : List Nat) (s : State) : Host.Outcome State Fault Refusal :=
  outcome (mbOperandsOk pf tag words && mbOp (words.getD 0 0) != 2 && mbOp (words.getD 0 0) != 3) s (s.submit pf tag words)

/-- WRITE (R34, R62). -/
def execWrite (pf tag : Nat) (words : List Nat) (s : State) : Host.Outcome State Fault Refusal :=
  outcome (mbOperandsOk pf tag words && mbOp (words.getD 0 0) == 2) s (s.submit pf tag words)

/-- DESCRIBE (R31, R62). -/
def execDescribe (pf tag : Nat) (words : List Nat) (s : State) : Host.Outcome State Fault Refusal :=
  outcome (mbOperandsOk pf tag words && mbOp (words.getD 0 0) == 3) s (s.submit pf tag words)

/-! ## Remote operations at the responder (R68 to R70) -/

/-- The entries of a remote request, their values in host order; none where they run beyond the payload. -/
def readNetEntries (write : Bool) : Nat → Octets → Option (List Entry_)
  | 0, _ => some []
  | n + 1, bs =>
    if bs.length < 8 then none
    else
      let k := keyOf (fieldAt bs 0 2) (fieldAt bs 2 2) (bs.getD 4 0)
      let len := bs.getD 6 0
      let body := if write then padTo 4 len else 0
      if bs.length < 8 + body then none
      else (readNetEntries write n (bs.drop (8 + body))).map
        (⟨k, bit (bs.getD 5 0) 0, len, swapOctets k ((bs.drop 8).take (if write then len else 0))⟩ :: ·)

/-- The principal that names a device: an enabled fabric principal, else none (R57, R64). -/
def State.fabricPrincipal (s : State) (d : Nat) : Nat :=
  ((List.range 64).find? (fun p => s.on R.princ_ENABLE p && s.rd R.princ_ROUTE p == 3 && s.rd R.princ_DEVICE_ID p % 4096 == d)).getD 64

/-- One entry of a remote response. -/
def netAnswer (op : Nat) (e : Entry_) (a : Answer) : Octets :=
  let body : Octets :=
    if a.status ≠ daOk ∨ op = 2 then []
    else if op = 1 then swapOctets e.k a.bytes else toBE 8 (describeKey e.k) ++ swapOctets e.k a.bytes
  toBE 2 (keyIndex e.k) ++ toBE 2 (keyInst e.k) ++ [keySub e.k, b2n e.staged, body.length, a.status] ++ padded 4 body

/-- The OPCODE of a response (R68). That of the refusal of an OPCODE that is none of the three is one of the three, and the manual does not
say which: a free value. -/
def State.answerOp (s : State) (op : Nat) : Nat × State :=
  if 1 ≤ op ∧ op ≤ 3 then (0x80 + op, s) else let (f, s1) := s.free 8; (0x81 + f % 3, s1)

/-- A request at the head of the responder's queue is served and answered. -/
def State.serveRemote (s : State) (q : RemoteReq) : State :=
  let p := q.payload
  let op := p.headD 0
  let count := p.getD 10 0
  let inc := s.rd R.ident_INCARNATION 0
  let refuse (st : Nat) : State :=
    let (aop, s1) := s.answerOp op
    (s1.bump R.svc_REQUESTS 0).respond q.source (mgmtTxn p) (netHeader aop st (mgmtTxn p) inc s.myId 0) q.link
  if op = 0 ∨ 3 < op ∨ count = 0 ∨ 24 < count then refuse daRange
  else match readNetEntries (op == 2) count (p.drop 12) with
    | none => refuse daLength
    | some es =>
      let want := fieldAt p 4 4
      let fresh := want == inc || (want == 0xFFFFFFFF && op != 2)
      let (as, s1) : List Answer × State :=
        if fresh then s.serve ⟨s.fabricPrincipal q.source, 3⟩ op es
        else (es.map (fun _ => ⟨daStale, []⟩),
          (s.each es (fun t e => t.noteAccess e.k daStale)).bump R.svc_REQUESTS 0)
      let body := ((es.zip as).map (fun x => netAnswer op x.1 x.2)).flatten
      if 256 < 12 + body.length then refuse daLength
      else s1.respond q.source (mgmtTxn p) (netHeader (0x80 + op) (overallOf as) (mgmtTxn p) inc s.myId es.length ++ body) q.link

/-- The head of the responder's queue is served when it is of the row's kind. -/
def State.serveHead (s : State) (mine : Nat → Bool) : State :=
  match s.remote.queue with
  | [] => s
  | q :: rest =>
    if mine (q.payload.headD 0) && s.coreOn then ({ s with remote := { s.remote with queue := rest } }).serveRemote q else s

/-- REMOTE_READ (R68, R69): also a request whose OPCODE is none of the three. -/
def execRemoteRead (s : State) : Host.Outcome State Fault Refusal := completes (s.serveHead (fun op => op != 2 && op != 3))

/-- REMOTE_WRITE (R68, R70). -/
def execRemoteWrite (s : State) : Host.Outcome State Fault Refusal := completes (s.serveHead (· == 2))

/-- REMOTE_DESCRIBE (R68). -/
def execRemoteDescribe (s : State) : Host.Outcome State Fault Refusal := completes (s.serveHead (· == 3))

/-! ## Remote operations at the initiator (R64, R70, R71, R402) -/

/-- The answers of a remote response, value octets in host order, for the entries that were asked. -/
def readNetAnswers (op : Nat) : List Entry_ → Octets → List (Answer × Nat)
  | [], _ => []
  | e :: es, bs =>
    let len := bs.getD 6 0
    let body := (bs.drop 8).take len
    let ans : Answer × Nat :=
      if op = 3 then (⟨bs.getD 7 0, swapOctets e.k (body.drop 8)⟩, fieldAt body 0 8) else (⟨bs.getD 7 0, swapOctets e.k body⟩, 0)
    ans :: readNetAnswers op es (bs.drop (8 + padTo 4 len))

/-- One entry of a mailbox response that a remote response brought: as R63, with the target's descriptor word. -/
def relayAnswer (op w : Nat) (e : Entry_) (a : Answer × Nat) : Octets :=
  let ok := a.1.status == daOk
  let body : Octets := if !ok ∨ op = 2 then [] else if op = 1 then padded 8 a.1.bytes else toLE 8 a.2 ++ padded 8 a.1.bytes
  let len := if op = 2 then e.len else if !ok then 0 else if op = 1 then a.1.bytes.length else 8 + a.1.bytes.length
  toLE 8 (setBits (setBits w 23 16 a.1.status) 15 0 len) ++ body

/-- The mailbox response that a remote response brings (R63, R64). For a target that answers with COUNT 0 it is the header alone, with the
target's status and incarnation (DESIGN CHOICE, log entry 65: R63 and R64 leave the form open). -/
def State.remoteAnswer (s : State) (pf w0 : Nat) (p : Octets) : List Nat :=
  let buf := (s.mb pf).taken
  let op := mbOp w0
  if p.getD 10 0 = 0 then wholeAnswer w0 (p.getD 1 0) (fieldAt p 4 4)
  else match hostEntries (op == 2) (mbCount w0) (wordsLE (buf.drop 2 ++ List.replicate (512 - buf.length) 0)) with
    | none => wholeAnswer w0 daLength 0
    | some es =>
      let as := readNetAnswers op (es.map (·.2)) (p.drop 12)
      hostHeader w0 (p.getD 1 0) (fieldAt p 4 4) ++ octetsWords ((es.zip as).map (fun x => relayAnswer op x.1.1 x.1.2 x.2)).flatten

/-- An operation ends with its response, or lost (R71): its mailbox or its link's proxy completes. -/
def State.endRemote (s : State) (o : RemoteOp) (resp : Option Octets) : State :=
  let s1 := { s with remote := { s.remote with ops := s.remote.ops.filter (fun x => !(x.target == o.target && x.txn == o.txn)) } }
  match o.owner, resp with
  | .mailbox pf tag w0, some p => (s1.bump R.svc_REQUESTS 0).mbDone pf tag (s1.remoteAnswer pf w0 p)
  | .mailbox pf tag w0, none => (s1.bump32 R.svc_REMOTE_LOST 0).mbRefuse pf tag w0 daLost
  | .proxy l, some p => (s1.wr R.link_PROXY_RESPONSE l (domOf (p.take 128))).wr R.link_PROXY_STATUS l 2
  | .proxy l, none => (s1.bump32 R.svc_REMOTE_LOST 0).wr R.link_PROXY_STATUS l 3

/-- REMOTE_RESPONSE (R64): the oldest response that has arrived is taken; one that no operation waits for is discarded. -/
def execRemoteResponse (s : State) : Host.Outcome State Fault Refusal :=
  completes (match s.remote.arrived with
    | [] => s
    | (target, p) :: rest =>
      let s1 := { s with remote := { s.remote with arrived := rest } }
      match s1.remote.ops.find? (fun o => o.target == target && o.txn == mgmtTxn p) with
      | none => s1
      | some o => s1.endRemote o (some p))

/-- REMOTE_TIMEOUT (R71): the wait for a response ends: the request is sent again under its number, or the operation is lost. -/
def execRemoteTimeout (target txn : Nat) (s : State) : Host.Outcome State Fault Refusal :=
  outcome (txn < 65536) s <|
    match s.remote.ops.find? (fun o => o.target == target && o.txn == txn) with
    | none => s
    | some o =>
      if s.clk.ticks < o.deadline then s
      else if o.retriesLeft = 0 then s.endRemote o none
      else
        let o' := { o with retriesLeft := o.retriesLeft - 1, deadline := s.clk.ticks + o.wait }
        ({ s with remote := { s.remote with ops := s.remote.ops.map (fun x => if x = o then o' else x) } }).sendMgmt o.target o.payload
          (match o.owner with
            | .proxy l => some l
            | .mailbox _ _ _ => none)

/-! ## Fast objects and the other registers of BAR0 (R65 to R67, R524, R525) -/

/-- The TIME latch of a function (R66). -/
def State.latch (s : State) (pf : Nat) : Option (Nat × Nat) := if pf = 0 then s.acc.latch0 else s.acc.latch1
def State.setLatch (s : State) (pf : Nat) (l : Option (Nat × Nat)) : State :=
  { s with acc := if pf = 0 then { s.acc with latch0 := l } else { s.acc with latch1 := l } }

/-- A fast access of a status completes: counted, a failure counted in FAST_FAILED (R67, R77). -/
def State.fastDone (s : State) (k st : Nat) : State :=
  let s1 := (s.noteAccess k st).bump R.svc_REQUESTS 0
  if st = daOk then s1 else s1.bump32 R.svc_FAST_FAILED 0

/-- A read of a fast object's slot (R65 to R67): its word, and the latch. -/
def State.fastRead (s : State) (pf offset k : Nat) : State :=
  let st := s.checkRead ⟨pf, pf⟩ k false
  let s1 := s.fastDone k st
  let high := offset % 16 == 8
  if st ≠ daOk then s1.emit (.reply pf [0])
  else match rowOf k with
    | none => s1.emit (.reply pf [0])
    | some r =>
      let v := s.readVal k false
      if r.ty = .time then
        if high then (s1.setLatch pf (some (k, v % 2 ^ 64))).emit (.reply pf [v / 2 ^ 64])
        else match s.latch pf with
          | some (k', w) => if k' = k then (s1.setLatch pf none).emit (.reply pf [w]) else s1.emit (.reply pf [v % 2 ^ 64])
          | none => s1.emit (.reply pf [v % 2 ^ 64])
      else
        let bs := valueOctets r v
        s1.emit (.reply pf [leNat (slice bs (if high then 8 else 0) 8)])

/-- SENTINEL (R525). -/
def State.sentinel (s : State) (pf : Nat) : Nat := 0x4D4C * 2 ^ 48 + pf * 2 ^ 40 + s.rd R.ident_INCARNATION 0

/-- MB_STATUS (R60). -/
def Mailbox.status (m : Mailbox) : Nat := m.tag * 2 ^ 48 + b2n m.rejected * 4 + b2n m.done * 2 + b2n m.busy

/-- The registers of BAR0 below its fast blocks (R524): what an offset reads; zero where the table names nothing. -/
def State.bar0Word (s : State) (pf offset : Nat) : Nat :=
  if offset = 0 then s.sentinel pf
  else if offset = 0x1008 then (s.mb pf).status
  else if 0x2000 ≤ offset ∧ offset < 0x3000 then (s.mb pf).request.getD ((offset - 0x2000) / 8) 0
  else if 0x3000 ≤ offset ∧ offset < 0x4000 then (s.mb pf).response.getD ((offset - 0x3000) / 8) 0
  else if 0x20000 ≤ offset ∧ offset < 0x21000 ∧ offset % 16 = 8 then
    let r := (offset - 0x20000) / 16
    if s.ringCfg R.ring_FUNCTION r = pf then (s.ring r).head else 0
  else if 0x30000 ≤ offset ∧ offset < 0x30400 ∧ offset % 16 = 8 then
    let p := (offset - 0x30000) / 16
    if s.evCfg R.ering_LOCATION p = pf then (s.ev p).prod else 0
  else 0

/-- A read of an aligned word of BAR0. -/
def State.bar0Read (s : State) (pf offset : Nat) : State :=
  if !s.ep.accepting then s
  else if !s.barServed then s.emit (.reply pf [if offset = 0 then s.sentinel pf else 0])
  else match fastKey offset with
    | some k => s.fastRead pf offset k
    | none => s.emit (.reply pf [s.bar0Word pf offset])

/-- FAST_OBJECT_READ (R65, R66, R524): a read of one aligned word of BAR0. -/
def execFastObjectRead (pf offset : Nat) (s : State) : Host.Outcome State Fault Refusal :=
  outcome (pf < 2 && offset < 2 ^ 24 && offset % 8 == 0) s (s.bar0Read pf offset)

/-- TIME_UPPER_READ (R66): a read of the upper word of a TIME sub-index. -/
def execTimeUpperRead (pf offset : Nat) (s : State) : Host.Outcome State Fault Refusal :=
  outcome (pf < 2 && offset < 2 ^ 24 && timeUpper offset) s (s.bar0Read pf offset)

/-- A write to a fast object's slot (R67). A high word, a TIME and a DOMAIN fail with DA_LENGTH at step 9 of R32. -/
def State.fastWrite (s : State) (pf offset val k : Nat) : State :=
  match rowOf k with
  | none => s
  | some r =>
    let bad := offset % 16 == 8 || r.ty == .time || r.ty == .domain
    let s1 := s.singleWrite ⟨pf, pf⟩ k (if bad then 2 ^ 16 else r.len) val
    if s1.acc.lastStatus = daOk then s1 else s1.bump32 R.svc_FAST_FAILED 0

/-- A write of a word of MB_REQUEST (R60). What the buffer holds of a write while BUSY is undefined (R61): a free value. -/
def State.requestWord (s : State) (pf offset val : Nat) : State :=
  let (v, s1) := if (s.mb pf).busy then s.free 64 else (val, s)
  let m := s1.mb pf
  let i := (offset - 0x2000) / 8
  s1.setMb pf { m with request := ((m.request ++ List.replicate (512 - m.request.length) 0).set i v) }

/-- FAST_OBJECT_WRITE (R60, R67): a write to a fast object or to the request buffer; one to an offset that maps nothing is dropped. -/
def execFastObjectWrite (pf offset val : Nat) (s : State) : Host.Outcome State Fault Refusal :=
  outcome (pf < 2 && offset < 2 ^ 24 && offset % 8 == 0 && val < 2 ^ 64) s <|
    if !s.barServed then s
    else match fastKey offset with
      | some k => s.fastWrite pf offset val k
      | none => if 0x2000 ≤ offset ∧ offset < 0x3000 then s.requestWord pf offset val else s

/-! ## SMBus (R73, R74, R634) -/

/-- The SMBus target as an accessor: principal 2. -/
def smbus : Accessor := ⟨2, 2⟩

/-- A transaction is this device's: it names the 7-bit address of the live settings record, bits [544:538] (R73, R602). -/
def State.smbusFor (s : State) (addr : Nat) : Bool := addr == s.setting 544 538

/-- A transaction with a wrong PEC is answered with a NACK and discarded (R74). -/
def State.smbusNack (s : State) : State := s.emit (.smbus [] false)

/-- STATUS_SUMMARY (R73). -/
def execStatusSummary (frame : SmbFrame) (s : State) : Host.Outcome State Fault Refusal :=
  outcome (frame.addr < 128) s (if !s.smbusFor frame.addr then s else if !frame.pecOk then s.smbusNack
    else s.emit (.smbus [b2n (s.on R.prst_RESET_HELD 0) + 2 * b2n (s.on R.coll_FATAL_LATCHED 0) + 4 * b2n s.coll.mgmtLost
      + 8 * b2n (s.aliveNow == 0)] true))

/-- SELECT (R73). -/
def execSelect (index inst sub : Nat) (frame : SmbFrame) (s : State) : Host.Outcome State Fault Refusal :=
  outcome (frame.addr < 128 && index < 65536 && inst < 65536 && sub < 256) s <|
    if !s.smbusFor frame.addr then s else if !frame.pecOk then s.smbusNack
    else ({ s with acc := { s.acc with smbSel := some (keyOf index inst sub) } }).emit (.smbus [] true)

/-- READ_VALUE (R73): the status of the last WRITE_VALUE alone, once; otherwise the status and the value of the selected sub-index, whole
also where it is longer than one block (DESIGN CHOICE, log entry 65: the manual does not say how such a value goes). -/
def execReadValue (frame : SmbFrame) (s : State) : Host.Outcome State Fault Refusal :=
  outcome (frame.addr < 128) s (if !s.smbusFor frame.addr then s else if !frame.pecOk then s.smbusNack
    else match s.acc.smbHeld with
      | some st => ({ s with acc := { s.acc with smbHeld := none } }).emit (.smbus [st] true)
      | none =>
        let k := s.acc.smbSel.getD 0
        let st := s.checkRead smbus k false
        ((s.noteAccess k st).bump R.svc_REQUESTS 0).emit (.smbus (st :: (if st = daOk then s.readOctets k false else [])) true))

/-- WRITE_VALUE (R73, R74): the status is held for the next READ_VALUE. -/
def execWriteValue (bytes : List Nat) (frame : SmbFrame) (s : State) : Host.Outcome State Fault Refusal :=
  outcome (frame.addr < 128 && bytes.length ≤ 255 && bytes.all (fun b => decide (b < 256))) s <|
    if !s.smbusFor frame.addr then s else if !frame.pecOk then s.smbusNack
    else
      let k := s.acc.smbSel.getD 0
      let s1 := s.singleWrite smbus k bytes.length (hostValue k bytes)
      ({ s1 with acc := { s1.acc with smbHeld := some s1.acc.lastStatus } }).emit (.smbus [] true)

/-- SMB_SCL_TIMEOUT (R634): the target releases the bus; the transaction in progress is gone, and it changed nothing. -/
def execSmbSclTimeout (s : State) : Host.Outcome State Fault Refusal := completes s.smbusNack

/-! ## Rows that are one write (R32)

Each is checked and applied as R32 gives; what it does is its sub-index's effect. -/

/-- REGISTER_WRITE (R32): a value of a DOMAIN carries a leading 1 octet, or is 0 when empty. -/
def execRegisterWrite (who : Accessor) (index inst sub len val : Nat) (s : State) : Host.Outcome State Fault Refusal :=
  let k := keyOf index inst sub
  let dom : Bool := match rowOf k with
    | some r => r.ty == .domain
    | none => false
  outcome (who.ok && index < 65536 && inst < 65536 && sub < 256
    && (if dom then val == domOf (domOctets val) && (domOctets val).length == len else decide (val < 2 ^ (8 * len)))) s
    (s.singleWrite who k len val)

/-- COMMIT_NOW (R42). -/
def execCommitNow (who : Accessor) (s : State) : Host.Outcome State Fault Refusal := outcome who.ok s (s.trigger who R.commit_TRIGGER 0 1)
/-- COMMIT_AT (R43). -/
def execCommitAt (who : Accessor) (s : State) : Host.Outcome State Fault Refusal := outcome who.ok s (s.trigger who R.commit_TRIGGER 0 2)
/-- ABORT (R45). -/
def execAbort (who : Accessor) (s : State) : Host.Outcome State Fault Refusal := outcome who.ok s (s.trigger who R.commit_TRIGGER 0 3)
/-- DISCARD (R45). -/
def execDiscard (who : Accessor) (s : State) : Host.Outcome State Fault Refusal := outcome who.ok s (s.trigger who R.commit_TRIGGER 0 4)

/-- A request is written to a stoppable function (R50). -/
def State.requestWrite (s : State) (who : Accessor) (f : Fn) (n code : Nat) : State :=
  let k := keyOf (fnIndex f) n 2
  s.singleWrite who k (typeLen k) code

/-- STOP (R50). -/
def execStop (who : Accessor) (f : Fn) (n : Nat) (s : State) : Host.Outcome State Fault Refusal :=
  outcome (who.ok && n < 65536) s (s.requestWrite who f n 1)
/-- START (R50, R52). -/
def execStart (who : Accessor) (f : Fn) (n : Nat) (s : State) : Host.Outcome State Fault Refusal :=
  outcome (who.ok && n < 65536) s (s.requestWrite who f n 2)
/-- POWER_OFF (R50). -/
def execPowerOff (who : Accessor) (f : Fn) (n : Nat) (s : State) : Host.Outcome State Fault Refusal :=
  outcome (who.ok && n < 65536) s (s.requestWrite who f n 3)

/-- ARM (R439). -/
def execArm (who : Accessor) (s : State) : Host.Outcome State Fault Refusal := outcome who.ok s (s.trigger who R.tchg_ARM 0 1)
/-- CANCEL (R440). -/
def execCancel (who : Accessor) (s : State) : Host.Outcome State Fault Refusal := outcome who.ok s (s.trigger who R.tchg_ARM 0 2)
/-- TIME_SWITCH_NOW (R448). -/
def execTimeSwitchNow (who : Accessor) (s : State) : Host.Outcome State Fault Refusal :=
  outcome who.ok s (s.trigger who R.invar_TIME_SWITCH_NOW 0 1)

/-- ENABLE of a DMA ring or event ring is written (R532). -/
def State.ringWrite (s : State) (who : Accessor) (event : Bool) (n code : Nat) : State :=
  s.trigger who (if event then R.ering_ENABLE else R.ring_ENABLE) n code

/-- ENABLE (R532). -/
def execEnable (who : Accessor) (event : Bool) (n : Nat) (s : State) : Host.Outcome State Fault Refusal :=
  outcome (who.ok && n < 65536) s (s.ringWrite who event n 1)
/-- DISABLE (R532). -/
def execDisable (who : Accessor) (event : Bool) (n : Nat) (s : State) : Host.Outcome State Fault Refusal :=
  outcome (who.ok && n < 65536) s (s.ringWrite who event n 0)
/-- RESUME (R532). -/
def execResume (who : Accessor) (event : Bool) (n : Nat) (s : State) : Host.Outcome State Fault Refusal :=
  outcome (who.ok && n < 65536) s (s.ringWrite who event n 2)

/-- PAIR_TEST (R559): `detected` tells whether the checker catches the disturbed pair. -/
def execPairTest (who : Accessor) (pair : Nat) (detected : Bool) (s : State) : Host.Outcome State Fault Refusal :=
  outcome (who.ok && pair < 256) s (s.singleWriteWith who (key R.coll_PAIR_TEST 0) 1 pair [b2n detected])
/-- ACK (R565). -/
def execAck (who : Accessor) (src val : Nat) (s : State) : Host.Outcome State Fault Refusal :=
  outcome (who.ok && src < 65536 && val < 2 ^ 64) s (s.trigger who R.src_ACK src val)
/-- FORCE (R560). -/
def execForce (who : Accessor) (src : Nat) (s : State) : Host.Outcome State Fault Refusal :=
  outcome (who.ok && src < 65536) s (s.trigger who R.src_FORCE src 1)
/-- RESTART (R572). -/
def execRestart (who : Accessor) (p : Nat) (s : State) : Host.Outcome State Fault Refusal :=
  outcome (who.ok && p < 65536) s (s.trigger who R.pewter_RESTART p 1)
/-- SWITCHOVER (R572). -/
def execSwitchover (who : Accessor) (p : Nat) (s : State) : Host.Outcome State Fault Refusal :=
  outcome (who.ok && p < 65536) s (s.trigger who R.pewter_SWITCHOVER p 1)
/-- DOMAIN_ON (R582). -/
def execDomainOn (who : Accessor) (dom : Nat) (s : State) : Host.Outcome State Fault Refusal :=
  outcome (who.ok && dom < 65536) s (s.trigger who R.dom_POWER_REQUEST dom 1)
/-- DOMAIN_OFF (R582). -/
def execDomainOff (who : Accessor) (dom : Nat) (s : State) : Host.Outcome State Fault Refusal :=
  outcome (who.ok && dom < 65536) s (s.trigger who R.dom_POWER_REQUEST dom 2)
/-- DEVICE_RESET (R591). -/
def execDeviceReset (who : Accessor) (s : State) : Host.Outcome State Fault Refusal :=
  outcome who.ok s (s.trigger who R.prst_DEVICE_RESET 0 1)

/-- FLASH_READ (R600). -/
def execFlashRead (who : Accessor) (s : State) : Host.Outcome State Fault Refusal := outcome who.ok s (s.trigger who R.flash_CMD 0 1)
/-- FLASH_PROGRAM (R600). -/
def execFlashProgram (who : Accessor) (s : State) : Host.Outcome State Fault Refusal := outcome who.ok s (s.trigger who R.flash_CMD 0 2)
/-- FLASH_ERASE (R600). -/
def execFlashErase (who : Accessor) (s : State) : Host.Outcome State Fault Refusal := outcome who.ok s (s.trigger who R.flash_CMD 0 3)
/-- OTP_UNLOCK (R604). -/
def execOtpUnlock (who : Accessor) (val : Nat) (s : State) : Host.Outcome State Fault Refusal :=
  outcome (who.ok && val < 65536) s (s.trigger who R.prst_OTP_UNLOCK 0 val)
/-- RECORD (R604). -/
def execRecord (who : Accessor) (g : Nat) (bytes : List Nat) (s : State) : Host.Outcome State Fault Refusal :=
  outcome (who.ok && g < 65536 && bytes.length ≤ 256 && bytes.all (fun b => decide (b < 256))) s
    (s.singleWrite who (key R.settings_RECORD g) bytes.length (domOf bytes))

/-- PAGE_RETIRE_CLEAR (R275). -/
def execPageRetireClear (who : Accessor) (stack : Nat) (s : State) : Host.Outcome State Fault Refusal :=
  outcome (who.ok && stack < 65536) s (s.trigger who R.retire_CLEAR stack 1)
/-- LOCK (R213). -/
def execLock (who : Accessor) (t v : Nat) (s : State) : Host.Outcome State Fault Refusal :=
  outcome (who.ok && t < 65536 && v < 256) s (s.trigger who R.tmnt_LOCK t v)

/-- A CMD word is written to a command channel; it carries the row's opcode (R217). -/
def State.cmdWrite_ (s : State) (who : Accessor) (c cmd : Nat) : State := s.trigger who R.chan_CMD c cmd

/-- TABLE_READ (R218). -/
def execTableRead (who : Accessor) (c cmd : Nat) (s : State) : Host.Outcome State Fault Refusal :=
  outcome (cmdOperandsOk who c cmd 1) s (s.cmdWrite_ who c cmd)
/-- TABLE_WRITE (R218). -/
def execTableWrite (who : Accessor) (c cmd : Nat) (s : State) : Host.Outcome State Fault Refusal :=
  outcome (cmdOperandsOk who c cmd 2) s (s.cmdWrite_ who c cmd)
/-- INSERT (R219). -/
def execInsert (who : Accessor) (c cmd : Nat) (s : State) : Host.Outcome State Fault Refusal :=
  outcome (cmdOperandsOk who c cmd 3) s (s.cmdWrite_ who c cmd)
/-- DELETE (R218). -/
def execDelete (who : Accessor) (c cmd : Nat) (s : State) : Host.Outcome State Fault Refusal :=
  outcome (cmdOperandsOk who c cmd 4) s (s.cmdWrite_ who c cmd)
/-- MOVE (R219). -/
def execMove (who : Accessor) (c cmd : Nat) (s : State) : Host.Outcome State Fault Refusal :=
  outcome (cmdOperandsOk who c cmd 5) s (s.cmdWrite_ who c cmd)
/-- SEARCH (R218). -/
def execSearch (who : Accessor) (c cmd : Nat) (s : State) : Host.Outcome State Fault Refusal :=
  outcome (cmdOperandsOk who c cmd 6) s (s.cmdWrite_ who c cmd)

/-- LOAD (R161). -/
def execLoad (who : Accessor) (g : Nat) (s : State) : Host.Outcome State Fault Refusal :=
  outcome (who.ok && g < 65536) s (s.trigger who R.img_LOAD g 1)
/-- BOARD_TABLE_LOAD (R332). -/
def execBoardTableLoad (who : Accessor) (s : State) : Host.Outcome State Fault Refusal := outcome who.ok s (s.trigger who R.board_LOAD 0 1)
/-- RETRAIN (R336). -/
def execRetrain (who : Accessor) (lane : Nat) (s : State) : Host.Outcome State Fault Refusal :=
  outcome (who.ok && lane < 65536) s (s.trigger who R.lane_RETRAIN lane 1)
/-- SWITCH_NOW (R327). -/
def execSwitchNow (who : Accessor) (chip : Nat) (s : State) : Host.Outcome State Fault Refusal :=
  outcome (who.ok && chip < 65536) s (s.trigger who R.chip_SWITCH_NOW chip 1)
/-- INJECT (R340). -/
def execInject (who : Accessor) (lane val : Nat) (s : State) : Host.Outcome State Fault Refusal :=
  outcome (who.ok && lane < 65536 && val < 65536) s (s.trigger who R.ltest_INJECT lane val)
/-- LANE_TEST_CLEAR (R340). -/
def execLaneTestClear (who : Accessor) (lane : Nat) (s : State) : Host.Outcome State Fault Refusal :=
  outcome (who.ok && lane < 65536) s (s.trigger who R.ltest_CLEAR lane 1)
/-- FEC_CLEAR (R342). -/
def execFecClear (who : Accessor) (n : Nat) (s : State) : Host.Outcome State Fault Refusal :=
  outcome (who.ok && n < 65536) s (s.trigger who R.fec_CLEAR n 1)
/-- PORT_COUNTER_CLEAR (R369). -/
def execPortCounterClear (who : Accessor) (port : Nat) (s : State) : Host.Outcome State Fault Refusal :=
  outcome (who.ok && port < 65536) s (s.trigger who R.pcnt_CLEAR port 1)
/-- I2C_RESET (R375). -/
def execI2cReset (who : Accessor) (bus : Nat) (s : State) : Host.Outcome State Fault Refusal :=
  outcome (who.ok && bus < 65536) s (s.trigger who R.i2c_RESET bus 1)

/-- SET_ID (R399). -/
def execSetId (who : Accessor) (id : Nat) (s : State) : Host.Outcome State Fault Refusal :=
  outcome (who.ok && id < 65536) s (s.trigger who R.fab_SET_ID 0 id)
/-- ASSIGN (R398). -/
def execAssign (who : Accessor) (link : Nat) (s : State) : Host.Outcome State Fault Refusal :=
  outcome (who.ok && link < 65536) s (s.trigger who R.link_ASSIGN link 1)
/-- PROXY_REQUEST (R402). -/
def execProxyRequest (who : Accessor) (link : Nat) (bytes : List Nat) (s : State) : Host.Outcome State Fault Refusal :=
  outcome (who.ok && link < 65536 && bytes.length ≤ 256 && bytes.all (fun b => decide (b < 256))) s
    (s.singleWrite who (key R.link_PROXY_REQUEST link) bytes.length (domOf bytes))
/-- FENCE (R403). -/
def execFence (who : Accessor) (val : Nat) (s : State) : Host.Outcome State Fault Refusal :=
  outcome (who.ok && val < 256) s (s.trigger who R.fab_FENCE 0 val)
/-- IDENTITY_WRITE (R397): VALID, SERIAL or INCARNATION of an entry. -/
def execIdentityWrite (who : Accessor) (d sub val : Nat) (s : State) : Host.Outcome State Fault Refusal :=
  outcome (who.ok && d < 65536 && 1 ≤ sub && sub ≤ 3 && val < 2 ^ (8 * typeLen (keyOf 0x6008 d sub))) s
    (s.singleWrite who (keyOf 0x6008 d sub) (typeLen (keyOf 0x6008 d sub)) val)

/-- RETIRE (R481). -/
def execRetire (who : Accessor) (g : Nat) (s : State) : Host.Outcome State Fault Refusal :=
  outcome (who.ok && g < 65536) s (s.trigger who R.gen_RETIRE 0 g)
/-- ADOPT (R485). -/
def execAdopt (who : Accessor) (g : Nat) (s : State) : Host.Outcome State Fault Refusal :=
  outcome (who.ok && g < 65536) s (s.trigger who R.gen_ADOPT 0 g)
/-- TRIGGER (R517). -/
def execTrigger (who : Accessor) (d : Nat) (s : State) : Host.Outcome State Fault Refusal :=
  outcome (who.ok && d < 65536) s (s.trigger who R.dump_TRIGGER d 1)
/-- TRACE_SEED (R501). -/
def execTraceSeed (who : Accessor) (g val : Nat) (s : State) : Host.Outcome State Fault Refusal :=
  outcome (who.ok && g < 65536 && val < 2 ^ 32) s (s.trigger who R.gtel_TRACE_SEED g val)

end Sys2Proof.Machine
end

