-- ==== Sys2Proof/Machine/Dispatch.lean ====
section
/-! DEFINITION. The dispatch: one arm for each command, each one direct call of that command's meaning. -/

namespace Sys2Proof.Machine

/-- The effect of a command on everything but the queue of waiting commands. -/
def exec (i : Instr) (s : State) : Host.Outcome State Fault Refusal :=
  match i with
  | .slotBoundary => Sys2Proof.Machine.execSlotBoundary s
  | .epochBoundary refs rxPpm rates adapts hits => Sys2Proof.Machine.execEpochBoundary refs rxPpm rates adapts hits s
  | .ageingScan t => Sys2Proof.Machine.execAgeingScan t s
  | .dumpDue d => Sys2Proof.Machine.execDumpDue d s
  | .dumpDone d => Sys2Proof.Machine.execDumpDone d s
  | .reactionExpire src => Sys2Proof.Machine.execReactionExpire src s
  | .refSwitch chip => Sys2Proof.Machine.execRefSwitch chip s
  | .timeRefSwitch => Sys2Proof.Machine.execTimeRefSwitch s
  | .registerWrite who index inst sub len val => Sys2Proof.Machine.execRegisterWrite who index inst sub len val s
  | .read pf tag words => Sys2Proof.Machine.execRead pf tag words s
  | .write pf tag words => Sys2Proof.Machine.execWrite pf tag words s
  | .describe pf tag words => Sys2Proof.Machine.execDescribe pf tag words s
  | .remoteRead => Sys2Proof.Machine.execRemoteRead s
  | .remoteWrite => Sys2Proof.Machine.execRemoteWrite s
  | .remoteDescribe => Sys2Proof.Machine.execRemoteDescribe s
  | .remoteResponse => Sys2Proof.Machine.execRemoteResponse s
  | .remoteTimeout target txn => Sys2Proof.Machine.execRemoteTimeout target txn s
  | .timeUpperRead pf offset => Sys2Proof.Machine.execTimeUpperRead pf offset s
  | .fastObjectWrite pf offset val => Sys2Proof.Machine.execFastObjectWrite pf offset val s
  | .statusSummary frame => Sys2Proof.Machine.execStatusSummary frame s
  | .select index inst sub frame => Sys2Proof.Machine.execSelect index inst sub frame s
  | .readValue frame => Sys2Proof.Machine.execReadValue frame s
  | .writeValue bytes frame => Sys2Proof.Machine.execWriteValue bytes frame s
  | .commitNow who => Sys2Proof.Machine.execCommitNow who s
  | .commitAt who => Sys2Proof.Machine.execCommitAt who s
  | .abort who => Sys2Proof.Machine.execAbort who s
  | .discard who => Sys2Proof.Machine.execDiscard who s
  | .commitTakeEffect => Sys2Proof.Machine.execCommitTakeEffect s
  | .stop who fn n => Sys2Proof.Machine.execStop who fn n s
  | .start who fn n => Sys2Proof.Machine.execStart who fn n s
  | .powerOff who fn n => Sys2Proof.Machine.execPowerOff who fn n s
  | .startComplete fn n ok => Sys2Proof.Machine.execStartComplete fn n ok s
  | .stopComplete fn n => Sys2Proof.Machine.execStopComplete fn n s
  | .stopLimit fn n => Sys2Proof.Machine.execStopLimit fn n s
  | .powerOffComplete fn n => Sys2Proof.Machine.execPowerOffComplete fn n s
  | .arm who => Sys2Proof.Machine.execArm who s
  | .cancel who => Sys2Proof.Machine.execCancel who s
  | .timeChangeApply => Sys2Proof.Machine.execTimeChangeApply s
  | .timeSwitchNow who => Sys2Proof.Machine.execTimeSwitchNow who s
  | .refLoss input => Sys2Proof.Machine.execRefLoss input s
  | .tsyncReqSend link => Sys2Proof.Machine.execTsyncReqSend link s
  | .tsyncReceived link kind seq stamp => Sys2Proof.Machine.execTsyncReceived link kind seq stamp s
  | .tsyncTimeout link seq => Sys2Proof.Machine.execTsyncTimeout link seq s
  | .servoTimeout => Sys2Proof.Machine.execServoTimeout s
  | .syncLoss => Sys2Proof.Machine.execSyncLoss s
  | .alignHoldExpire => Sys2Proof.Machine.execAlignHoldExpire s
  | .ppsIn => Sys2Proof.Machine.execPpsIn s
  | .ppsOutRise => Sys2Proof.Machine.execPpsOutRise s
  | .ppsOutFall => Sys2Proof.Machine.execPpsOutFall s
  | .timePllRelocked => Sys2Proof.Machine.execTimePllRelocked s
  | .ringDb pf ring val => Sys2Proof.Machine.execRingDb pf ring val s
  | .eventDb pf principal val => Sys2Proof.Machine.execEventDb pf principal val s
  | .enable who event n => Sys2Proof.Machine.execEnable who event n s
  | .disable who event n => Sys2Proof.Machine.execDisable who event n s
  | .resume who event n => Sys2Proof.Machine.execResume who event n s
  | .txFetchComplete ring descs data => Sys2Proof.Machine.execTxFetchComplete ring descs data s
  | .rxDeliver part => Sys2Proof.Machine.execRxDeliver part s
  | .rxHoldExpire ring => Sys2Proof.Machine.execRxHoldExpire ring s
  | .intHoldoffExpire ring => Sys2Proof.Machine.execIntHoldoffExpire ring s
  | .cplError tag cause => Sys2Proof.Machine.execCplError tag cause s
  | .cplTimeout tag => Sys2Proof.Machine.execCplTimeout tag s
  | .functionLevelReset fn => Sys2Proof.Machine.execFunctionLevelReset fn s
  | .endpointFreeze => Sys2Proof.Machine.execEndpointFreeze s
  | .functionFreeze part => Sys2Proof.Machine.execFunctionFreeze part s
  | .endpointResumed ev => Sys2Proof.Machine.execEndpointResumed ev s
  | .bar2Write pf offset bytes => Sys2Proof.Machine.execBar2Write pf offset bytes s
  | .bar2Read pf offset len errs => Sys2Proof.Machine.execBar2Read pf offset len errs s
  | .faultMessage => Sys2Proof.Machine.execFaultMessage s
  | .pairMismatch pair => Sys2Proof.Machine.execPairMismatch pair s
  | .pairTest who pair detected => Sys2Proof.Machine.execPairTest who pair detected s
  | .ack who src val => Sys2Proof.Machine.execAck who src val s
  | .force who src => Sys2Proof.Machine.execForce who src s
  | .pewterHeartbeat p => Sys2Proof.Machine.execPewterHeartbeat p s
  | .heartbeatMissing p => Sys2Proof.Machine.execHeartbeatMissing p s
  | .pewterReady p => Sys2Proof.Machine.execPewterReady p s
  | .bootTimeout p => Sys2Proof.Machine.execBootTimeout p s
  | .restart who p => Sys2Proof.Machine.execRestart who p s
  | .switchover who p => Sys2Proof.Machine.execSwitchover who p s
  | .aliveOutToggle => Sys2Proof.Machine.execAliveOutToggle s
  | .domainOn who dom => Sys2Proof.Machine.execDomainOn who dom s
  | .domainOff who dom => Sys2Proof.Machine.execDomainOff who dom s
  | .domainSwitched => Sys2Proof.Machine.execDomainSwitched s
  | .railOut rail mv us goodMs => Sys2Proof.Machine.execRailOut rail mv us goodMs s
  | .tempHigh sensor lowest mdeg => Sys2Proof.Machine.execTempHigh sensor lowest mdeg s
  | .tempCrit sensor mdeg => Sys2Proof.Machine.execTempCrit sensor mdeg s
  | .thermalTrip sensor mdeg => Sys2Proof.Machine.execThermalTrip sensor mdeg s
  | .thermalRecover mdegs => Sys2Proof.Machine.execThermalRecover mdegs s
  | .corePllLoss => Sys2Proof.Machine.execCorePllLoss s
  | .avsStep up => Sys2Proof.Machine.execAvsStep up s
  | .resetAssert samples => Sys2Proof.Machine.execResetAssert samples s
  | .resetRelease => Sys2Proof.Machine.execResetRelease s
  | .deviceReset who => Sys2Proof.Machine.execDeviceReset who s
  | .internalReset => Sys2Proof.Machine.execInternalReset s
  | .internalResetRelease => Sys2Proof.Machine.execInternalResetRelease s
  | .perstAssert => Sys2Proof.Machine.execPerstAssert s
  | .perstRelease => Sys2Proof.Machine.execPerstRelease s
  | .boot run chiplets images bootMs cfg => Sys2Proof.Machine.execBoot run chiplets images bootMs cfg s
  | .flashRead who => Sys2Proof.Machine.execFlashRead who s
  | .flashProgram who => Sys2Proof.Machine.execFlashProgram who s
  | .flashErase who => Sys2Proof.Machine.execFlashErase who s
  | .flashDone ok => Sys2Proof.Machine.execFlashDone ok s
  | .otpUnlock who val => Sys2Proof.Machine.execOtpUnlock who val s
  | .record who g bytes => Sys2Proof.Machine.execRecord who g bytes s
  | .otpProgramDone ok => Sys2Proof.Machine.execOtpProgramDone ok s
  | .lastGasp => Sys2Proof.Machine.execLastGasp s
  | .lastGaspDone n us => Sys2Proof.Machine.execLastGaspDone n us s
  | .smbSclTimeout => Sys2Proof.Machine.execSmbSclTimeout s
  | .transferSlot stack channel t => Sys2Proof.Machine.execTransferSlot stack channel t s
  | .transferComplete stack channel errs => Sys2Proof.Machine.execTransferComplete stack channel errs s
  | .spillIssue q => Sys2Proof.Machine.execSpillIssue q s
  | .spillComplete q => Sys2Proof.Machine.execSpillComplete q s
  | .fillIssue q => Sys2Proof.Machine.execFillIssue q s
  | .fillComplete q corrected bad => Sys2Proof.Machine.execFillComplete q corrected bad s
  | .pageRetireClear who stack => Sys2Proof.Machine.execPageRetireClear who stack s
  | .lock who t v => Sys2Proof.Machine.execLock who t v s
  | .locked t => Sys2Proof.Machine.execLocked t s
  | .tableRead who c cmd => Sys2Proof.Machine.execTableRead who c cmd s
  | .tableWrite who c cmd => Sys2Proof.Machine.execTableWrite who c cmd s
  | .insert who c cmd => Sys2Proof.Machine.execInsert who c cmd s
  | .delete who c cmd => Sys2Proof.Machine.execDelete who c cmd s
  | .move who c cmd => Sys2Proof.Machine.execMove who c cmd s
  | .search who c cmd => Sys2Proof.Machine.execSearch who c cmd s
  | .commandComplete c errs => Sys2Proof.Machine.execCommandComplete c errs s
  | .scrubRead mem addr found => Sys2Proof.Machine.execScrubRead mem addr found s
  | .rxFrame port pcs frame tail stamp => Sys2Proof.Machine.execRxFrame port pcs frame tail stamp s
  | .frameTail port => Sys2Proof.Machine.execFrameTail port s
  | .ingressSlot pipe errs => Sys2Proof.Machine.execIngressSlot pipe errs s
  | .walkComplete g id tag => Sys2Proof.Machine.execWalkComplete g id tag s
  | .assistComplete g => Sys2Proof.Machine.execAssistComplete g s
  | .reinject pipe errs => Sys2Proof.Machine.execReinject pipe errs s
  | .walkTimeout g id tag => Sys2Proof.Machine.execWalkTimeout g id tag s
  | .mirrorCopy g => Sys2Proof.Machine.execMirrorCopy g s
  | .replicate g => Sys2Proof.Machine.execReplicate g s
  | .portSelect port found => Sys2Proof.Machine.execPortSelect port found s
  | .egressPass pipe errs => Sys2Proof.Machine.execEgressPass pipe errs s
  | .transmitFrame port stamp underrun => Sys2Proof.Machine.execTransmitFrame port stamp underrun s
  | .pfcHoldRefresh port => Sys2Proof.Machine.execPfcHoldRefresh port s
  | .pauseFrameSend port => Sys2Proof.Machine.execPauseFrameSend port s
  | .pfcRefresh port => Sys2Proof.Machine.execPfcRefresh port s
  | .rxPause port quanta => Sys2Proof.Machine.execRxPause port quanta s
  | .rxPfc port vector times => Sys2Proof.Machine.execRxPfc port vector times s
  | .pauseExpire port prio => Sys2Proof.Machine.execPauseExpire port prio s
  | .load who g => Sys2Proof.Machine.execLoad who g s
  | .imageFetchComplete g bytes storeOk => Sys2Proof.Machine.execImageFetchComplete g bytes storeOk s
  | .boardTableLoad who => Sys2Proof.Machine.execBoardTableLoad who s
  | .boardTableFetchComplete bytes => Sys2Proof.Machine.execBoardTableFetchComplete bytes s
  | .wheelFineSlot => Sys2Proof.Machine.execWheelFineSlot s
  | .wheelCoarseSlot => Sys2Proof.Machine.execWheelCoarseSlot s
  | .laneReady lane reached taps rxEq hits => Sys2Proof.Machine.execLaneReady lane reached taps rxEq hits s
  | .cdrLoss lane => Sys2Proof.Machine.execCdrLoss lane s
  | .retrain who lane => Sys2Proof.Machine.execRetrain who lane s
  | .switchNow who chip => Sys2Proof.Machine.execSwitchNow who chip s
  | .trainTimeout port => Sys2Proof.Machine.execTrainTimeout port s
  | .inject who lane val => Sys2Proof.Machine.execInject who lane val s
  | .laneTestClear who lane => Sys2Proof.Machine.execLaneTestClear who lane s
  | .fecCodeword lane syms bad => Sys2Proof.Machine.execFecCodeword lane syms bad s
  | .fecClear who n => Sys2Proof.Machine.execFecClear who n s
  | .flitReceived chip toCore seq flit => Sys2Proof.Machine.execFlitReceived chip toCore seq flit s
  | .d2dRetrainDone chip toCore toPhy => Sys2Proof.Machine.execD2dRetrainDone chip toCore toPhy s
  | .linkStateChange port aligned fault => Sys2Proof.Machine.execLinkStateChange port aligned fault s
  | .portCounterClear who port => Sys2Proof.Machine.execPortCounterClear who port s
  | .i2cRead bus pulses ends bytes data => Sys2Proof.Machine.execI2cRead bus pulses ends bytes data s
  | .i2cWrite bus pulses ends bytes => Sys2Proof.Machine.execI2cWrite bus pulses ends bytes s
  | .i2cProbe bus pulses ends => Sys2Proof.Machine.execI2cProbe bus pulses ends s
  | .i2cReset who bus => Sys2Proof.Machine.execI2cReset who bus s
  | .sclTimeout bus ends data => Sys2Proof.Machine.execSclTimeout bus ends data s
  | .cellReceived link seq ack header payload => Sys2Proof.Machine.execCellReceived link seq ack header payload s
  | .ackReceived link head rest => Sys2Proof.Machine.execAckReceived link head rest s
  | .creditReceived link payload => Sys2Proof.Machine.execCreditReceived link payload s
  | .helloReceived link h => Sys2Proof.Machine.execHelloReceived link h s
  | .assignReceived link t => Sys2Proof.Machine.execAssignReceived link t s
  | .fillerReceived link action => Sys2Proof.Machine.execFillerReceived link action s
  | .unknownBlock link => Sys2Proof.Machine.execUnknownBlock link s
  | .elasticSlip link => Sys2Proof.Machine.execElasticSlip link s
  | .nakRepeat link => Sys2Proof.Machine.execNakRepeat link s
  | .replayTimeout link => Sys2Proof.Machine.execReplayTimeout link s
  | .cellSend link found => Sys2Proof.Machine.execCellSend link found s
  | .creditSend link => Sys2Proof.Machine.execCreditSend link s
  | .helloSend link => Sys2Proof.Machine.execHelloSend link s
  | .neighbourLost link => Sys2Proof.Machine.execNeighbourLost link s
  | .reasmTimeout src tag => Sys2Proof.Machine.execReasmTimeout src tag s
  | .setId who id => Sys2Proof.Machine.execSetId who id s
  | .assign who link => Sys2Proof.Machine.execAssign who link s
  | .proxyRequest who link bytes => Sys2Proof.Machine.execProxyRequest who link bytes s
  | .fence who val => Sys2Proof.Machine.execFence who val s
  | .identityWrite who d sub val => Sys2Proof.Machine.execIdentityWrite who d sub val s
  | .request => Sys2Proof.Machine.execRequest s
  | .grant => Sys2Proof.Machine.execGrant s
  | .accept => Sys2Proof.Machine.execAccept s
  | .standing => Sys2Proof.Machine.execStanding s
  | .grantUnanswered => Sys2Proof.Machine.execGrantUnanswered s
  | .windowEnd => Sys2Proof.Machine.execWindowEnd s
  | .grantWriteoff => Sys2Proof.Machine.execGrantWriteoff s
  | .reqStale v => Sys2Proof.Machine.execReqStale v s
  | .reachChange d => Sys2Proof.Machine.execReachChange d s
  | .holdTimeExpire d => Sys2Proof.Machine.execHoldTimeExpire d s
  | .standingPeriod dest port tc => Sys2Proof.Machine.execStandingPeriod dest port tc s
  | .standingLapse dest port tc => Sys2Proof.Machine.execStandingLapse dest port tc s
  | .launchDue due => Sys2Proof.Machine.execLaunchDue due s
  | .retire who g => Sys2Proof.Machine.execRetire who g s
  | .adopt who g => Sys2Proof.Machine.execAdopt who g s
  | .flowFlush => Sys2Proof.Machine.execFlowFlush s
  | .exportClose c => Sys2Proof.Machine.execExportClose c s
  | .trigger who d => Sys2Proof.Machine.execTrigger who d s
  | .traceSeed who g val => Sys2Proof.Machine.execTraceSeed who g val s
  | .stackTrained k ok => Sys2Proof.Machine.execStackTrained k ok s
  | .xlAligned link => Sys2Proof.Machine.execXlAligned link s
  | .checkerLock lane count hi lo => Sys2Proof.Machine.execCheckerLock lane count hi lo s
  | .fastObjectRead pf offset => Sys2Proof.Machine.execFastObjectRead pf offset s

end Sys2Proof.Machine
end

