-- ==== Sys2Proof/WellFormed.lean ====
section
/-! DEFINITION. Well-formed commands: the operands of a command fit the fields they stand for and name things that the device has.
A command that is not well formed cannot reach the device, and has no effect (log entry 8). A write to an instance that an object does not have
is well formed: R32 answers it. -/

namespace Sys2Proof

open Machine

/-- A command is well formed. -/
def Instr.wf (i : Instr) : Bool :=
  match i with
  | .slotBoundary => true
  | .epochBoundary refs _ _ _ _ => refs.length ≤ 4
  | .ageingScan t => t == 2 || t == 9
  | .dumpDue d => d < 16
  | .dumpDone d => d < 16
  | .reactionExpire src => sourceListed src
  | .refSwitch chip => chip < 8
  | .timeRefSwitch => true
  | .registerWrite who index inst sub len val =>
    (let k := keyOf index inst sub
      let dom : Bool := match rowOf k with
        | some r => r.ty == .domain
        | none => false
      who.ok && index < 65536 && inst < 65536 && sub < 256
        && (if dom then val == domOf (domOctets val) && (domOctets val).length == len else decide (val < 2 ^ (8 * len))))
  | .read pf tag words => mbOperandsOk pf tag words && mbOp (words.getD 0 0) != 2 && mbOp (words.getD 0 0) != 3
  | .write pf tag words => mbOperandsOk pf tag words && mbOp (words.getD 0 0) == 2
  | .describe pf tag words => mbOperandsOk pf tag words && mbOp (words.getD 0 0) == 3
  | .remoteRead => true
  | .remoteWrite => true
  | .remoteDescribe => true
  | .remoteResponse => true
  | .remoteTimeout _ txn => txn < 65536
  | .timeUpperRead pf offset => pf < 2 && offset < 2 ^ 24 && timeUpper offset
  | .fastObjectWrite pf offset val => pf < 2 && offset < 2 ^ 24 && offset % 8 == 0 && val < 2 ^ 64
  | .statusSummary frame => frame.addr < 128
  | .select index inst sub frame => frame.addr < 128 && index < 65536 && inst < 65536 && sub < 256
  | .readValue frame => frame.addr < 128
  | .writeValue bytes frame => frame.addr < 128 && bytes.length ≤ 255 && bytes.all (fun b => decide (b < 256))
  | .commitNow who => who.ok
  | .commitAt who => who.ok
  | .abort who => who.ok
  | .discard who => who.ok
  | .commitTakeEffect => true
  | .stop who _ n => who.ok && n < 65536
  | .start who _ n => who.ok && n < 65536
  | .powerOff who _ n => who.ok && n < 65536
  | .startComplete fn n _ => n < fnCount fn
  | .stopComplete fn n => n < fnCount fn
  | .stopLimit fn n => n < fnCount fn
  | .powerOffComplete fn n => n < fnCount fn
  | .arm who => who.ok
  | .cancel who => who.ok
  | .timeChangeApply => true
  | .timeSwitchNow who => who.ok
  | .refLoss input => input < 4
  | .tsyncReqSend link => link < 768
  | .tsyncReceived link kind seq stamp => link < 768 && kind < 16 && seq < 16 && payloadOk ((kind * 16 + seq) :: stamp)
  | .tsyncTimeout link seq => link < 768 && seq < 16
  | .servoTimeout => true
  | .syncLoss => true
  | .alignHoldExpire => true
  | .ppsIn => true
  | .ppsOutRise => true
  | .ppsOutFall => true
  | .timePllRelocked => true
  | .ringDb pf ring val => pf < 2 && ring < 256 && val < 2 ^ 64
  | .eventDb pf principal val => pf < 2 && principal < 64 && val < 2 ^ 64
  | .enable who _ n => who.ok && n < 65536
  | .disable who _ n => who.ok && n < 65536
  | .resume who _ n => who.ok && n < 65536
  | .txFetchComplete ring descs data => ring < 256 && !descs.isEmpty && descs.length ≤ 16 && descs.all (fun d => d.length == 4
      && d.all (· < 2 ^ 64)) && data.all (· < 256) && (txCheck (packetDescs descs) != 0 || data.length == txTotal (packetDescs descs))
  | .rxDeliver part => part.ring < 256 && part.found < 4
  | .rxHoldExpire ring => ring < 256
  | .intHoldoffExpire ring => ring < 256
  | .cplError tag cause => tag < 4096 && 2 ≤ cause && cause ≤ 4
  | .cplTimeout tag => tag < 4096
  | .functionLevelReset fn => fn < 2
  | .endpointFreeze => true
  | .functionFreeze part => part.fn < 2
  | .endpointResumed ev => ev.ok
  | .bar2Write pf offset bytes => pf < 2 && offset < 2 ^ 36 && !bytes.isEmpty && bytes.length ≤ 4096 && bytes.all (· < 256)
      && offset % 2 ^ 28 + bytes.length ≤ 2 ^ 28
  | .bar2Read pf offset len _ => pf < 2 && offset < 2 ^ 36 && 0 < len && len ≤ 4096 && offset % 2 ^ 28 + len ≤ 2 ^ 28
  | .faultMessage => true
  | .pairMismatch pair => pair < 8
  | .pairTest who pair _ => who.ok && pair < 256
  | .ack who src val => who.ok && src < 65536 && val < 2 ^ 64
  | .force who src => who.ok && src < 65536
  | .pewterHeartbeat p => p < 2
  | .heartbeatMissing p => p < 2
  | .pewterReady p => p < 2
  | .bootTimeout p => p < 2
  | .restart who p => who.ok && p < 65536
  | .switchover who p => who.ok && p < 65536
  | .aliveOutToggle => true
  | .domainOn who dom => who.ok && dom < 65536
  | .domainOff who dom => who.ok && dom < 65536
  | .domainSwitched => true
  | .railOut rail mv _ _ => rail < 30 && mv < 65536
  | .tempHigh sensor _ mdeg => sensor < 17 && decide (-(2 : Int) ^ 31 ≤ mdeg) && decide (mdeg < 2 ^ 31)
  | .tempCrit sensor mdeg => sensor < 17 && decide (-(2 : Int) ^ 31 ≤ mdeg) && decide (mdeg < 2 ^ 31)
  | .thermalTrip sensor mdeg => sensor < 17 && decide (-(2 : Int) ^ 31 ≤ mdeg) && decide (mdeg < 2 ^ 31)
  | .thermalRecover mdegs => mdegs.length == 17 && mdegs.all (fun t => decide (-(2 : Int) ^ 31 ≤ t) && decide (t < 2 ^ 31))
  | .corePllLoss => true
  | .avsStep _ => true
  | .resetAssert _ => true
  | .resetRelease => true
  | .deviceReset who => who.ok
  | .internalReset => true
  | .internalResetRelease => true
  | .perstAssert => true
  | .perstRelease => true
  | .boot run chiplets images bootMs cfg => run.trained < 256 && chiplets < 256 && images < 256 && bootMs < 2 ^ 32 && (match cfg with
      | some c => c.ok
      | none => true)
  | .flashRead who => who.ok
  | .flashProgram who => who.ok
  | .flashErase who => who.ok
  | .flashDone _ => true
  | .otpUnlock who val => who.ok && val < 65536
  | .record who g bytes => who.ok && g < 65536 && bytes.length ≤ 256 && bytes.all (fun b => decide (b < 256))
  | .otpProgramDone _ => true
  | .lastGasp => true
  | .lastGaspDone n us => n ≤ 5 && us < 2 ^ 32
  | .smbSclTimeout => true
  | .transferSlot stack channel t => stack < 8 && channel < 24 && t < 100
  | .transferComplete stack channel _ => stack < 8 && channel < 24
  | .spillIssue q => queueExists q
  | .spillComplete q => queueExists q
  | .fillIssue q => queueExists q
  | .fillComplete q _ bad => queueExists q && bad.all (· < 512)
  | .pageRetireClear who stack => who.ok && stack < 65536
  | .lock who t v => who.ok && t < 65536 && v < 256
  | .locked t => t < 26
  | .tableRead who c cmd => cmdOperandsOk who c cmd 1
  | .tableWrite who c cmd => cmdOperandsOk who c cmd 2
  | .insert who c cmd => cmdOperandsOk who c cmd 3
  | .delete who c cmd => cmdOperandsOk who c cmd 4
  | .move who c cmd => cmdOperandsOk who c cmd 5
  | .search who c cmd => cmdOperandsOk who c cmd 6
  | .commandComplete c _ => c < 8
  | .scrubRead mem addr found => mem < 8 && found < 3 && addr < 2 ^ 40
  | .rxFrame port pcs frame _ _ => port < 768 && pcs < 3 && frame.all (· < 256) && frame.length < 65536
  | .frameTail port => port < 768
  | .ingressSlot pipe _ => pipe < 32
  | .walkComplete g id tag => g < 8 && id < 512 && tag < 2
  | .assistComplete g => g < 8
  | .reinject pipe _ => pipe < 32
  | .walkTimeout g id tag => g < 8 && id < 512 && tag < 2
  | .mirrorCopy g => g < 8
  | .replicate g => g < 8
  | .portSelect port found => port < 768 && found < 4
  | .egressPass pipe _ => pipe < 32
  | .transmitFrame port _ _ => port < 768
  | .pfcHoldRefresh port => port < 768
  | .pauseFrameSend port => port < 768
  | .pfcRefresh port => port < 768
  | .rxPause port quanta => port < 768 && quanta < 65536
  | .rxPfc port vector times => port < 768 && vector < 256 && times.length == 8 && times.all (· < 65536)
  | .pauseExpire port prio => port < 768 && prio < 9
  | .load who g => who.ok && g < 65536
  | .imageFetchComplete g bytes _ => g < 8 && bytes.all (· < 256)
  | .boardTableLoad who => who.ok
  | .boardTableFetchComplete bytes => bytes.all (· < 256)
  | .wheelFineSlot => true
  | .wheelCoarseSlot => true
  | .laneReady lane reached taps rxEq _ => lane < 768 && 3 ≤ reached && reached ≤ 5 && taps.all (· < 2 ^ 35) && rxEq < 2 ^ 64
  | .cdrLoss lane => lane < 768
  | .retrain who lane => who.ok && lane < 65536
  | .switchNow who chip => who.ok && chip < 65536
  | .trainTimeout port => port < 768
  | .inject who lane val => who.ok && lane < 65536 && val < 65536
  | .laneTestClear who lane => who.ok && lane < 65536
  | .fecCodeword lane syms _ => lane < 768 && syms.length ≤ 8
  | .fecClear who n => who.ok && n < 65536
  | .flitReceived chip _ seq flit => chip < 8 && seq < 4096 && flit.length == 256 && flit.all (· < 256)
  | .d2dRetrainDone chip _ _ => chip < 8
  | .linkStateChange port _ fault => port < 768 && fault ≤ 2
  | .portCounterClear who port => who.ok && port < 65536
  | .i2cRead bus _ _ bytes _ => bus < 4 && bytes ≤ 128
  | .i2cWrite bus _ _ bytes => bus < 4 && bytes ≤ 128
  | .i2cProbe bus _ _ => bus < 4
  | .i2cReset who bus => who.ok && bus < 65536
  | .sclTimeout bus ends _ => bus < 4 && ends.pulses ≤ 9
  | .cellReceived link seq ak header payload => link < 768 && seq < 4096 && header.length == 16 && payload.length == 256
      && ak.getD 0 < 4096 && header.all (· < 256) && payload.all (· < 256)
  | .ackReceived link head rest => link < 768 && head.length == 2 && payloadOk (head ++ rest)
  | .creditReceived link payload => link < 768 && payloadOk payload
  | .helloReceived link h => link < 768 && h.serial < 2 ^ 64 && h.incarnation < 2 ^ 32 && h.id < 4096 && h.verMax < 16
      && h.verMin < 16 && h.link < 1024 && h.cls < 4 && h.level < 65536 && h.flags < 256 && h.peer < 1024 && h.reason < 256
  | .assignReceived link t => link < 768 && t.serial < 2 ^ 64 && t.newId < 4096 && t.manager < 4096 && t.sender < 4096
      && t.incarnation < 2 ^ 32
  | .fillerReceived link action => link < 768 && action < 5
  | .unknownBlock link => link < 768
  | .elasticSlip link => link < 768
  | .nakRepeat link => link < 768
  | .replayTimeout link => link < 768
  | .cellSend link found => link < 768 && found < 3
  | .creditSend link => link < 768
  | .helloSend link => link < 768
  | .neighbourLost link => link < 768
  | .reasmTimeout src tag => src < 4096 && tag < 4096
  | .setId who id => who.ok && id < 65536
  | .assign who link => who.ok && link < 65536
  | .proxyRequest who link bytes => who.ok && link < 65536 && bytes.length ≤ 256 && bytes.all (fun b => decide (b < 256))
  | .fence who val => who.ok && val < 256
  | .identityWrite who d sub val => who.ok && d < 65536 && 1 ≤ sub && sub ≤ 3 && val < 2 ^ (8 * typeLen (keyOf 0x6008 d sub))
  | .request => true
  | .grant => true
  | .accept => true
  | .standing => true
  | .grantUnanswered => true
  | .windowEnd => true
  | .grantWriteoff => true
  | .reqStale v => v < 1048576
  | .reachChange d => d < 4096
  | .holdTimeExpire d => d < 4096
  | .standingPeriod dest port tc => dest < 4096 && port < 1024 && tc < 8
  | .standingLapse dest port tc => dest < 4096 && port < 1024 && tc < 8
  | .launchDue due => due.queue < 6144 && due.found < 4
  | .retire who g => who.ok && g < 65536
  | .adopt who g => who.ok && g < 65536
  | .flowFlush => true
  | .exportClose c => c < 4
  | .trigger who d => who.ok && d < 65536
  | .traceSeed who g val => who.ok && g < 65536 && val < 2 ^ 32
  | .stackTrained k _ => k < 8
  | .xlAligned link => link < 768
  | .checkerLock lane count hi lo => lane < 768 && hi < 2 ^ count && lo < 2 ^ count
  | .fastObjectRead pf offset => pf < 2 && offset < 2 ^ 24 && offset % 8 == 0

end Sys2Proof
end

