-- ==== Sys2Proof/Safety.lean ====
section
/-! DEFINITION. The terms in which statements about the device are made: a command that completes, what it leaves alone, what the
device put out, the lines that follow its state, and the conditions that every state of the device meets. -/

namespace Sys2Proof

open Machine

/-! ## Completion -/

/-- The command answers a next state: a state `u` with the property, after which the lines INTA and ALIVE_OUT follow (R543, R569). -/
def Does (i : Instr) (s : State) (P : State → Prop) : Prop := ∃ u, exec i s = .next u.settleOutputs ∧ P u

/-- The command answers a next state in which nothing but the lines can have changed. -/
def DoesNothing (i : Instr) (s : State) : Prop := exec i s = .next s.settleOutputs

/-- The command of an event that falls due at the next boundary while slots run: it completes as that boundary, with the property of the
state after it (of the latched counters alone where the ending slot stops the slots), and changes nothing where the event is not due. -/
def AtBoundary (i : Instr) (s : State) (due : Prop) (P : State → Prop) : Prop :=
  (s.clk.running = true → due → s.endSlot.clk.running = true → Does i s P) ∧
  (s.clk.running = true → due → s.endSlot.clk.running = false → Does i s (fun u => u = s.endSlot.snapshot)) ∧
  (s.clk.running = false ∨ ¬due → DoesNothing i s)

/-! ## Frames -/

/-- The parts of the state beside the dictionary and the queue. -/
inductive Part where
  | out | freeIx | acc | remote | fns | clk | time | ep | coll | pwr | sto | bab | tab | pip | trf | prt | tel | lan | fab
deriving DecidableEq, Repr

/-- A part of the state is as before. -/
def Part.same (p : Part) (s t : State) : Prop :=
  match p with
  | .out => t.out = s.out
  | .freeIx => t.freeIx = s.freeIx
  | .acc => t.acc = s.acc
  | .remote => t.remote = s.remote
  | .fns => t.fns = s.fns
  | .clk => t.clk = s.clk
  | .time => t.time = s.time
  | .ep => t.ep = s.ep
  | .coll => t.coll = s.coll
  | .pwr => t.pwr = s.pwr
  | .sto => t.sto = s.sto
  | .bab => t.bab = s.bab
  | .tab => t.tab = s.tab
  | .pip => t.pip = s.pip
  | .trf => t.trf = s.trf
  | .prt => t.prt = s.prt
  | .tel => t.tel = s.tel
  | .lan => t.lan = s.lan
  | .fab => t.fab = s.fab

/-- From `s` to `t` nothing has changed but the parts `ps` and the dictionary values at the keys `ks`. -/
def Only (ps : List Part) (ks : List Nat) (s t : State) : Prop :=
  t.pending = s.pending ∧ (∀ p, p ∉ ps → p.same s t) ∧ ∀ k, k ∉ ks → t.val k = s.val k

/-- The device put out `os`, the last first, and nothing else. -/
def Puts (os : List Out) (s t : State) : Prop := t.out = os ++ s.out

/-! ## The lines -/

/-- INTA is asserted exactly while PF0's event ring holds unconsumed records, is RUNNING, MSI-X is off, and interrupts are not disabled
(R543). -/
def IntaRight (s : State) : Prop :=
  s.ep.inta = (!(s.conf 0).intDisable && !s.msix 0 && s.rd R.ering_STATE 0 == 1 && (s.ev 0).prod != (s.ev 0).cons)

/-- ALIVE_OUT is low while a cause of R569 holds. -/
def AliveRight (s : State) : Prop := s.aliveNow ≠ 0 → s.coll.alive = false

/-- Both lines are where the state puts them. -/
def Settled (s : State) : Prop := IntaRight s ∧ AliveRight s

/-! ## Memories -/

/-- A memory in canonical form: addresses strictly rising, and no entry equal to what an unlisted address reads as. -/
def memoryWf (d : Nat) (m : Map Nat) : Bool := msorted m && m.all (fun e => e.2 != d)

/-! ## Fabric scheduling -/

/-- PENDING of a source toward an egress queue of this device, over its entries of the request table (R414). -/
def pendingOf (s : State) (q src : Nat) : Nat := ((s.reqs q).filter (fun e => e.src == src)).foldl (fun a e => a + e.pending) 0

/-! ## Writes -/

/-- A write of one sub-index passes every check of R32. -/
def Accepted (s : State) (who : Accessor) (k len v : Nat) : Prop := s.checkWrite (s.overlay k v) who k len v = daOk

/-- The write waits for the next slot boundary with the parameters it took, and its request is counted and answered DA_OK (R7, R32). -/
def Held (s u : State) (w : SlotWrite) : Prop :=
  u.acc.slotWrites = s.acc.slotWrites ++ [w] ∧ u.acc.lastStatus = daOk
    ∧ u.rd R.svc_REQUESTS 0 = (s.rd R.svc_REQUESTS 0 + 1) % 2 ^ 64
    ∧ Only [.acc] [key R.svc_REQUESTS 0] s u

/-- A value as a write holds it: reserved bits are ignored (R3). -/
def written (k v : Nat) : Nat := match rowOf k with
  | some r => maskValue k r v
  | none => v

/-- When the write that a command makes passes its checks, the command completes with the write held for the slot boundary, with the
parameters it takes and `aux`. -/
def HoldsWrite (i : Instr) (s : State) (who : Accessor) (k len v : Nat) (aux : List Nat) : Prop :=
  Accepted s who k len v → Does i s (fun u => Held s u ⟨who.principal, k, written k v, triggerParams s k ++ aux⟩)

/-- The same for a sub-index written with a value of its type's length. -/
def HoldsTrigger (i : Instr) (s : State) (who : Accessor) (r : Reg) (n v : Nat) : Prop :=
  HoldsWrite i s who (key r n) (typeLen (key r n)) v []

/-- A request of one write was answered with a status: counted, and the status shown. -/
def Answered (s u : State) (st : Nat) : Prop :=
  u.acc.lastStatus = st ∧ u.rd R.svc_REQUESTS 0 = (s.rd R.svc_REQUESTS 0 + 1) % 2 ^ 64

end Sys2Proof
end

