-- ==== Sys2Proof/Certificates/Slice0/Obligations.lean ====
section
/-! DEFINITION. The statements about the device. Each says what commands do, on every state and operands that meet its hypotheses. -/

open Sys2Proof Sys2Proof.Machine

/-! ## The machine as a whole -/

/-- A step takes the oldest command and runs it with the rest of the queue (log entry 1: the model's form). -/
def Obligations.StepRunsFrontCommand : Prop :=
  ∀ (s : State) (c : Instr) (rest : List Instr),
    step { s with pending := c :: rest } = exec c { s with pending := rest }

/-- An idle step is one tclk period (log entry 1: the model's choice), and no idle step passes a slot boundary. -/
def Obligations.IdleStepTicks : Prop :=
  ∀ s : State, s.pending = [] → ∃ u, step s = .next u.settleOutputs ∧ Only [.clk] [] s u ∧
    u.clk.slot = s.clk.slot ∧
    (s.clk.running = false → u.clk.ticks = s.clk.ticks + 1 ∧ u.clk.count = s.clk.count) ∧
    (s.clk.running = true → s.clk.count + 1 < s.nextCount → u.clk.ticks = s.clk.ticks + 1 ∧
      u.clk.count = (s.clk.count + 1) % 2 ^ 64) ∧
    (s.clk.running = true → s.nextCount ≤ s.clk.count + 1 → u = s)

/-- Every command completes; one whose operands no wire carries changes nothing (log entry 8: the model's choice). -/
def Obligations.WellFormedCommandsComplete : Prop :=
  ∀ (i : Instr) (s : State), (∃ t, exec i s = .next t) ∧ (i.wf = false → exec i s = .next s.settleOutputs)

/-- Every step leaves both lines right, from any state, those no run reaches among them. -/
def Obligations.EveryStepSettlesLines : Prop :=
  ∀ s t : State, step s = .next t → Settled t

/-- What follows every command: the lines move with their conditions, nothing else moves. -/
def Obligations.SettlingMovesTheLinesOnly : Prop :=
  ∀ s : State, let t := s.settleOutputs
    Only [.ep, .coll, .out] [] s t ∧ IntaRight t ∧ AliveRight t ∧
    t.ep = { s.ep with inta := t.ep.inta } ∧ t.coll = { s.coll with alive := t.coll.alive } ∧
    (t.coll.alive = true → s.coll.alive = true) ∧
    (t.ep.inta = s.ep.inta → t.coll.alive = s.coll.alive → t = s) ∧
    (t.ep.inta ≠ s.ep.inta → t.coll.alive = s.coll.alive → t.out = .inta t.ep.inta :: s.out)

/-- State.reset is a settled state with nothing in progress but the boot. -/
def Obligations.ResetState : Prop :=
  State.reset.pending = [] ∧ State.reset.clk.running = false ∧ State.reset.clk.count = 0 ∧
  (∀ d, d < 29 → (State.reset.domOn d = true ↔ d = 0)) ∧
  State.reset.acc.staged = [] ∧ State.reset.acc.armed = none ∧
  State.reset.acc.mb0 = Mailbox.idle ∧ State.reset.acc.mb1 = Mailbox.idle ∧
  (∀ p, p < 64 → State.reset.rd R.ering_STATE p = 0) ∧ State.reset.coll.held = [] ∧
  Settled State.reset ∧ State.reset.ep.inta = false ∧ State.reset.coll.alive = false ∧
  memoryWf 0 State.reset.tab.near = true ∧ memoryWf 0 State.reset.tab.far = true ∧ memoryWf 0xFF State.reset.pwr.flash = true ∧
  msorted State.reset.dict = true ∧ State.reset.pwr.bootDue = true

/-! ## Invar: exchanges, holdover, alignment, references, pulse per second -/

/-- The exchange of R450, from its request to its end. -/
def Obligations.TsyncExchange : Prop :=
  ∀ (s : State) (link seq stamp : Nat), link < 768 → seq < 16 → stamp < 2 ^ 48 →
    let row (kind : Nat) : Instr := .tsyncReceived link kind seq (toBE 6 stamp)
    (s.tsyncOpen link = true → s.past (mget 0 s.time.reqSent link) (ticksUs (s.rd R.sync_TSYNC_INTERVAL 0)) = true →
      Does (.tsyncReqSend link) s (fun u =>
        Puts (s.unitOut link 1 (.block link 0x40 (toBE 7 (2 ^ 52 + mget 0 s.time.nextSeq link % 16 * 2 ^ 48 + stamp48 s.now)))) s u ∧
        Only [.out, .time, .fab] [] s u ∧
        mfind u.time.exch (link * 16 + mget 0 s.time.nextSeq link) = some ⟨stamp48 s.now, none, s.clk.ticks⟩ ∧
        mget 0 u.time.nextSeq link = (mget 0 s.time.nextSeq link + 1) % 16 ∧ mget 0 u.time.reqSent link = s.clk.ticks)) ∧
    (s.tsyncOpen link = true →
      Does (row 1) s (fun u =>
        u = (s.sendUnit link 1 (.block link 0x40 (toBE 7 (2 * 2 ^ 52 + seq * 2 ^ 48 + s.rxStamp link)))).sendUnit link 1
          (.block link 0x40 (toBE 7 (3 * 2 ^ 52 + seq * 2 ^ 48 + stamp48 s.now))))) ∧
    (∀ x, s.tsyncOpen link = true → mfind s.time.exch (link * 16 + seq) = some x → s.past x.sent (ticksUs 4 + 1) = false →
      Does (row 2) s (fun u => Only [.time] [] s u ∧
        mfind u.time.exch (link * 16 + seq) = some { x with t2? := some stamp })) ∧
    (∀ x t2, s.tsyncOpen link = true → mfind s.time.exch (link * 16 + seq) = some x → s.past x.sent (ticksUs 4 + 1) = false →
      x.t2? = some t2 →
      let theta := (stampDiff t2 x.t1 - stampDiff (s.rxStamp link) stamp) * 500
      let delay := (stampDiff t2 x.t1 + stampDiff (s.rxStamp link) stamp) * 500
      let measured (v : State) : Prop := v.rd R.ltime_OFFSET link = toWord 32 theta ∧ v.rd R.ltime_DELAY link = toWord 32 delay ∧
        v.rd R.ltime_EXCHANGES link = (s.rd R.ltime_EXCHANGES link + 1) % 2 ^ 64 ∧ mfind v.time.exch (link * 16 + seq) = none
      (¬(s.rd R.link_LINK_STATE link = 7 ∧ link = s.activeSync) →
        Does (row 3) s (fun u => measured u ∧
          Only [.time] [key R.ltime_OFFSET link, key R.ltime_DELAY link, key R.ltime_EXCHANGES link] s u)) ∧
      (s.rd R.link_LINK_STATE link = 7 → link = s.activeSync → s.rd R.invar_SYNC_SOURCE 0 = 1 →
        Does (row 3) s (fun u => ∃ v, measured v ∧ v.time.lastSync = s.clk.ticks ∧
          v.rd R.sync_ACTIVE_LINK 0 = link ∧ v.rd R.invar_SYNC_SOURCE 0 = 1 ∧
          u = (if bit (v.rd R.invar_HOLD_CAUSE 0) 0 then v else v.servo theta).judgeAlign theta))) ∧
    (∀ kind, kind = 0 ∨ 4 ≤ kind → kind < 16 → DoesNothing (row kind) s) ∧
    (∀ x, mfind s.time.exch (link * 16 + seq) = some x → s.past x.sent (ticksUs 4 + 1) = true →
      Does (.tsyncTimeout link seq) s (fun u => mfind u.time.exch (link * 16 + seq) = none ∧
        u.rd R.ltime_DISCARDED link = (s.rd R.ltime_DISCARDED link + 1) % 2 ^ 64 ∧ Only [.time] [key R.ltime_DISCARDED link] s u))

/-- HOLD_CAUSE and TIME_STATE of R443. -/
def Obligations.HoldoverCauses : Prop :=
  ∀ s : State,
    let held (i : Nat) (u : State) : Prop := bit (u.rd R.invar_HOLD_CAUSE 0) i = true ∧ u.rd R.invar_TIME_STATE 0 = 3 ∧
      (s.rd R.invar_TIME_STATE 0 ≠ 3 → u.rd R.invar_HOLDOVER_SINCE 0 = s.slotNo)
    let keys := [key R.invar_HOLD_CAUSE 0, key R.invar_TIME_STATE 0, key R.invar_HOLDOVER_SINCE 0, key R.ering_EVENTS_DISCARDED 0,
      key R.src_LOST 0x12]
    (s.rd R.invar_SYNC_SOURCE 0 = 0 → s.on R.invar_SERVO_LOCKED 0 = true → bit (s.rd R.invar_HOLD_CAUSE 0) 1 = false →
      s.past s.time.lastChange (ticksMs (s.rd R.invar_SERVO_TIMEOUT 0)) = true →
      Does .servoTimeout s (fun u => held 1 u ∧ Only [.ep, .out, .coll] keys s u)) ∧
    (s.rd R.invar_SYNC_SOURCE 0 = 1 → bit (s.rd R.invar_HOLD_CAUSE 0) 2 = false →
      (s.activeSync = 0xFFFF ∨ s.past s.time.lastSync (16 * ticksUs (s.rd R.sync_TSYNC_INTERVAL 0)) = true) →
      Does .syncLoss s (fun u => held 2 u ∧ u.time.syncCauseSince = s.clk.ticks ∧ u.rd R.sync_ACTIVE_LINK 0 = s.activeSync ∧
        Only [.ep, .out, .coll, .time] (key R.sync_ACTIVE_LINK 0 :: keys) s u)) ∧
    ((s.time.pllRelocking = true ∨ bit (s.rd R.invar_HOLD_CAUSE 0) 0 = true) → s.refHealthy (s.rd R.invar_TIME_REF_IN_USE 0) = true →
      Does .timePllRelocked s (fun u => bit (u.rd R.invar_HOLD_CAUSE 0) 0 = false ∧ u.time.pllRelocking = false ∧
        Only [.ep, .out, .coll, .time] keys s u)) ∧
    (s.rd R.invar_SYNC_SOURCE 0 ≠ 0 ∨ s.on R.invar_SERVO_LOCKED 0 = false ∨ bit (s.rd R.invar_HOLD_CAUSE 0) 1 = true ∨
      s.past s.time.lastChange (ticksMs (s.rd R.invar_SERVO_TIMEOUT 0)) = false → DoesNothing .servoTimeout s) ∧
    (s.rd R.invar_SYNC_SOURCE 0 ≠ 1 ∨ bit (s.rd R.invar_HOLD_CAUSE 0) 2 = true ∨
      (s.activeSync ≠ 0xFFFF ∧ s.past s.time.lastSync (16 * ticksUs (s.rd R.sync_TSYNC_INTERVAL 0)) = false) → DoesNothing .syncLoss s) ∧
    ((s.time.pllRelocking = false ∧ bit (s.rd R.invar_HOLD_CAUSE 0) 0 = false) ∨ s.refHealthy (s.rd R.invar_TIME_REF_IN_USE 0) = false →
      DoesNothing .timePllRelocked s)

/-- R452: the hold of the alignment under cause SYNC. -/
def Obligations.AlignHoldExpires : Prop :=
  ∀ s : State,
    (bit (s.rd R.invar_HOLD_CAUSE 0) 2 = true → s.rd R.sync_ALIGN_STATE 0 ≠ 2 → s.isRoot = false →
      s.past s.time.syncCauseSince (ticksMs (s.rd R.sync_ALIGN_HOLD 0)) = true →
      Does .alignHoldExpire s (fun u => u.rd R.sync_ALIGN_STATE 0 = 2 ∧
        u.rd R.sync_ALIGN_CHANGES 0 = (s.rd R.sync_ALIGN_CHANGES 0 + 1) % 2 ^ 32 ∧
        u.rd R.fsch_SCHED_STATE 0 = (if s.on R.fab_FENCE 0 then 2 else 1) ∧
        Only [.ep, .out, .coll, .time] [key R.sync_ALIGN_STATE 0, key R.sync_ALIGN_CHANGES 0, key R.fsch_SCHED_STATE 0,
          key R.ering_EVENTS_DISCARDED 0, key R.src_LOST 0x12] s u)) ∧
    (bit (s.rd R.invar_HOLD_CAUSE 0) 2 = false ∨ s.rd R.sync_ALIGN_STATE 0 = 2 ∨ s.isRoot = true ∨
      s.past s.time.syncCauseSince (ticksMs (s.rd R.sync_ALIGN_HOLD 0)) = false → DoesNothing .alignHoldExpire s)

/-- R447 and R448. -/
def Obligations.ReferenceLossAndSwitch : Prop :=
  ∀ (s : State) (i : Nat), i < 4 →
    (s.rd R.refm_REF_STATE i ≠ 2 →
      Does (.refLoss i) s (fun u => ∃ v, u = v.chipRefs s ∧ v.rd R.refm_LOS i = 1 ∧ v.rd R.refm_REF_STATE i = 2 ∧
        v.rd R.refm_FAILS i = (s.rd R.refm_FAILS i + 1) % 2 ^ 32 ∧
        (s.rd R.invar_TIME_REF_IN_USE 0 = i → bit (v.rd R.invar_HOLD_CAUSE 0) 0 = true ∧ v.rd R.invar_TIME_STATE 0 = 3) ∧
        Only [.ep, .out, .coll, .time] [key R.refm_LOS i, key R.refm_REF_STATE i, key R.refm_FAILS i, key R.invar_TIME_STATE 0,
          key R.invar_HOLDOVER_SINCE 0, key R.invar_HOLD_CAUSE 0, key R.ering_EVENTS_DISCARDED 0, key R.src_LOST 0x12] s v)) ∧
    (s.rd R.refm_REF_STATE i = 2 →
      Does (.refLoss i) s (fun u => u.rd R.refm_LOS i = 1 ∧ u.refRun i = 0 ∧ Only [.time] [key R.refm_LOS i] s u)) ∧
    (s.time.pllPending = true → s.atEpoch = true →
      (s.refHealthy s.timeStandby = true →
        Does .timeRefSwitch s (fun u => u.rd R.invar_TIME_REF_IN_USE 0 = s.timeStandby ∧ u.time.pllPending = false ∧
          u.time.pllRelocking = true ∧ Only [.time] [key R.invar_TIME_REF_IN_USE 0] s u)) ∧
      (s.refHealthy s.timeStandby = false →
        Does .timeRefSwitch s (fun u => u.time.pllPending = false ∧ Only [.time] [] s u))) ∧
    (s.time.pllPending = false → DoesNothing .timeRefSwitch s) ∧
    (∀ who, let u := s.takeEffect ⟨who, key R.invar_TIME_SWITCH_NOW 0, 1, []⟩
      u.time.pllPending = true ∧ Only [.time] [] s u)

/-- R458 and R459. -/
def Obligations.PulsePerSecond : Prop :=
  ∀ s : State,
    (s.on R.tsvc_PPS_IN_EN 0 = true →
      Does .ppsIn s (fun u => u.rd R.tsvc_PPS_IN_TIME 0 = timeRaw s.now ∧ u.rd R.tsvc_PPS_IN_COUNT 0 = s.clk.count ∧
        u.rd R.tsvc_PPS_IN_EDGES 0 = (s.rd R.tsvc_PPS_IN_EDGES 0 + 1) % 2 ^ 32 ∧ u.time.ppsEpoch = some (s.clk.slot / 16384) ∧
        Only [.ep, .out, .time] [key R.tsvc_PPS_IN_TIME 0, key R.tsvc_PPS_IN_COUNT 0, key R.tsvc_PPS_IN_EDGES 0,
          key R.ering_EVENTS_DISCARDED 0] s u ∧
        (s.time.ppsEpoch = some (s.clk.slot / 16384) →
          Only [] [key R.tsvc_PPS_IN_TIME 0, key R.tsvc_PPS_IN_COUNT 0, key R.tsvc_PPS_IN_EDGES 0] s u))) ∧
    (s.on R.tsvc_PPS_IN_EN 0 = false → DoesNothing .ppsIn s) ∧
    (s.on R.tsvc_PPS_OUT_EN 0 = true → s.rd R.invar_TIME_STATE 0 ≠ 0 → s.time.ppsOut = false → s.ppsTarget / 64 = (s.clk.slot : Int) →
      Does .ppsOutRise s (fun u => u.time.ppsOut = true ∧ u.time.ppsRise = s.clk.ticks ∧ Puts [.pin 1 1] s u ∧ Only [.out, .time] [] s u)) ∧
    (s.time.ppsOut = true → (s.past s.time.ppsRise (ticksNs (s.rd R.tsvc_PPS_OUT_WIDTH 0)) = true ∨
        s.ppsTarget + 1000000000 ≤ (s.nowNs : Int) + 100) →
      Does .ppsOutFall s (fun u => u.time.ppsOut = false ∧ Puts [.pin 1 0] s u ∧ Only [.out, .time] [] s u))

/-! ## Slots, epochs, commits, time changes -/

/-- R18 and R19: the order of a boundary, and the latch and the clock exactly. -/
def Obligations.SlotBoundaryOrder : Prop :=
  ∀ s : State, (s.clk.running = false → DoesNothing .slotBoundary s) ∧
    (s.clk.running = true → s.endSlot.clk.running = true →
      let e := s.endSlot.snapshot
      let n := e.advanceClock
      Does .slotBoundary s (fun u => u = ((n.fillBuckets.tenantsStopped.takeWrites).takeCommit).slotBegins s.clk.slot) ∧
      (∀ k, k ≠ key R.gasp_SAVES 0 → mfind e.acc.shadow k = if isCounter k then mfind s.endSlot.dict k else none) ∧
      mget 0 e.acc.shadow (key R.gasp_SAVES 0) = s.endSlot.pwr.mram.saves ∧
      n.clk.count = e.nextCount % 2 ^ 64 ∧ n.clk.slotCount = e.nextCount % 2 ^ 64 ∧ n.clk.ticks = e.clk.ticks + (e.nextCount - e.clk.count) ∧
      n.acc = e.acc ∧
      (e.clk.change = none →
        n.clk.slot = e.timeAt (e.nextCount % 2 ^ 64) / 65536 / 64 ∧ Only [.clk] [] e n ∧
        (n.clk.epochAt = true ↔ n.clk.slot % 16384 = 0 ∨ e.clk.slot / 16384 < n.clk.slot / 16384) ∧ n.clk.epochDue = n.clk.epochAt))

/-- R36, over any list of writes. -/
def Obligations.LaterWriteWins : Prop :=
  ∀ l : List SlotWrite,
    (lastWrites l).Sublist l ∧
    (∀ w ∈ l, (∃ r, rowOf w.key = some r ∧ r.acc = .rw) ∨ w ∈ lastWrites l) ∧
    (∀ a w b, l = a ++ w :: b → (∀ x ∈ b, x.key ≠ w.key) → w ∈ lastWrites l) ∧
    (∀ a w b r, lastWrites l = a ++ w :: b → rowOf w.key = some r → r.acc = .rw → ∀ x ∈ b, x.key ≠ w.key)

/-- R42: step 2 of R19 for commits. -/
def Obligations.CommitAtItsBoundary : Prop :=
  let due (u : State) : Prop := ∃ a, u.acc.armed = some a ∧ ∀ w, a.at? = some w → w ≤ u.now
  let effect (u t : State) : Prop := (u.acc.armed = none → t = u) ∧ ∀ a, u.acc.armed = some a →
    ((∃ w, a.at? = some w ∧ u.now < w) → t = u) ∧
    ((∀ w, a.at? = some w → w ≤ u.now) →
      let judged : State := { u with acc := { u.acc with armed := none } }
      let put (k : Nat) : Nat := ((u.acc.staged.filter (fun e => inScope a.scope e.1 && e.1 == k)).getLast?.map Prod.snd).getD (u.val k)
      let gen := [key R.gen_PREV_STATE 0, key R.gen_CURRENT 0, key R.gen_GEN_STATE 0, key R.gen_ADVANCED_SLOT 0, key R.ering_EVENTS_DISCARDED 0]
      (commitConflict judged a.scope a.at?.isNone = none →
        t.acc = { u.acc with armed := none, staged := u.acc.staged.filter (fun e => !inScope a.scope e.1) } ∧
        t.rd R.commit_STATUS 0 = 2 ∧ t.rd R.commit_APPLIED_SLOT 0 = u.slotNo ∧
        t.rd R.commit_COMMIT_COUNT 0 = (put (key R.commit_COMMIT_COUNT 0) + 1) % 2 ^ 32 ∧
        (∀ k, k ∉ [key R.commit_STATUS 0, key R.commit_APPLIED_SLOT 0, key R.commit_COMMIT_COUNT 0] →
          (judged.advances a.scope = true → k ∉ gen) → (∀ d, k ≠ key ⟨0x6020, 0x12⟩ d) → t.val k = put k) ∧
        (judged.advances a.scope = true → t.rd R.gen_CURRENT 0 = put (key R.gen_NEXT 0) ∧ t.rd R.gen_PREV_STATE 0 = 1 ∧
          t.rd R.gen_GEN_STATE 0 = 1 ∧ t.rd R.gen_ADVANCED_SLOT 0 = u.slotNo) ∧
        t.pending = u.pending ∧
        ∀ p : Part, p ≠ .acc → (judged.advances a.scope = true → p ≠ .ep ∧ p ≠ .out) → p.same u t) ∧
      (∀ k, commitConflict judged a.scope a.at?.isNone = some k →
        t.acc = { u.acc with armed := none } ∧ t.rd R.commit_STATUS 0 = 4 ∧ t.rd R.commit_CONFLICT_REF 0 = k ∧
        Only [.acc, .ep, .out] [key R.commit_STATUS 0, key R.commit_CONFLICT_REF 0, key R.ering_EVENTS_DISCARDED 0] u t))
  (∀ s : State, AtBoundary .commitTakeEffect s (due s.atNext) (fun t => ∃ v, v = s.writesTaken.takeCommit ∧ effect s.writesTaken v ∧
    t = v.slotBegins s.clk.slot)) ∧
  ∀ u : State, effect u u.takeCommit

/-- R439: the triple after the change. -/
def Obligations.TimeChangeAtItsBoundary : Prop :=
  let effect (s n : State) : Prop := ∀ ch : TimeChange, s.clk.change = some ch → ch.due s (s.nextCount % 2 ^ 64) = true →
    let b := s.nextCount % 2 ^ 64
    let t := stepTime (s.timeAt b) ch.step
    n.clk.change = none ∧ n.clk.count = b ∧ n.clk.slot = t / 65536 / 64 ∧ n.time.changed = true ∧
    n.rd R.invar_BASE 0 = b ∧ n.rd R.invar_OFFSET 0 = timeRaw t ∧ n.rd R.invar_RATE 0 = ch.rate ∧
    n.rd R.tchg_STATUS 0 = 2 ∧ n.rd R.tchg_APPLIED_COUNT 0 = b ∧ n.rd R.tchg_APPLIED_SLOT 0 = t / 65536 / 64 ∧
    n.rd R.invar_STEPS 0 = (if ch.step = 0 then s.rd R.invar_STEPS 0 else (s.rd R.invar_STEPS 0 + 1) % 2 ^ 32) ∧
    bit (n.rd R.invar_HOLD_CAUSE 0) 1 = false
  (∀ s : State, AtBoundary .timeChangeApply s (s.clk.change.isSome = true ∧ s.atNext.clk.change = none) (fun t =>
    ∃ e n, e = s.endSlot.snapshot ∧ n = e.advanceClock ∧ effect e n ∧
      t = ((n.fillBuckets.tenantsStopped.takeWrites).takeCommit).slotBegins s.clk.slot)) ∧
  ∀ s : State, effect s s.advanceClock

/-- R21: what begins with an epoch; R335, R361 and R362. -/
def Obligations.EpochBoundaryActions : Prop :=
  (∀ (s : State) (refs : List RefReading) (rxPpm rates : List (Nat × Int)) (adapts hits : List (Nat × Nat)), refs.length ≤ 4 →
    (s.clk.running = true → s.clk.epochDue = true →
      Does (.epochBoundary refs rxPpm rates adapts hits) s (fun u => ∃ v w,
        v.clk = { s.clk with epochDue := false, epoch := s.clk.slot / 16384, scans := [2, 9] } ∧
        (∀ x, x < 128 → mget 0 v.coll.countdown x =
          if s.rd R.src_REACT_STATE x = 1 then mget 0 s.coll.countdown x - 1 else mget 0 s.coll.countdown x) ∧
        Only [.clk, .coll, .lan] [] s v ∧ v.lan = { s.lan with margin := [], epochBin := [] } ∧
        w = (((v.each (onceEach adapts) (fun t e => t.keepsAdapting e.1 e.2)).each (onceEach hits) (fun t e => t.holdsAtBound e.1 e.2)).each
          (onceEach rxPpm) (fun t e => t.rxPpm e.1 e.2)).each (onceEach rates) (fun t e => t.ratePpb e.1 e.2) ∧
        ∃ x y, x = w.degradePorts.each (w.fnsIn .link stRunning) State.fillerEpoch ∧ y = x.each (List.range 8) State.d2dEpoch ∧
          u = (y.refEpoch refs).settleSwitch)) ∧
    (s.clk.running = false ∨ s.clk.epochDue = false → DoesNothing (.epochBoundary refs rxPpm rates adapts hits) s)) ∧
  (∀ (s : State) (lane rx hits : Nat), lane < 768 →
    let st := s.rd R.lane_TRAIN_STATE lane
    let u := s.holdsAtBound lane hits
    (st ≠ 5 → st ≠ 6 → s.keepsAdapting lane rx = s ∧ u = s) ∧
    (st = 5 ∨ st = 6 →
      (let v := s.keepsAdapting lane rx
       v.rd R.lane_RX_EQ lane = (if s.eqInBounds lane rx then
          setBits (rx / 2 ^ 42 * 2 ^ 42) 58 55 (bits (s.rd R.lane_RX_EQ lane) 58 55) else s.rd R.lane_RX_EQ lane) ∧ Only [] [key R.lane_RX_EQ lane] s v) ∧
      (∃ n, n ≤ hits ∧ n ≤ s.clk.slot + 1 - s.hitSlot lane ∧ u.rd R.lane_BOUND_HITS lane = (if n = 0 then s.rd R.lane_BOUND_HITS lane else (s.rd R.lane_BOUND_HITS lane + n) % 2 ^ 64) ∧
        (0 < n → u.hitSlot lane = s.clk.slot + 1)) ∧
      Only [.lan] [key R.lane_BOUND_HITS lane] s u)) ∧
  (∀ (l : List (Nat × Int)), (onceEach l).Pairwise (fun a b => a.1 ≠ b.1) ∧ (∀ e ∈ l, ∃ x ∈ onceEach l, x.1 = e.1) ∧ (onceEach l).Sublist l)

/-! ## Fabric scheduling -/

/-- R414. -/
def Obligations.RequestJoinsPending : Prop :=
  (∀ s : State, AtBoundary .request s (s.atNext.dueMsgs 1 ≠ []) (fun t => ∃ u v w, u = s.writesTaken.takeCommit.slotReady ∧
    v = u.addBudgets.actAccepts.actUnanswered.actWriteoff ∧ w = v.actOn (v.dueMsgs 1) (fun x m => x.actRequest m.src m.word) ∧
    t = ((w.runGrants.sendStanding.actStandings.runStreams.runStanding.runHeld.runGrantMsgs.sendRequests.buildSched).limitOnce u).slotDone
      s.clk.slot)) ∧
  (∀ (u : State) (m : SchedMsg), u.dueMsgs 1 = [m] → (u.actOn (u.dueMsgs 1) (fun x m => x.actRequest m.src m.word)) =
    ({ u with fab := { u.fab with msgs := u.fab.msgs.filter (· != m) } } : State).actRequest m.src m.word) ∧
  (∀ (u : State) (src w : Nat), 768 ≤ msgPort w ∨ bits w 46 43 = 0 → u.actRequest src w = u) ∧
  ∀ (u : State) (src w : Nat), msgPort w < 768 → bits w 46 43 ≠ 0 →
    let q := msgPort w * 8 + msgTc w
    let n := 2 ^ (bits w 46 43 - 1)
    ((u.reqs q).any (fun e => e.src == src && e.pending != 0) = true ∨ u.reqCount < 262144 →
      let t := u.actRequest src w
      (∀ e ∈ u.reqs q, e.src = src → 65535 < e.pending ∨ ∃ e' ∈ t.reqs q, e'.src = src ∧
        e'.pending = if bit w 42 then n else min 65535 (e.pending + n)) ∧
      ((∀ e ∈ u.reqs q, e.src ≠ src) → pendingOf t q src = n) ∧
      (∀ q' src', (q', src') ≠ (q, src) → pendingOf t q' src' = pendingOf u q' src') ∧ Only [.fab] [] u t) ∧
    ((u.reqs q).any (fun e => e.src == src && e.pending != 0) = false → 262144 ≤ u.reqCount →
      let t := u.actRequest src w
      t.rd R.fsch_REQ_TABLE_FULL 0 = (u.rd R.fsch_REQ_TABLE_FULL 0 + 1) % 2 ^ 64 ∧ Only [] [key R.fsch_REQ_TABLE_FULL 0] u t)

/-- R416, answers. -/
def Obligations.AcceptOrDecline : Prop :=
  (∀ s : State, AtBoundary .accept s (s.atNext.dueMsgs 3 ≠ []) (fun t => ∃ u v w, u = s.writesTaken.takeCommit.slotReady ∧
    v = u.addBudgets.actOn (u.addBudgets.dueMsgs 3) (fun x m => x.actAccept m.src m.word) ∧
    w = v.actUnanswered.actWriteoff.actRequests.runGrants.sendStanding ∧
    t = ((w.actStandings.runStreams.runStanding.runHeld.runGrantMsgs.sendRequests.buildSched).limitOnce u).slotDone s.clk.slot)) ∧
  (∀ (u : State) (m : SchedMsg), u.dueMsgs 3 = [m] → (u.actOn (u.dueMsgs 3) (fun x m => x.actAccept m.src m.word)) =
    ({ u with fab := { u.fab with msgs := u.fab.msgs.filter (· != m) } } : State).actAccept m.src m.word) ∧
  ∀ (u : State) (src w : Nat),
    let q := msgPort w * 8 + msgTc w
    let mine := u.fab.outs.find? (fun o => o.src == src && o.id == bits w 36 25 && o.q == q)
    (mine = none → u.actAccept src w = u) ∧
    (∀ o, mine = some o → o.accepted = none ∨ o.assumed = true →
      let t := u.actAccept src w
      (bits w 44 37 ≠ 0 → t.rd R.pgr_GRANTED_CELLS (q / 8) =
          (u.rd R.pgr_GRANTED_CELLS (q / 8) + bits w 44 37 + 2 ^ 64 - o.accepted.getD 0) % 2 ^ 64 ∧
        t.budget (q / 8) = u.budget (q / 8) ∧ Only [.fab] [key R.pgr_GRANTED_CELLS (q / 8)] u t) ∧
      (bits w 44 37 = 0 → t.rd R.pgr_GRANTED_CELLS (q / 8) =
          (u.rd R.pgr_GRANTED_CELLS (q / 8) + 2 ^ 64 - o.accepted.getD 0) % 2 ^ 64 ∧
        o ∉ t.fab.outs ∧ t.budget (q / 8) = min (u.budgetCap (q / 8)) (u.budget (q / 8) + o.cells * 64) ∧
        (o.iter = 1 ∨ o.iter = 2 → o.cells ≠ 0 → ∀ e ∈ u.reqs q, e.src = src → ∃ e' ∈ t.reqs q, e'.src = src ∧
          e'.pending = e.pending + o.cells) ∧
        (o.iter = 3 → pendingOf t q src = pendingOf u q src) ∧
        Only [.fab] [key R.pgr_GRANTED_CELLS (q / 8)] u t))

/-- R417. -/
def Obligations.GrantAtTheSource : Prop :=
  (∀ s : State, AtBoundary .grant s (s.atNext.dueMsgs 2 ≠ []) (fun t => ∃ u v w, u = s.writesTaken.takeCommit.slotReady ∧
    v = u.addBudgets.actAccepts.actUnanswered.actWriteoff.actRequests.runGrants.sendStanding.actStandings ∧
    w = v.runStreams.runStanding.runHeld ∧ t = ((w.runGrantMsgs.sendRequests.buildSched).limitOnce u).slotDone s.clk.slot)) ∧
  (∀ w : State,
    let live := (w.dueMsgs 2).filter (fun m => decide (w.slotNo ≤ m.due + 3))
    let acted := (w.actOn ((w.dueMsgs 2).filter (fun m => decide (m.due + 3 < w.slotNo))) (fun x _ => x)).actOn (live.take 512)
      (fun x m => x.actGrant m.src m.word m.due)
    w.runGrantMsgs = if 512 ≤ live.length then acted.bump R.fsch_GRANT_LIMIT_SLOTS 0 else acted) ∧
  (∀ (u : State) (src w due : Nat), u.grantedVoq src (msgPort w) (msgTc w) = none → u.rd R.gen_GEN_STATE 0 ≠ 0 →
    let t := u.actGrant src w due
    t.rd R.fsch_DECLINES_SENT 0 = (u.rd R.fsch_DECLINES_SENT 0 + 1) % 2 ^ 64 ∧
    t.fab.outbox = u.fab.outbox ++
      [(src, acceptWord (msgPort w) (msgTc w) (bits w 46 45) 0 (bits w 37 26) (u.slotNo + u.lead))] ∧
    t.fab.voqs = u.fab.voqs ∧ Only [.fab] [key R.fsch_DECLINES_SENT 0] u t) ∧
  ∀ (u : State) (src w due v : Nat), u.grantedVoq src (msgPort w) (msgTc w) = some v →
    let g := bits w 44 38
    let s0 := u.setVoq v { u.voq v with granted := u.slotNo }
    let port := if u.rd R.store_VOQ_MODE 0 = 0 then none else some (msgPort w)
    let covered := coverPkts g (s0.nearAhead v) port (s0.voqPkts v) 0
    let firstFits : Bool := match s0.voqPkts v with
      | (_, k) :: _ => s0.fits k true
      | [] => false
    (u.rd R.gen_GEN_STATE 0 = 0 → u.actGrant src w due = u) ∧
    (u.rd R.gen_GEN_STATE 0 ≠ 0 →
      s0.voqOpen v = false ∨ covered.1 = 0 ∨ firstFits = false ∨ (∃ h ∈ u.fab.held, h.voq = v) →
      let t := u.actGrant src w due
      t.rd R.fsch_DECLINES_SENT 0 = (u.rd R.fsch_DECLINES_SENT 0 + 1) % 2 ^ 64 ∧
      t.fab.outbox = u.fab.outbox ++
        [(src, acceptWord (msgPort w) (msgTc w) (bits w 46 45) 0 (bits w 37 26) (u.slotNo + u.lead))] ∧
      (t.voq v).rq = (u.voq v).rq - (if bits w 46 45 = 3 then g else 0) ∧ Only [.fab] [key R.fsch_DECLINES_SENT 0] u t) ∧
    (u.rd R.gen_GEN_STATE 0 ≠ 0 → s0.voqOpen v = true → covered.1 ≠ 0 → firstFits = true → (∀ h ∈ u.fab.held, h.voq ≠ v) →
      let r := releaseFit covered.1 v true s0
      let t := u.actGrant src w due
      t.rd R.fsch_ACCEPTS_SENT 0 = (r.2.rd R.fsch_ACCEPTS_SENT 0 + 1) % 2 ^ 64 ∧
      (t.voq v).rq = (r.2.voq v).rq - g ∧
      t.fab.outbox = r.2.fab.outbox ++ [(src, acceptWord (msgPort w) (msgTc w) (bits w 46 45) (min covered.2 (g + 64)) (bits w 37 26)
        (r.2.slotNo + r.2.lead))] ∧
      t.fab.held = r.2.fab.held ++ (if r.1 = 0 then [] else [⟨v, due, r.1⟩]))

/-- R419 at the source. -/
def Obligations.StandingAtTheSource : Prop :=
  (∀ s : State, AtBoundary .standing s (s.atNext.dueMsgs 4 ≠ []) (fun t => ∃ u v w, u = s.writesTaken.takeCommit.slotReady ∧
    v = u.addBudgets.actAccepts.actUnanswered.actWriteoff.actRequests.runGrants.sendStanding ∧
    w = v.actOn (v.dueMsgs 4) (fun x m => x.actStanding m.src m.word m.due) ∧
    t = ((w.runStreams.runStanding.runHeld.runGrantMsgs.sendRequests.buildSched).limitOnce u).slotDone s.clk.slot)) ∧
  (∀ (u : State) (m : SchedMsg), u.dueMsgs 4 = [m] → (u.actOn (u.dueMsgs 4) (fun x m => x.actStanding m.src m.word m.due)) =
    ({ u with fab := { u.fab with msgs := u.fab.msgs.filter (· != m) } } : State).actStanding m.src m.word m.due) ∧
  ∀ (u : State) (src w due : Nat),
    let p := msgPort w
    let tc := msgTc w
    let others := u.fab.standSrc.filter (fun x => !x.is src p tc)
    let new : StandSrc := ⟨src, p, tc, codeRate (bits w 46 43), bits w 42 35, max 1 (bits w 34 25), 0, due, u.slotNo⟩
    let t := u.actStanding src w due
    let holds (l : List StandSrc) : Prop := t.fab = { u.fab with standSrc := l } ∧ t.rd R.fsch_STANDING_HELD 0 = l.length ∧
      Only [.fab] [key R.fsch_STANDING_HELD 0] u t
    (bits w 42 35 = 0 → holds others) ∧
    (bits w 42 35 ≠ 0 → u.reachable src = true → u.fab.standSrc.find? (fun x => x.is src p tc) = none →
      (others.length < 4096 → holds (others ++ [new])) ∧
      (4096 ≤ others.length → t.rd R.fsch_STANDING_REFUSED 0 = (u.rd R.fsch_STANDING_REFUSED 0 + 1) % 2 ^ 32 ∧
        Only [] [key R.fsch_STANDING_REFUSED 0] u t)) ∧
    (bits w 42 35 ≠ 0 → u.reachable src = true → ∀ x, u.fab.standSrc.find? (fun x => x.is src p tc) = some x →
      x.rate = new.rate → x.cells = new.cells → x.period = new.period →
      holds (u.fab.standSrc.map (fun y => if y.is src p tc then { y with heard := u.slotNo } else y))) ∧
    (bits w 42 35 ≠ 0 → u.reachable src = true → ∀ x, u.fab.standSrc.find? (fun x => x.is src p tc) = some x →
      ¬(x.rate = new.rate ∧ x.cells = new.cells ∧ x.period = new.period) → holds (others ++ [new])) ∧
    (bits w 42 35 ≠ 0 → u.reachable src = false → t = u)

/-- R416, R417 and R426, what falls due at a slot. -/
def Obligations.GrantsFallDue : Prop :=
  (∀ s : State,
    let u := s.writesTaken.takeCommit.slotReady
    let rest (w : State) : State := w.actRequests.runGrants.sendStanding.actStandings.runStreams.runStanding
    let done (w : State) : State := ((w.runGrantMsgs.sendRequests.buildSched).limitOnce u).slotDone s.clk.slot
    AtBoundary .grantUnanswered s (s.atNext.unanswered ≠ []) (fun t => ∃ v, v = u.addBudgets.actAccepts.actUnanswered ∧
      t = done (rest v.actWriteoff).runHeld) ∧
    AtBoundary .grantWriteoff s (s.atNext.overdue ≠ []) (fun t => ∃ v, v = u.addBudgets.actAccepts.actUnanswered.actWriteoff ∧
      t = done (rest v).runHeld) ∧
    AtBoundary .windowEnd s ((∃ h ∈ s.atNext.fab.held, h.due + 3 ≤ s.atNext.slotNo) ∨ ∃ m ∈ s.atNext.dueMsgs 2, m.due + 3 < s.atNext.slotNo)
      (fun t => ∃ v, v = (rest u.addBudgets.actAccepts.actUnanswered.actWriteoff).runHeld ∧ t = done v)) ∧
  (∀ (u : State) (o : OutGrant), u.unanswered = [o] →
    let t := u.actUnanswered
    t.rd R.fsch_GRANTS_EXPIRED 0 = (u.rd R.fsch_GRANTS_EXPIRED 0 + 1) % 2 ^ 64 ∧
    t.rd R.pgr_GRANTED_CELLS (o.q / 8) = (u.rd R.pgr_GRANTED_CELLS (o.q / 8) + o.cells) % 2 ^ 64 ∧ t.unanswered = [] ∧
    Only [.fab] [key R.fsch_GRANTS_EXPIRED 0, key R.pgr_GRANTED_CELLS (o.q / 8)] u t) ∧
  (∀ u : State, let t := u.actWriteoff
    t.fab = { u.fab with outs := u.fab.outs.filter (fun o => !(o.accepted.isSome && decide (o.due + 35 < u.slotNo))) } ∧
    (∀ o, u.overdue = [o] →
      t.rd R.fsch_GRANT_WRITEOFF 0 = (u.rd R.fsch_GRANT_WRITEOFF 0 + (o.accepted.getD 0 - o.arrived)) % 2 ^ 64) ∧
    Only [.fab] [key R.fsch_GRANT_WRITEOFF 0] u t) ∧
  ∀ (u : State) (h : HeldGrant), u.fab.held = [h] →
    let there : Bool := u.unreachable (u.voqDest h.voq) == 0 && u.reachable (u.voqDest h.voq)
    (there = false → u.runHeld = { u with fab := { u.fab with held := [] } }) ∧
    (there = true → h.due + 3 ≤ u.slotNo →
    let r := releaseAll h.packets h.voq { u with fab := { u.fab with held := [] } }
    (0 < r.1 → r.2.stalledNow (voqKey h.voq) = true) ∧
    u.runHeld = if r.1 = 0 then r.2 else { r.2 with fab := { r.2.fab with held := r.2.fab.held ++ [{ h with packets := r.1 }] } })

/-- R413, R419 and R420 over time. -/
def Obligations.StandingOverTime : Prop :=
  ∀ (s : State) (d p tc v : Nat), d < 4096 → p < 1024 → tc < 8 → v < 1048576 →
    AtBoundary (.standingPeriod d p tc) s (∃ x ∈ s.atNext.fab.standSrc, x.is d p tc = true ∧ x.next ≤ s.atNext.slotNo) (fun t => ∃ u v,
      u = s.writesTaken.takeCommit.slotReady ∧
      v = u.addBudgets.actAccepts.actUnanswered.actWriteoff.actRequests.runGrants.sendStanding.actStandings.runStreams ∧
      t = ((v.runStanding.runHeld.runGrantMsgs.sendRequests.buildSched).limitOnce u).slotDone s.clk.slot) ∧
    s.beginPeriods = { s with fab := { s.fab with standSrc := s.fab.standSrc.map (fun x =>
        if x.next ≤ s.slotNo then
          { x with credit := (x.cells : Int), next := x.next + ((s.slotNo - x.next) / x.period + 1) * x.period } else x) } } ∧
    ((∀ x ∈ s.fab.standSrc, ∀ q, s.grantedVoq x.dest x.port x.tc = some q → s.voqPkts q = []) → s.runStanding = s.beginPeriods) ∧
    (∀ x ∈ s.fab.standSrc, 0 < x.period → x.next ≤ s.slotNo → s.slotNo < x.next + ((s.slotNo - x.next) / x.period + 1) * x.period) ∧
    Does (.standingLapse d p tc) s (fun u =>
      (∀ x, x ∈ u.fab.standSrc ↔ x ∈ s.fab.standSrc ∧ ¬(x.is d p tc = true ∧ x.heard + 32768 ≤ s.slotNo)) ∧
      u.rd R.fsch_STANDING_HELD 0 = u.fab.standSrc.length ∧ Only [.fab] [key R.fsch_STANDING_HELD 0] s u) ∧
    (0 < (s.voq v).rq → (s.voq v).granted + s.rd R.fsch_REQ_STALE 0 ≤ s.slotNo →
      Does (.reqStale v) s (fun u => (u.voq v).rq = 0 ∧ (u.voq v).reset = true ∧ (∀ v', v' ≠ v → u.voq v' = s.voq v') ∧ Only [.fab] [] s u)) ∧
    ((s.voq v).rq = 0 ∨ s.slotNo < (s.voq v).granted + s.rd R.fsch_REQ_STALE 0 → DoesNothing (.reqStale v) s)

/-- R425 and R427. -/
def Obligations.ReachStates : Prop :=
  ∀ (s : State) (d : Nat), d < 4096 →
    (s.coreOn = false → DoesNothing (.reachChange d) s) ∧
    (s.coreOn = true → s.unreachable d = 0 →
      Does (.reachChange d) s (fun u => u.rd R.reach_DEST_STATE d = 0 ∧ u.rd R.reach_CAUSE d = 0 ∧
        Only [] [key R.reach_DEST_STATE d, key R.reach_CAUSE d] s u)) ∧
    (s.coreOn = true → s.unreachable d ≠ 0 → s.rd R.reach_DEST_STATE d = 0 →
      Does (.reachChange d) s (fun u => u.rd R.reach_DEST_STATE d = 1 ∧ u.rd R.reach_HOLD_SINCE d = s.slotNo ∧
        u.rd R.reach_CAUSE d = s.unreachable d ∧ (∀ x ∈ u.fab.standSrc, x.dest ≠ d) ∧
        Only [.fab] [key R.reach_DEST_STATE d, key R.reach_HOLD_SINCE d, key R.reach_CAUSE d, key R.fsch_STANDING_HELD 0]
          (if (s.liveMembers d).isEmpty then (s.forgetSource d).dropUnrouted d else s) u)) ∧
    (s.rd R.reach_DEST_STATE d = 1 → s.rd R.fsch_HOLD_TIME 0 * 1000 ≤ (s.slotNo - s.rd R.reach_HOLD_SINCE d) * 64 →
      (s.wr R.reach_DEST_STATE d 2).voqsTo d = [] →
      Does (.holdTimeExpire d) s (fun u => u.rd R.reach_DEST_STATE d = 2 ∧ Only [] [key R.reach_DEST_STATE d] s u)) ∧
    (s.rd R.reach_DEST_STATE d = 1 → s.rd R.fsch_HOLD_TIME 0 * 1000 ≤ (s.slotNo - s.rd R.reach_HOLD_SINCE d) * 64 →
      Does (.holdTimeExpire d) s (fun u => ∃ v, v.rd R.reach_DEST_STATE d = 2 ∧ Only [] [key R.reach_DEST_STATE d] s v ∧
        u = v.each (v.voqsTo d) (fun t q =>
          let t1 := (t.discardQueue (voqKey q) 0x0B).add R.reach_DEST_LOST_PACKETS d (t.voqPkts q).length
          { t1 with fab := { t1.fab with held := t1.fab.held.filter (fun h => h.voq != q), voqs := mdel t1.fab.voqs q } }))) ∧
    ((s.slotNo - s.rd R.reach_HOLD_SINCE d) * 64 < s.rd R.fsch_HOLD_TIME 0 * 1000 → DoesNothing (.holdTimeExpire d) s)

/-! ## Writes of the dictionary -/

/-- R7, R36, R37 and R52: what the access codes mean for a write. -/
def Obligations.RegisterWriteByAccessCode : Prop :=
  ∀ (s : State) (who : Accessor) (index inst sub len val : Nat) (r : Row),
    let k := keyOf index inst sub
    let i : Instr := .registerWrite who index inst sub len val
    i.wf = true → rowOf k = some r → Accepted s who k len val →
    ((r.acc = .rw ∨ r.acc = .wo ∨ r.acc = .w1c) → actsNow k = false → s.clk.running = true → HoldsWrite i s who k len val []) ∧
    ((r.acc = .rw ∨ r.acc = .wo ∨ r.acc = .w1c) → actsNow k = false → s.clk.running = false →
      Does i s (fun u => ∃ v, v = s.takeEffect ⟨who.principal, k, maskValue k r val, triggerParams s k⟩ ∧ Answered v u daOk ∧
        Only [.acc] [key R.svc_REQUESTS 0] v u)) ∧
    (r.acc = .cmt → Does i s (fun u => Answered s u daOk ∧ Only [.acc] [key R.svc_REQUESTS 0] s u ∧
      mfind u.acc.staged k = (if maskValue k r val = s.val k then none else some (maskValue k r val)) ∧
      (∀ j, j ≠ k → mfind u.acc.staged j = mfind s.acc.staged j) ∧ u.acc.slotWrites = s.acc.slotWrites ∧ u.acc.stp = s.acc.stp)) ∧
    (r.acc = .stp → R.img_LOAD.has k = false → R.link_CREDITS.has k = false → R.port_PORT_MODE.has k = false → R.link_WIDTH.has k = false →
      R.link_LANE_MODE.has k = false → (s.stpOwner k).isSome = true →
      Does i s (fun u => Answered s u daOk ∧ Only [.acc] [key R.svc_REQUESTS 0] s u ∧
        mfind u.acc.stp k = some (maskValue k r val) ∧ (∀ j, j ≠ k → mfind u.acc.stp j = mfind s.acc.stp j) ∧
        u.acc.slotWrites = s.acc.slotWrites ∧ u.acc.staged = s.acc.staged)) ∧
    (r.acc = .stp → R.img_LOAD.has k = false → Does i s (fun u => ∃ v, v = s.applyStp who.principal k (maskValue k r val) ∧ Answered v u daOk ∧
      Only [.acc] [key R.svc_REQUESTS 0] v u ∧
      ((s.stpOwner k).isSome = true → R.link_CREDITS.has k = false →
        v = ({ s with acc := { s.acc with stp := mins s.acc.stp k (maskValue k r val) } } : State).moveLanes k (maskValue k r val)) ∧
      (s.stpOwner k = none → keyIndex k ≠ 0x4008 → R.link_CREDITS.has k = false → v = s.setVal k (maskValue k r val)))) ∧
    (r.acc = .otp → Does i s (fun u => Answered s u daOk ∧ u.rd R.settings_PROGRAM_STATUS inst = 1 ∧
      u.pwr = { s.pwr with programming := some (inst, recordBits (domOctets (maskValue k r val))) } ∧
      Only [.acc, .pwr] [key R.svc_REQUESTS 0, key R.settings_PROGRAM_STATUS inst] s u))

/-- R32 and R34 for a request of one entry. -/
def Obligations.RefusedWriteChangesNothing : Prop :=
  ∀ (s : State) (who : Accessor) (index inst sub len val : Nat),
    let k := keyOf index inst sub
    let st := s.checkWrite (s.overlay k val) who k len val
    let marks := [key R.svc_REQUESTS 0, key R.svc_LAST_ERROR_REF 0, key R.svc_LAST_ERROR_STATUS 0]
    (Instr.registerWrite who index inst sub len val).wf = true → st ≠ daOk →
    Does (.registerWrite who index inst sub len val) s (fun u =>
      Answered s u st ∧ u.rd R.svc_LAST_ERROR_REF 0 = k ∧ u.rd R.svc_LAST_ERROR_STATUS 0 = st ∧
      u.acc = { s.acc with lastStatus := st } ∧
      Only [.acc] (key R.commit_STATUS 0 :: key R.commit_CONFLICT_REF 0 :: key R.tchg_STATUS 0 :: marks) s u ∧
      (k ≠ key R.commit_TRIGGER 0 → k ≠ key R.tchg_ARM 0 → Only [.acc] marks s u))

/-- R32, steps 2 to 10. -/
def Obligations.WriteChecksInOrder : Prop :=
  ∀ (s : State) (who : Accessor) (k len v : Nat),
    let st := s.checkTo10 who k len v
    let may := (if isSelector k then s.hasRight who.principal (keyIndex k) 0
      else if needsControl k then s.hasRight who.principal (keyIndex k) 2
      else s.hasRight who.principal (keyIndex k) 1) && s.tenantAdmits who.principal k && !badPrincipal s who.principal k v
    let here := who.route ≠ 2 ∨ inSmbSubset (keyIndex k) = true
    (s.on R.princ_ENABLE who.principal = false → st = daPrincipal) ∧
    (s.on R.princ_ENABLE who.principal = true → objectExists k = false → st = daNoObject) ∧
    (s.on R.princ_ENABLE who.principal = true → objectExists k = true → rowOf k = none → st = daNoSub) ∧
    (∀ r, s.on R.princ_ENABLE who.principal = true → objectExists k = true → rowOf k = some r →
      (may = false → st = daPrincipal) ∧
      (may = true → r.acc = .ro → st = daAccess) ∧
      (may = true → r.acc ≠ .ro → here → badAccess s k = false →
        (s.served who k = false → st = daBusy) ∧
        (s.served who k = true → (firmwareServed k v = false ∨ s.firmware = true) → badBusy s k = false → r.acc ≠ .stp → r.acc ≠ .cmt →
          badState s k v = false → k / 0x100 / 0x10000 ≠ 0x8060 →
          let tooLong := R.link_PROXY_REQUEST.has k && proxyTooLong (domOctets v)
          (lengthBad r len = true ∨ tooLong = true → st = daLength) ∧
          (lengthBad r len = false → tooLong = false → inRange k r v s = false → st = daRange) ∧
          (lengthBad r len = false → tooLong = false → inRange k r v s = true → badRange s k v = false → st = daOk))))

/-- R34. -/
def Obligations.WriteRequestAllOrNothing : Prop :=
  ∀ (s : State) (who : Accessor) (es : List WEntry),
    (s.writeAll who es).1.length = es.length ∧
    ((∃ st ∈ (s.writeAll who es).1, st ≠ daOk) →
      let u := (s.writeAll who es).2
      let marks := [key R.svc_REQUESTS 0, key R.svc_LAST_ERROR_REF 0, key R.svc_LAST_ERROR_STATUS 0]
      u.acc.slotWrites = s.acc.slotWrites ∧ u.acc.staged = s.acc.staged ∧ u.acc.stp = s.acc.stp ∧ u.acc.armed = s.acc.armed ∧
      Only [.acc] (key R.commit_STATUS 0 :: key R.commit_CONFLICT_REF 0 :: key R.tchg_STATUS 0 :: marks) s u ∧
      (2 ≤ ((s.writeAll who es).1.filter (· != daOk)).length → Only [.acc] marks s u))

/-- R7 and R643 for every command that is a held write. -/
def Obligations.TriggersWaitForTheBoundary : Prop :=
  ∀ (s : State) (who : Accessor), who.ok = true → s.clk.running = true →
    (∀ (fn : Fn) (n : Nat), n < fnCount fn → let k := keyOf (fnIndex fn) n 2
      HoldsWrite (.stop who fn n) s who k (typeLen k) 1 [] ∧ HoldsWrite (.start who fn n) s who k (typeLen k) 2 [] ∧
      HoldsWrite (.powerOff who fn n) s who k (typeLen k) 3 []) ∧
    (∀ (event : Bool) (n : Nat), n < 65536 → let r := if event then R.ering_ENABLE else R.ring_ENABLE
      HoldsTrigger (.enable who event n) s who r n 1 ∧ HoldsTrigger (.disable who event n) s who r n 0 ∧
      HoldsTrigger (.resume who event n) s who r n 2) ∧
    HoldsTrigger (.timeSwitchNow who) s who R.invar_TIME_SWITCH_NOW 0 1 ∧
    (∀ pair detected, pair < 256 → HoldsWrite (.pairTest who pair detected) s who (key R.coll_PAIR_TEST 0) 1 pair [b2n detected]) ∧
    (∀ src val, src < 128 → val < 2 ^ 64 → HoldsTrigger (.ack who src val) s who R.src_ACK src val ∧
      HoldsTrigger (.force who src) s who R.src_FORCE src 1) ∧
    (∀ p, p < 2 → HoldsTrigger (.restart who p) s who R.pewter_RESTART p 1 ∧
      HoldsTrigger (.switchover who p) s who R.pewter_SWITCHOVER p 1) ∧
    (∀ d, d < 29 → HoldsTrigger (.domainOn who d) s who R.dom_POWER_REQUEST d 1 ∧
      HoldsTrigger (.domainOff who d) s who R.dom_POWER_REQUEST d 2) ∧
    HoldsTrigger (.deviceReset who) s who R.prst_DEVICE_RESET 0 1 ∧
    HoldsTrigger (.flashRead who) s who R.flash_CMD 0 1 ∧ HoldsTrigger (.flashProgram who) s who R.flash_CMD 0 2 ∧
    HoldsTrigger (.flashErase who) s who R.flash_CMD 0 3 ∧
    (∀ k, k < 8 → HoldsTrigger (.pageRetireClear who k) s who R.retire_CLEAR k 1 ∧ HoldsTrigger (.load who k) s who R.img_LOAD k 1 ∧
      HoldsTrigger (.switchNow who k) s who R.chip_SWITCH_NOW k 1) ∧
    (∀ t v, t < 26 → v < 256 → HoldsTrigger (.lock who t v) s who R.tmnt_LOCK t v) ∧
    HoldsTrigger (.boardTableLoad who) s who R.board_LOAD 0 1 ∧
    (∀ n v, n < 768 → v < 65536 → HoldsTrigger (.retrain who n) s who R.lane_RETRAIN n 1 ∧
      HoldsTrigger (.inject who n v) s who R.ltest_INJECT n v ∧ HoldsTrigger (.laneTestClear who n) s who R.ltest_CLEAR n 1 ∧
      HoldsTrigger (.fecClear who n) s who R.fec_CLEAR n 1 ∧ HoldsTrigger (.portCounterClear who n) s who R.pcnt_CLEAR n 1 ∧
      HoldsTrigger (.assign who n) s who R.link_ASSIGN n 1) ∧
    (∀ link bytes, link < 768 → bytes.length ≤ 256 → (∀ b ∈ bytes, b < 256) →
      HoldsWrite (.proxyRequest who link bytes) s who (key R.link_PROXY_REQUEST link) bytes.length (domOf bytes) []) ∧
    (∀ v, v < 256 → HoldsTrigger (.fence who v) s who R.fab_FENCE 0 v) ∧
    (∀ d sub v, d < 4096 → 1 ≤ sub → sub ≤ 3 → v < 2 ^ (8 * typeLen (keyOf 0x6008 d sub)) →
      HoldsWrite (.identityWrite who d sub v) s who (keyOf 0x6008 d sub) (typeLen (keyOf 0x6008 d sub)) v []) ∧
    (∀ g, g < 65536 → HoldsTrigger (.retire who g) s who R.gen_RETIRE 0 g ∧ HoldsTrigger (.adopt who g) s who R.gen_ADOPT 0 g) ∧
    (∀ d, d < 16 → HoldsTrigger (.trigger who d) s who R.dump_TRIGGER d 1) ∧
    (∀ g v, g < 8 → v < 2 ^ 32 → HoldsTrigger (.traceSeed who g v) s who R.gtel_TRACE_SEED g v)

/-- R45; with it COMMIT_NOW and COMMIT_AT (R42), ARM and CANCEL (R439, R440). -/
def Obligations.CommitAndTimeTriggers : Prop :=
  ∀ (s : State) (who : Accessor), who.ok = true →
    let ok (r : Reg) (v : Nat) : Prop := Accepted s who (key r 0) (typeLen (key r 0)) v
    let req := key R.svc_REQUESTS 0
    let done (u : State) : Prop := Answered s u daOk
    let scope := s.latest R.commit_SCOPE 0
    (ok R.commit_TRIGGER 1 → Does (.commitNow who) s (fun u => done u ∧ u.rd R.commit_STATUS 0 = 1 ∧
      u.acc = { s.acc with armed := some ⟨scope, none⟩, lastStatus := daOk } ∧ Only [.acc] [req, key R.commit_STATUS 0] s u)) ∧
    (ok R.commit_TRIGGER 2 → Does (.commitAt who) s (fun u => done u ∧ u.rd R.commit_STATUS 0 = 1 ∧
      u.acc = { s.acc with armed := some ⟨scope, some (timeOf (s.latest R.commit_COMMIT_AT 0))⟩, lastStatus := daOk } ∧
      Only [.acc] [req, key R.commit_STATUS 0] s u)) ∧
    (ok R.commit_TRIGGER 3 → s.acc.armed.isSome = true → Does (.abort who) s (fun u => done u ∧ u.rd R.commit_STATUS 0 = 5 ∧
      u.acc = { s.acc with armed := none, lastStatus := daOk } ∧ Only [.acc] [req, key R.commit_STATUS 0] s u)) ∧
    (ok R.commit_TRIGGER 3 → s.acc.armed = none → Does (.abort who) s (fun u => done u ∧ u.acc = { s.acc with lastStatus := daOk } ∧
      Only [.acc] [req] s u)) ∧
    (ok R.commit_TRIGGER 4 → Does (.discard who) s (fun u => done u ∧
      u.acc = { s.acc with staged := s.acc.staged.filter (fun e => !inScope scope e.1), lastStatus := daOk } ∧ Only [.acc] [req] s u)) ∧
    (s.acc.armed.isSome = true →
      Accepted { s with acc := { s.acc with armed := none } } who (key R.commit_TRIGGER 0) (typeLen (key R.commit_TRIGGER 0)) 4 →
      Does (.discard who) s (fun u => Answered s u daState ∧ u.acc = { s.acc with lastStatus := daState } ∧
        Only [.acc] [req, key R.svc_LAST_ERROR_REF 0, key R.svc_LAST_ERROR_STATUS 0] s u)) ∧
    (ok R.tchg_ARM 1 → Does (.arm who) s (fun u => done u ∧ u.rd R.tchg_STATUS 0 = 1 ∧
      (∃ c, u.clk.change = some c ∧ c.rate = s.latest R.tchg_NEW_RATE 0 ∧ c.step = sext 64 (s.latest R.tchg_OFFSET_STEP 0) ∧
        c.mode = s.latest R.tchg_APPLY_MODE 0 ∧ (c.mode = 0 → c.point = s.latest R.tchg_APPLY_COUNT 0) ∧
        (c.mode = 1 → c.point = timeOf (s.latest R.tchg_APPLY_TIME 0)) ∧ (1 < c.mode → c.point = s.now + 128 * 65536)) ∧
      u.clk = { s.clk with change := u.clk.change } ∧ Only [.acc, .clk] [req, key R.tchg_STATUS 0] s u)) ∧
    (ok R.tchg_ARM 2 → s.clk.change.isSome = true → Does (.cancel who) s (fun u => done u ∧ u.rd R.tchg_STATUS 0 = 4 ∧
      u.clk = { s.clk with change := none } ∧ Only [.acc, .clk] [req, key R.tchg_STATUS 0] s u)) ∧
    (ok R.tchg_ARM 2 → s.clk.change = none → Does (.cancel who) s (fun u => done u ∧ u.acc = { s.acc with lastStatus := daOk } ∧
      Only [.acc] [req] s u))

/-! ## Stoppable functions -/

/-- R50: the table of requests, at the boundary. -/
def Obligations.RequestsMoveFunctions : Prop :=
  ∀ (s : State) (who n : Nat) (f : Fn), n < fnCount f →
    let st := s.fnState f n
    let after (code : Nat) : State := s.takeEffect ⟨who, keyOf (fnIndex f) n 2, code, []⟩
    let moved (t : State) (v : Nat) : Prop := t.fnState f n = v ∧ t.val (keyOf (fnIndex f) n 3) = s.slotNo
    (∀ v, st ≠ v → moved (s.setFn f n v) v ∧ Only [.fns] [fnKey f n, keyOf (fnIndex f) n 3] s (s.setFn f n v)) ∧
    (s.fns.powering.contains (fnKey f n) = true → after 1 = s ∧ after 2 = s ∧ after 3 = s) ∧
    (s.fns.powering.contains (fnKey f n) = false →
      (st = stStopped ∨ st = stStopping → after 1 = s) ∧
      (st = stStarting ∨ st = stRunning → after 1 = ((s.stopMembers f n).setFn f n stStopping).stopActs f n ∧
        (s.activeMembers f n = [] → s.stopMembers f n = s)) ∧
      (st = stFaulted → fnDomain f n = none → after 1 = s.setFn f n stStopped) ∧
      (st = stOff → fnDomain f n = none → moved (after 1) stStopped ∧
        (f = .port → s.acc.kept.all (fun e => keyIndex e.1 != 0x2040) = true → ∀ b, 4 ≤ b → b < 256 →
          (after 1).val (keyOf 0x2040 n b) = dictDefault (keyOf 0x2040 n b))) ∧
      (st ≠ stStopped → after 2 = s ∧ after 3 = s) ∧
      (st = stStopped → s.startNeeds f n = true → s.startOk f n = true → ∃ (v : State) (m : Bool), after 2 = v.startActs f n m ∧
        v.fnState f n = stStarting ∧ v.fns.starter = mput 0 s.fns.starter (fnKey f n) who ∧
        ((s.takeStp f n).fnState f n = stStopped → v.val (keyOf (fnIndex f) n 3) = s.slotNo) ∧
        (msorted s.acc.stp = true → ∀ e ∈ s.acc.stp, s.stpOwner e.1 = some (f, n) → e.1 ≠ fnKey f n → e.1 ≠ keyOf (fnIndex f) n 3 →
          v.val e.1 = e.2 ∧ e ∉ v.acc.stp)) ∧
      (st = stStopped → s.startNeeds f n = true → s.startOk f n = false → (after 2).fnState f n = stStopped) ∧
      (st = stStopped → f = .port ∨ f = .link ∨ (f = .tenant ∧ s.activeMembers f n = []) → (after 3).fnState f n = stOff) ∧
      (st = stStopped → f = .tenant → s.activeMembers f n ≠ [] → (after 3).fnState f n = stStopped ∧
        (after 3).fns.powering.contains (fnKey f n) = true ∧ after 3 = { s.stopMembers f n with
          fns := { (s.stopMembers f n).fns with powering := fnKey f n :: (s.stopMembers f n).fns.powering } }))

/-- R50, R51, R54, R234 and R346: the ends of what a request began. -/
def Obligations.FunctionsComplete : Prop :=
  ∀ (s : State) (f : Fn) (n : Nat), n < fnCount f →
    let ended (u : State) : Prop := u.fnState f n = (if s.fns.faultAfter.contains (fnKey f n) then stFaulted else stStopped) ∧
      u.fns.faultAfter = s.fns.faultAfter.filter (· != fnKey f n)
    (s.fnState f n = stStarting → (f = .port → s.rd R.port_LINK_STATE n = 3) →
      Does (.startComplete f n true) s (fun u => ∃ v, u = v.runActs f n ∧ v.fnState f n = stRunning ∧
        v.val (keyOf (fnIndex f) n 3) = s.slotNo ∧ Only [] [fnKey f n, keyOf (fnIndex f) n 3] s v ∧
        u.fnState f n = stRunning ∧ u.val (keyOf (fnIndex f) n 3) = s.slotNo ∧
        (f = .port ∨ f = .tenant ∨ f = .carve ∨ (f = .table ∧ n ≠ 7) → u = v) ∧ (f = .chiplet → u.rd R.d2d_LINK_STATE n = 2))) ∧
    (s.fnState f n = stStarting → f = .port → s.rd R.port_LINK_STATE n ≠ 3 → DoesNothing (.startComplete f n true) s) ∧
    (s.fnState f n = stStarting →
      Does (.startComplete f n false) s (fun u => u.fnState f n = stStopped ∧ ∃ v, u = v.startUndone f n ∧ v.fnState f n = stStopped ∧
        ∃ p, Only [.ep, .out] [fnKey f n, keyOf (fnIndex f) n 3, key R.ering_EVENTS_DISCARDED p] s v)) ∧
    (s.fnState f n ≠ stStarting → ∀ ok, DoesNothing (.startComplete f n ok) s) ∧
    (s.fnState f n = stStopping → s.drained f n = true → Does (.stopComplete f n) s (fun u => ended u ∧
      (f = .chiplet → u.rd R.chip_REF_IN_USE n = 0xFF ∧ u.rd R.d2d_LINK_STATE n = 0))) ∧
    (s.fnState f n = stStopping → s.drained f n = false → DoesNothing (.stopComplete f n) s) ∧
    (s.fnState f n ≠ stStopping → DoesNothing (.stopComplete f n) s ∧ DoesNothing (.stopLimit f n) s) ∧
    (let due (g : Fn) (m : Nat) : Prop := s.fnState g m = stStopping ∧ s.past (mget 0 s.fns.stopTick (fnKey g m) - 1) (ticksMs 100) = true
     (¬due f n → DoesNothing (.stopLimit f n) s) ∧
     (due f n → Does (.stopLimit f n) s (fun u =>
      u.fnState f n = (if s.fns.faultAfter.contains (fnKey f n) then stFaulted else stStopped) ∧ fnKey f n ∉ u.fns.faultAfter ∧
      (s.activeMembers f n = [] → ended u) ∧
      (∀ x ∈ s.activeMembers f n, due x.1 x.2 →
        u.fnState x.1 x.2 = (if s.fns.faultAfter.contains (fnKey x.1 x.2) then stFaulted else stStopped)) ∧
      (∀ x ∈ s.activeMembers f n, ¬due x.1 x.2 → u.fnState x.1 x.2 = s.fnState x.1 x.2) ∧
      (f = .port → mfind u.prt.txEnd n = none) ∧ (f = .group → ∀ p, portGroup p = n → mget [] u.pip.atEgress p = [])))) ∧
    (s.fns.powering.contains (fnKey f n) = true → f = .table → s.writersOf n = [] →
      Does (.powerOffComplete f n) s (fun u => u.fnState f n = stOff ∧ u.fns.powering.contains (fnKey f n) = false ∧
        Only [.fns] [fnKey f n, keyOf (fnIndex f) n 3] s u)) ∧
    (s.fns.powering.contains (fnKey f n) = true → f = .tenant → s.activeMembers f n = [] →
      Does (.powerOffComplete f n) s (fun u => u = s.tenantGone n ∧ u.fnState f n = stOff ∧
        u.fns.powering.contains (fnKey f n) = false)) ∧
    ((f ≠ .table ∧ f ≠ .tenant) ∨ s.fns.powering.contains (fnKey f n) = false ∨ (f = .table ∧ s.writersOf n ≠ []) ∨
      (f = .tenant ∧ s.activeMembers f n ≠ []) → DoesNothing (.powerOffComplete f n) s) ∧
    (f = .chiplet → s.rd R.d2d_LINK_STATE n ≠ 1 ∨ s.fnState .chiplet n ≠ stRunning → ∀ a b, DoesNothing (.d2dRetrainDone n a b) s) ∧
    (f = .chiplet → s.rd R.d2d_LINK_STATE n = 1 → s.fnState .chiplet n = stRunning →
      Does (.d2dRetrainDone n true true) s (fun u => u.rd R.d2d_LINK_STATE n = 2 ∧ (u.d2d n).failed = 0 ∧
        Only [.lan] [key R.d2d_LINK_STATE n] s u) ∧
      (∀ a b, (a && b) = false → (s.d2d n).failed + 1 < 3 → Does (.d2dRetrainDone n a b) s (fun u => (u.d2d n).failed = (s.d2d n).failed + 1 ∧
        u.rd R.d2d_RETRAINS n = (s.rd R.d2d_RETRAINS n + 1) % 2 ^ 32 ∧ Only [.lan] [key R.d2d_RETRAINS n] s u)) ∧
      (∀ a b, (a && b) = false → 3 ≤ (s.d2d n).failed + 1 → Does (.d2dRetrainDone n a b) s (fun u => u = s.d2dDown n)))

/-! ## Host endpoint: doorbells, rings, reads, freezes, windows -/

/-- R533, R539, R542 and R543. -/
def Obligations.Doorbells : Prop :=
  ∀ (s : State) (pf n v : Nat), pf < 2 → n < 256 → v < 2 ^ 64 →
    let tags := [key R.ep_TAGS_OUT 0, key R.ep_TAGS_HWM 0]
    let x := s.ring n
    let told (vec : Nat) (u : State) : Prop :=
      if (s.conf pf).hides vec = true then (pf, vec) ∈ u.ep.pendingBits else .msix pf vec ∈ u.out
    (s.ringCfg R.ring_FUNCTION n ≠ pf ∨ s.rd R.ring_RING_STATE n = 0 ∨ s.barServed = false → DoesNothing (.ringDb pf n v) s) ∧
    (s.ringCfg R.ring_FUNCTION n = pf → s.rd R.ring_RING_STATE n ≠ 0 → s.barServed = true →
      (s.ringCfg R.ring_ENTRIES n < (v % 2 ^ 32 + 2 ^ 32 - x.head) % 2 ^ 32 → Does (.ringDb pf n v) s (fun u =>
        u.rd R.ring_RING_STATE n = 2 ∧ u.rd R.ring_STOP_CAUSE n = 6 ∧ u.ring n = { x with fetching := false, buf := none } ∧
        Only [.ep, .out, .pip] (key R.ring_RING_STATE n :: key R.ring_STOP_CAUSE n :: key R.ering_EVENTS_DISCARDED 0 :: tags) s u)) ∧
      ((v % 2 ^ 32 + 2 ^ 32 - x.head) % 2 ^ 32 ≤ s.ringCfg R.ring_ENTRIES n → Does (.ringDb pf n v) s (fun u =>
        let fires := s.ringRuns n && s.masters pf && (x.armed || bit v 63) && x.waiting && decide (x.holdUntil ≤ s.clk.ticks)
        (u.ring n).prod = v % 2 ^ 32 ∧ (u.ring n).head = x.head ∧ (u.ring n).armed = ((x.armed || bit v 63) && !fires) ∧
        (u.ring n).waiting = (x.waiting && !fires) ∧
        (fires = true → s.msix pf = true → told (s.ringCfg R.ring_VECTOR n) u) ∧
        Only [.ep, .out] (key R.ering_EVENTS_DISCARDED pf :: tags) s u))) ∧
    (n < 64 → s.evCfg R.ering_LOCATION n ≠ pf ∨ s.rd R.ering_STATE n = 0 ∨ s.barServed = false → DoesNothing (.eventDb pf n v) s) ∧
    (n < 64 → s.evCfg R.ering_LOCATION n = pf → s.rd R.ering_STATE n ≠ 0 → s.barServed = true → Does (.eventDb pf n v) s (fun u =>
      let fires := bit v 63 && (s.ev n).prod != v % 2 ^ 32 && s.msix pf && s.masters pf && s.rd R.ering_STATE n == 1
      (u.ev n).cons = v % 2 ^ 32 ∧ (fires = true → told (s.evCfg R.ering_VECTOR n) u) ∧
      ((s.ev n).lost = 0 → (u.ev n).armed = (((s.ev n).armed || bit v 63) && !fires) ∧
        (u.ev n).prod = (s.ev n).prod) ∧ Only [.ep, .out] [] s u))

/-- R532 and R547. -/
def Obligations.RingRequestsMoveRings : Prop :=
  ∀ (s : State) (who n : Nat) (cfg : List Nat), n < 256 →
    let ring (code : Nat) : State := s.takeEffect ⟨who, key R.ring_ENABLE n, code, cfg⟩
    let ev (code : Nat) : State := s.takeEffect ⟨who, key R.ering_ENABLE n, code, cfg⟩
    let st := s.rd R.ring_RING_STATE n
    let es := s.rd R.ering_STATE n
    let moved (u : State) (v : Nat) : Prop := u.rd R.ring_RING_STATE n = v ∧ u.rd R.ring_STOP_CAUSE n = 0
    let keys := [key R.ring_RING_STATE n, key R.ring_STOP_CAUSE n, key R.ep_TAGS_OUT 0, key R.ep_TAGS_HWM 0]
    (moved (ring 0) 0 ∧ (ring 0).ring n = RingSt.idle ∧ (∀ x ∈ (ring 0).ep.reads, x.engine ≠ n) ∧
      ((s.ring n).progress = 0 → Only [.ep, .pip] keys s (ring 0))) ∧
    (st = 0 → moved (ring 1) 1 ∧ (ring 1).ring n = { RingSt.idle with cfg := cfg } ∧ Only [.ep] keys s (ring 1)) ∧
    (st ≠ 0 → ring 1 = s) ∧
    (st = 2 ∨ st = 3 → s.masters (s.ringCfg R.ring_FUNCTION n) = true → moved (ring 2) 1 ∧ ((ring 2).ring n).head = (s.ring n).head ∧
      ((ring 2).ring n).prod = (s.ring n).prod ∧
      ((ring 2).ring n).armed = ((s.ring n).armed && !((s.ring n).waiting && decide ((s.ring n).holdUntil ≤ s.clk.ticks))) ∧
      (ring 2).ep.returned = false ∧ Only [.ep, .out]
        (key R.ering_EVENTS_DISCARDED 0 :: key R.ering_EVENTS_DISCARDED (s.ringCfg R.ring_FUNCTION n) :: keys) s (ring 2)) ∧
    ((st ≠ 2 ∧ st ≠ 3) ∨ s.masters (s.ringCfg R.ring_FUNCTION n) = false → ring 2 = s) ∧
    (n < 64 →
      ((ev 0).rd R.ering_STATE n = 0 ∧ (ev 0).ev n = { EvSt.idle with lost := (s.ev n).lost } ∧
        Only [.ep, .out] [key R.ering_STATE n] s (ev 0)) ∧
      (es = 0 → (ev 1).rd R.ering_STATE n = 1 ∧ ((ev 1).ev n).cons = 0 ∧ ((ev 1).ev n).cfg = cfg ∧
        ((s.ev n).lost = 0 → (ev 1).ev n = { EvSt.idle with cfg := cfg }) ∧
        Only [.ep, .out] [key R.ering_STATE n] s (ev 1)) ∧
      (es ≠ 0 → ev 1 = s) ∧
      (es = 2 ∨ es = 3 → s.masters (s.evCfg R.ering_LOCATION n) = true → (ev 2).rd R.ering_STATE n = 1 ∧ ((ev 2).ev n).cons = (s.ev n).cons ∧
        Only [.ep, .out] [key R.ering_STATE n, key R.ering_EVENTS_DISCARDED 0] s (ev 2)) ∧
      ((es ≠ 2 ∧ es ≠ 3) ∨ s.masters (s.evCfg R.ering_LOCATION n) = false → ev 2 = s))

/-- R534 to R537 and R539. -/
def Obligations.RingsCarryPackets : Prop :=
  ∀ (s : State) (n : Nat), n < 256 →
    let tags := [key R.ep_TAGS_OUT 0, key R.ep_TAGS_HWM 0]
    let x := s.ring n
    (∀ (descs : List (List Nat)) (data : List Nat), descs ≠ [] → descs.length ≤ 16 → (∀ d ∈ descs, d.length = 4 ∧ ∀ w ∈ d, w < 2 ^ 64) →
      (∀ b ∈ data, b < 256) → (txCheck (packetDescs descs) ≠ 0 ∨ data.length = txTotal (packetDescs descs)) →
      let c : Instr := .txFetchComplete n descs data
      let ds := packetDescs descs
      let port := bits ((ds.headD []).getD 1 0) 43 34
      let pipe := s.ringCfg R.ring_TX_PIPE n
      let read := s.completeReads n (s.ringCfg R.ring_FUNCTION n)
      (s.ringRuns n = false ∨ x.fetching = false ∨ (∀ r ∈ s.ep.reads, r.engine ≠ n) ∨ s.ringLeft n < descs.length → DoesNothing c s) ∧
      (s.ringRuns n = true → x.fetching = true → (∃ r ∈ s.ep.reads, r.engine = n) → descs.length ≤ s.ringLeft n →
        (txCheck ds = 1 ∨ (s.ringCfg R.ring_TX_MODE n = 1 ∧ 768 ≤ port) → Does c s (fun u =>
          u.rd R.ring_RING_STATE n = 2 ∧ u.rd R.ring_STOP_CAUSE n = 5 ∧
          u.ring n = { x with fetching := false, buf := none, waitGroup := none } ∧
          Only [.ep, .out, .pip] (key R.ring_RING_STATE n :: key R.ring_STOP_CAUSE n :: key R.ering_EVENTS_DISCARDED 0 :: tags) s u)) ∧
        (txCheck ds = 2 → s.ringCfg R.ring_TX_MODE n ≠ 1 → Does c s (fun u => (u.ring n).head = x.head ∧ (u.ring n).prod = x.prod ∧
          Only [.ep, .out] tags s u)) ∧
        (txCheck ds = 0 → s.ringCfg R.ring_TX_MODE n ≠ 1 → Does c s (fun u =>
          (u.pipe pipe).host = (s.pipe pipe).host ++ [(ds.length * 256 + n,
            ⟨data ++ toLE 4 (crc32 0xFFFFFFFF data), 1, s.ringCfg R.ring_TX_PORT n, stamp48 s.now, true, true, false, 0, [], 0, 0, none, 0, 0⟩)] ∧
          u.ring n = { x with waitGroup := none } ∧ Only [.ep, .out, .pip] tags s u)) ∧
        (txCheck ds = 0 → s.ringCfg R.ring_TX_MODE n = 1 → port < 768 → s.grpRuns (portGroup port) = true → Does c s (fun u =>
          u = (((read.setRing n { x with waitGroup := none }).readBuffers n ds).txDirect n ds.length (ds.headD []) (txFrame data)).pumpReads)) ∧
        (txCheck ds ≠ 1 → s.ringCfg R.ring_TX_MODE n = 1 → port < 768 → txCheck ds = 2 ∨ s.grpRuns (portGroup port) = false →
          Does c s (fun u => (u.ring n).head = x.head ∧ (u.ring n).prod = x.prod ∧ Only [.ep, .out] tags s u)))) ∧
    (∀ found, found < 4 → s.rxReady n = false → DoesNothing (.rxDeliver ⟨n, found⟩) s) ∧
    (s.rxReady n = true → Does (.rxDeliver ⟨n, 3⟩) s (fun u => (u.queue (hostKey n)).ents = [] ∧ (u.ring n).progress = 0 ∧
      (u.ring n).head = x.head)) ∧
    (∀ b found, s.rxReady n = true → x.buf = some b → found < 3 → Does (.rxDeliver ⟨n, found⟩) s (fun u => ∃ v, v = s.closeBuf n ∧
      (v.ring n).buf = none ∧ (v.ring n).head = (x.head + 1) % 2 ^ 32 ∧ (v.ringLeft n = 0 → u = v) ∧
      (v.ringLeft n ≠ 0 → ∀ e p, (v.queue (hostKey n)).ents.head? = some e → v.pkt? e.pid = some p → u = v.rxFill n found e p))) ∧
    (s.rxReady n = true → x.buf = none → ∀ e p found, found < 3 → (s.queue (hostKey n)).ents.head? = some e → s.pkt? e.pid = some p →
      let r := e.reads p
      let bytes := s.rxBytes r e (r.bad || badNear ((s.queue (hostKey n)).head.take r.cells))
      let part := (bytes.drop x.progress).take (s.ringCfg R.ring_BUF_SIZE n)
      Does (.rxDeliver ⟨n, found⟩) s (fun u => u = s.rxFill n found e p ∧
        (found = 0 → x.progress ≠ 0 → x.progress + part.length < bytes.length →
          (u.ring n).progress = x.progress + part.length ∧ (u.ring n).head = (x.head + 1) % 2 ^ 32 ∧
          .ringData n (x.head % s.ringCfg R.ring_ENTRIES n) 0 part ∈ u.out ∧
          Only [.ep, .out] [key R.ering_EVENTS_DISCARDED (s.ringCfg R.ring_FUNCTION n)] s u))) ∧
    (∀ b, x.buf = some b → s.ringRuns n = true → s.past b.lastTick (ticksUs (s.ringCfg R.ring_RX_HOLD n)) = true →
      Does (.rxHoldExpire n) s (fun u => (u.ring n).buf = none ∧ (u.ring n).head = (x.head + 1) % 2 ^ 32 ∧
        .ringStatus n (x.head % s.ringCfg R.ring_ENTRIES n) (2 ^ 63 + b.kind * 2 ^ 57 + b.length * 2 ^ 42 + b.records * 2 ^ 26) ∈ u.out ∧
        Only [.ep, .out] [key R.ering_EVENTS_DISCARDED (s.ringCfg R.ring_FUNCTION n)] s u)) ∧
    ((∀ b, x.buf = some b → s.past b.lastTick (ticksUs (s.ringCfg R.ring_RX_HOLD n)) = false) → DoesNothing (.rxHoldExpire n) s) ∧
    (s.ringRuns n = true → s.masters (s.ringCfg R.ring_FUNCTION n) = true → x.armed = true → x.waiting = true → x.holdUntil ≤ s.clk.ticks →
      Does (.intHoldoffExpire n) s (fun u =>
      u.ring n = { x with armed := false, waiting := false, holdUntil := s.clk.ticks + ticksUs (s.ringCfg R.ring_INT_HOLDOFF n) } ∧
      (s.msix (s.ringCfg R.ring_FUNCTION n) = true → (s.conf (s.ringCfg R.ring_FUNCTION n)).hides (s.ringCfg R.ring_VECTOR n) = false →
        Puts [.msix (s.ringCfg R.ring_FUNCTION n) (s.ringCfg R.ring_VECTOR n)] s u) ∧
      Only [.ep, .out] [key R.ering_EVENTS_DISCARDED (s.ringCfg R.ring_FUNCTION n)] s u)) ∧
    (s.ringRuns n = false ∨ s.masters (s.ringCfg R.ring_FUNCTION n) = false ∨ x.armed = false ∨ x.waiting = false ∨ s.clk.ticks < x.holdUntil →
      DoesNothing (.intHoldoffExpire n) s)

/-- R523, R545, R546, R547 and R593. -/
def Obligations.EndpointFailsAndReturns : Prop :=
  ∀ s : State,
    (∀ (tag : Nat) (x : ReadRec), tag < 4096 → s.ep.reads.find? (fun r => r.tag == tag) = some x →
      let ended (cause : Nat) (u : State) : Prop := u.ep.aer = cause :: s.ep.aer ∧
        (x.engine < 256 → u.rd R.ring_RING_STATE x.engine = 2 ∧ u.rd R.ring_STOP_CAUSE x.engine = cause ∧
          (u.ring x.engine).head = (s.ring x.engine).head ∧ (u.ring x.engine).prod = (s.ring x.engine).prod) ∧
        (256 ≤ x.engine → x.engine < 264 → u.rd R.img_STATUS (x.engine - 256) = 8 ∧ mfind u.pip.loading (x.engine - 256) = none) ∧
        (x.engine = 264 → u.rd R.board_STATUS 0 = 7) ∧ u.acc = s.acc ∧ u.sto = s.sto ∧ u.tab = s.tab
      (∀ cause, 2 ≤ cause → cause ≤ 4 → Does (.cplError tag cause) s (ended cause)) ∧
      ((s.readConf x).cplTimeoutOff = false → s.past x.since (ticksUs (s.readConf x).cplTimeout) = true → Does (.cplTimeout tag) s (fun u => ended 1 u ∧
        u.rd R.ep_CPL_TIMEOUTS 0 = (s.rd R.ep_CPL_TIMEOUTS 0 + 1) % 2 ^ 32)) ∧
      ((s.readConf x).cplTimeoutOff = true ∨ s.past x.since (ticksUs (s.readConf x).cplTimeout) = false → DoesNothing (.cplTimeout tag) s)) ∧
    (∀ tag, tag < 4096 → (∀ r ∈ s.ep.reads, r.tag ≠ tag) → DoesNothing (.cplTimeout tag) s ∧
      ∀ cause, 2 ≤ cause → cause ≤ 4 → DoesNothing (.cplError tag cause) s) ∧
    (∀ fn, fn < 2 → Does (.functionLevelReset fn) s (fun u => u.conf fn = FnConf.reset ∧
      (∀ o ∈ u.remote.ops, ∀ tag words, o.owner ≠ .mailbox fn tag words) ∧
      u.conf (1 - fn) = s.conf (1 - fn) ∧ u.sto = s.sto ∧
        (fn = 0 → u.acc = { s.acc with mb0 := s.acc.mb0.abandon }) ∧ (fn = 1 → u.acc = { s.acc with mb1 := s.acc.mb1.abandon }) ∧
        (∀ n, n < 256 → (s.ringCfg R.ring_FUNCTION n = fn → u.rd R.ring_RING_STATE n = 0 ∧ u.ring n = RingSt.idle) ∧
          (s.ringCfg R.ring_FUNCTION n ≠ fn → u.rd R.ring_RING_STATE n = s.rd R.ring_RING_STATE n ∧ u.ring n = s.ring n)) ∧
        (∀ p, p < 64 → s.evCfg R.ering_LOCATION p = fn → u.rd R.ering_STATE p = 0))) ∧
    (let frozen (u : State) : Prop := u.ep.linkUp = false ∧ u.ep.accepting = false ∧ u.ep.reads = [] ∧ u.rd R.ep_ENDPOINT_STATE 0 = 0 ∧
        u.rd R.ep_TAGS_OUT 0 = 0 ∧ u.acc = s.acc ∧ u.remote = s.remote ∧
        (s.ep.linkUp = true → u.rd R.ep_FREEZES 0 = (s.rd R.ep_FREEZES 0 + 1) % 2 ^ 32 ∧ u.ep.frozenRings = s.freezable) ∧
        (∀ n, n < 256 → s.rd R.ring_RING_STATE n = 1 → u.rd R.ring_RING_STATE n = 3 ∧ (u.ring n).head = (s.ring n).head ∧
          (u.ring n).prod = (s.ring n).prod ∧ (u.ring n).buf = none);
      Does .endpointFreeze s frozen ∧ Does .perstAssert s (fun u => frozen u ∧ u.ep.perstLow = true)) ∧
    Does .perstRelease s (fun u => u.ep = { s.ep with perstLow := false } ∧ Only [.ep] [] s u) ∧
    (∀ m : Mailbox, m.abandon.busy = false ∧ m.abandon.done = false ∧ m.abandon.rejected = false ∧ m.abandon.tag = 0) ∧
    (∀ fn d3hot, fn < 2 → Does (.functionFreeze ⟨fn, d3hot⟩) s (fun u =>
      u.conf fn = (if d3hot = true then { s.conf fn with d3hot := true } else { s.conf fn with busMaster := false }) ∧
      u.rd R.ep_FREEZES 0 = (s.rd R.ep_FREEZES 0 + 1) % 2 ^ 32 ∧
      u.ep.linkUp = s.ep.linkUp ∧ u.acc = s.acc ∧
      ∀ n, n < 256 → s.rd R.ring_RING_STATE n = 1 → (s.ringCfg R.ring_FUNCTION n = fn → u.rd R.ring_RING_STATE n = 3) ∧
        (s.ringCfg R.ring_FUNCTION n ≠ fn → u.rd R.ring_RING_STATE n = 1 ∧ u.ring n = s.ring n))) ∧
    (∀ cfg : LinkConfig, cfg.ok = true →
      (s.domOn 3 = true → s.ep.perstLow = false → s.ep.linkUp = false → Does (.endpointResumed (.trained cfg)) s (fun u => u.ep.linkUp = true ∧
        u.rd R.ep_ENDPOINT_STATE 0 = 1 ∧ u.rd R.ep_LINK_SPEED 0 = min cfg.speed (s.rd R.ep_MAX_SPEED 0) ∧ u.rd R.ep_LINK_WIDTH 0 = cfg.width ∧
        u.conf 0 = FnConf.reset ∧ u.conf 1 = FnConf.reset ∧ u.ep.returned = s.ep.upOnce ∧ u.ep.rings = s.ep.rings ∧
        Only [.ep, .out] [key R.ep_ENDPOINT_STATE 0, key R.ep_LINK_SPEED 0, key R.ep_LINK_WIDTH 0] s u)) ∧
      (s.domOn 3 = false ∨ s.ep.perstLow = true ∨ s.ep.linkUp = true → DoesNothing (.endpointResumed (.trained cfg)) s)) ∧
    (∀ c0 c1 : FnConf, (LinkEvent.configured c0 c1).ok = true →
      (s.ep.linkUp = false → DoesNothing (.endpointResumed (.configured c0 c1)) s) ∧
      (s.ep.linkUp = true → Does (.endpointResumed (.configured c0 c1)) s (fun u => u.conf 0 = c0 ∧ u.conf 1 = c1 ∧ u.ep.linkUp = true ∧
        u.acc = s.acc ∧ ∀ n, n < 256 → s.ringCfg R.ring_FUNCTION n < 2 →
          let fn := s.ringCfg R.ring_FUNCTION n
          let stops : Bool := s.masters fn && !u.masters fn
          (stops = true → s.rd R.ring_RING_STATE n = 1 → u.rd R.ring_RING_STATE n = 3) ∧
          (stops = false → u.rd R.ring_RING_STATE n = s.rd R.ring_RING_STATE n ∧ u.ring n = s.ring n))))

/-- R208 to R210, R527 and R528. -/
def Obligations.WindowsReadAndWrite : Prop :=
  ∀ (s : State) (pf offset : Nat), pf < 2 → offset < 2 ^ 36 →
    let n := offset / 2 ^ 28
    let a := s.winOffset offset
    let t := s.rd R.win_TARGET n
    (∀ len errs, 0 < len → len ≤ 4096 → offset % 2 ^ 28 + len ≤ 2 ^ 28 →
      let c : Instr := .bar2Read pf offset len errs
      (s.ep.accepting = false → DoesNothing c s) ∧
      (s.ep.accepting = true → s.winServes pf offset len = false →
        Does c s (fun u => Puts [.completion pf 0 false (List.replicate len 0)] s u ∧ Only [.out] [] s u)) ∧
      (s.ep.accepting = true → s.winServes pf offset len = true →
        ((∃ x ∈ s.winFar n a len, s.stackUp (farStack x) = false) → Does c s (fun u => Puts [.completion pf 4 false []] s u ∧ Only [.out] [] s u)) ∧
        ((∀ x ∈ s.winFar n a len, s.stackUp (farStack x) = true) → Does c s (fun u =>
          (s.winFar n a len = [] → Puts [.completion pf 0 false (s.winBytes n a len)] s u ∧ Only [.out, .tab] [] s u) ∧
          (s.winFar n a len ≠ [] →
            u = (s.strike errs).openRead ⟨pf, s.rd R.win_TARGET_KIND n, t, a, len, s.winFar n a len⟩ ∧ Only [.tab] [] s (s.strike errs)))))) ∧
    (∀ (id : Nat) (r : WinRead), mfind s.ep.winReads id = some r →
      s.winReply id = ((s.closeRead id).emit (.completion r.pf 0 (r.fars.any (fun x => s.upset (farKey x) == 2))
        (s.targetBytes r.kind r.target r.at_ r.len))).winErrors r.kind r.target r.fars ∧
      s.winAbort id = (s.closeRead id).emit (.completion r.pf 4 false []) ∧
      mfind (s.closeRead id).ep.winReads id = none) ∧
    (∀ bytes : List Nat, bytes ≠ [] → bytes.length ≤ 4096 → (∀ b ∈ bytes, b < 256) → offset % 2 ^ 28 + bytes.length ≤ 2 ^ 28 →
      let c : Instr := .bar2Write pf offset bytes
      (s.ep.accepting = false → DoesNothing c s) ∧
      (s.ep.accepting = true →
        s.winServes pf offset bytes.length = false ∨ pf = 1 ∨ s.on R.win_WRITE_EN n = false ∨
          (∃ x ∈ s.winFar n a bytes.length, s.stackUp (farStack x) = false) →
        Does c s (fun u => u.rd R.ep_WINDOW_DROPPED 0 = (s.rd R.ep_WINDOW_DROPPED 0 + 1) % 2 ^ 64 ∧ Only [] [key R.ep_WINDOW_DROPPED 0] s u)) ∧
      (s.ep.accepting = true → s.winServes pf offset bytes.length = true → pf = 0 → s.on R.win_WRITE_EN n = true →
        (∀ x ∈ s.winFar n a bytes.length, s.stackUp (farStack x) = true) → s.coreOn = false → DoesNothing c s) ∧
      (s.ep.accepting = true → s.winServes pf offset bytes.length = true → pf = 0 → s.on R.win_WRITE_EN n = true →
        (∀ x ∈ s.winFar n a bytes.length, s.stackUp (farStack x) = true) → s.coreOn = true →
        (s.rd R.win_TARGET_KIND n = 1 → Does c s (fun u => ∃ v, u = v.winAccess .posted (s.winFar n a bytes.length) true ∧
          v = s.each (alignedOffsets a bytes.length) (fun w o => w.putFar (w.ringAddr t o) (patchWord (w.far (w.ringAddr t o)) o a bytes)))) ∧
        (s.rd R.win_TARGET_KIND n ≠ 1 → s.takesDirect t = false → Does c s (fun u =>
          u.rd R.tmnt_DIRECT_DROPPED t = (s.rd R.tmnt_DIRECT_DROPPED t + 1) % 2 ^ 64 ∧ Only [] [key R.tmnt_DIRECT_DROPPED t] s u)) ∧
        (s.rd R.win_TARGET_KIND n ≠ 1 → s.takesDirect t = true → Does c s (fun u => ∃ v, u = v.winAccess .posted (s.winFar n a bytes.length) true ∧
          v = s.apWrite t a bytes ∧
          ((∃ o ∈ alignedOffsets a bytes.length, s.apWord t o = .none) → v.rd R.tmnt_DIRECT_DROPPED t = (s.rd R.tmnt_DIRECT_DROPPED t + 1) % 2 ^ 64)))))

/-! ## Routes to the dictionary: mailbox, remote operations, fast objects, SMBus -/

/-- R60 to R64, R69. -/
def Obligations.MailboxRequests : Prop :=
  ∀ (s : State) (pf tag : Nat) (words : List Nat), mbOperandsOk pf tag words = true →
    let op0 := mbOp (words.getD 0 0)
    let c : Instr := if op0 = 2 then .write pf tag words else if op0 = 3 then .describe pf tag words else .read pf tag words
    let m := s.mb pf
    let buf := (overwrite words m.request).take 512
    let b := s.setMb pf { m with busy := true, done := false, rejected := false, request := buf, taken := buf }
    let w0 := buf.getD 0 0
    let op := mbOp w0
    let keys := [key R.svc_REQUESTS 0, key R.ering_EVENTS_DISCARDED pf]
    let shown (resp : List Nat) (v u : State) : Prop :=
      u.mb pf = { v.mb pf with busy := false, done := true, tag := tag, response := overwrite resp (v.mb pf).response }
    let refused (st : Nat) (u : State) : Prop := shown (wholeAnswer w0 st 0) b u ∧
      u.rd R.svc_REQUESTS 0 = (s.rd R.svc_REQUESTS 0 + 1) % 2 ^ 64 ∧ Only [.acc, .ep, .out] keys s u
    (s.barServed = false → DoesNothing c s) ∧
    (s.barServed = true → m.busy = true → Does c s (fun u => u.mb pf = { m with rejected := true } ∧ Only [.acc] [] s u)) ∧
    (s.barServed = true → m.busy = false →
      (op = 0 ∨ 3 < op ∨ mbCount w0 = 0 ∨ 32 < mbCount w0 → Does c s (refused daRange)) ∧
      (1 ≤ op → op ≤ 3 → 1 ≤ mbCount w0 → mbCount w0 ≤ 32 →
        let parsed := hostEntries (op == 2) (mbCount w0) ((wordsLE (buf ++ List.replicate (512 - buf.length) 0)).drop 16)
        (parsed = none → Does c s (refused daLength)) ∧
        (∀ es, parsed = some es → mbRemote w0 = false →
          let served := b.serve ⟨pf, pf⟩ op (es.map (·.2))
          let body := ((es.zip served.1).map (fun x => hostAnswer op x.1.1 x.1.2 x.2)).flatten
          (4080 < body.length → Does c s (refused daLength)) ∧
          (body.length ≤ 4080 → Does c s (fun u => served.1.length = es.length ∧
            shown (hostHeader w0 (overallOf served.1) (served.2.rd R.ident_INCARNATION 0) ++ octetsWords body) served.2 u ∧
            Only [.acc, .ep, .out] [key R.ering_EVENTS_DISCARDED pf] served.2 u ∧
            (op ≠ 2 → u.rd R.svc_REQUESTS 0 = (s.rd R.svc_REQUESTS 0 + 1) % 2 ^ 64 ∧
              Only [.acc, .ep, .out] (key R.svc_LAST_ERROR_REF 0 :: key R.svc_LAST_ERROR_STATUS 0 :: keys) s u)))) ∧
        (∀ es, parsed = some es → mbRemote w0 = true →
          let bodies := netEntries op (es.map (·.2))
          let answer := expectedAnswer op (es.map (·.2.k))
          let mine := b.remote.ops.filter (fun o => match o.owner with
            | .mailbox _ _ _ => true
            | .proxy _ => false)
          (64 ≤ mine.length → Does c s (refused daBusy)) ∧
          (mine.length < 64 → 256 < 12 + bodies.length ∨ 256 < answer → Does c s (refused daLength)) ∧
          (mine.length < 64 → 12 + bodies.length ≤ 256 → answer ≤ 256 → Does c s (fun u =>
            u = b.startRemote (mbTarget w0) (netHeader op 0 0 (bits (buf.getD 1 0) 63 32) b.myId es.length ++ bodies)
              (.mailbox pf tag w0))))))

/-- R64, R68 to R71 and R402. -/
def Obligations.RemoteOperations : Prop :=
  ∀ s : State,
    let ended (pf tag : Nat) (resp : List Nat) : Mailbox :=
      { s.mb pf with busy := false, done := true, tag := tag, response := overwrite resp (s.mb pf).response }
    let row (op : Nat) : Instr := if op = 2 then .remoteWrite else if op = 3 then .remoteDescribe else .remoteRead
    (s.remote.queue = [] ∨ s.coreOn = false → ∀ op, DoesNothing (row op) s) ∧
    (∀ q rest, s.remote.queue = q :: rest → s.coreOn = true →
      let p := q.payload
      let op := p.headD 0
      let count := p.getD 10 0
      let inc := s.rd R.ident_INCARNATION 0
      let v : State := { s with remote := { s.remote with queue := rest } }
      let refused (st : Nat) : Prop := Does (row op) s (fun u => ∃ x : State,
        x.rd R.svc_REQUESTS 0 = (s.rd R.svc_REQUESTS 0 + 1) % 2 ^ 64 ∧ Only [] [key R.svc_REQUESTS 0] { v with freeIx := x.freeIx } x ∧
        ∃ aop, 0x81 ≤ aop ∧ aop ≤ 0x83 ∧ (1 ≤ op → op ≤ 3 → aop = 0x80 + op) ∧
        u = x.respond q.source (mgmtTxn p) (netHeader aop st (mgmtTxn p) inc s.myId 0) q.link)
      (∀ op', row op' ≠ row op → DoesNothing (row op') s) ∧
      (op = 0 ∨ 3 < op ∨ count = 0 ∨ 24 < count → refused daRange) ∧
      (1 ≤ op → op ≤ 3 → 1 ≤ count → count ≤ 24 →
        (readNetEntries (op == 2) count (p.drop 12) = none → refused daLength) ∧
        (∀ es, readNetEntries (op == 2) count (p.drop 12) = some es →
          (fieldAt p 4 4 ≠ inc → fieldAt p 4 4 ≠ 0xFFFFFFFF ∨ op = 2 → Does (row op) s (fun u => ∃ x : State,
            x.rd R.svc_REQUESTS 0 = (s.rd R.svc_REQUESTS 0 + 1) % 2 ^ 64 ∧ x.rd R.svc_LAST_ERROR_STATUS 0 = daStale ∧
            Only [.acc] [key R.svc_REQUESTS 0, key R.svc_LAST_ERROR_REF 0, key R.svc_LAST_ERROR_STATUS 0] v x ∧
            x.acc = { s.acc with lastStatus := daStale } ∧
            u = x.respond q.source (mgmtTxn p) (netHeader (0x80 + op) daStale (mgmtTxn p) inc s.myId es.length ++
              (es.map (fun e => netAnswer op e ⟨daStale, []⟩)).flatten) q.link)) ∧
          (fieldAt p 4 4 = inc ∨ (fieldAt p 4 4 = 0xFFFFFFFF ∧ op ≠ 2) →
            let served := v.serve ⟨v.fabricPrincipal q.source, 3⟩ op es
            let body := ((es.zip served.1).map (fun x => netAnswer op x.1 x.2)).flatten
            (12 + body.length ≤ 256 → Does (row op) s (fun u => u = served.2.respond q.source (mgmtTxn p)
              (netHeader (0x80 + op) (overallOf served.1) (mgmtTxn p) inc s.myId es.length ++ body) q.link)) ∧
            (256 < 12 + body.length → refused daLength))))) ∧
    (s.remote.arrived = [] → DoesNothing .remoteResponse s) ∧
    (∀ target p rest, s.remote.arrived = (target, p) :: rest →
      let v : State := { s with remote := { s.remote with arrived := rest } }
      let found := s.remote.ops.find? (fun o => o.target == target && o.txn == mgmtTxn p)
      let closed (u : State) : Prop := u.remote.arrived = rest ∧ ∀ o ∈ u.remote.ops, o.target = target → o.txn ≠ mgmtTxn p
      (found = none → Does .remoteResponse s (fun u => u = v)) ∧
      (∀ o pf tag w0, found = some o → o.owner = .mailbox pf tag w0 → Does .remoteResponse s (fun u => closed u ∧
        u.mb pf = ended pf tag (s.remoteAnswer pf w0 p) ∧
        u.rd R.svc_REQUESTS 0 = (s.rd R.svc_REQUESTS 0 + 1) % 2 ^ 64 ∧
        Only [.acc, .remote, .ep, .out] [key R.svc_REQUESTS 0, key R.ering_EVENTS_DISCARDED pf] s u)) ∧
      (∀ o l, found = some o → o.owner = .proxy l → Does .remoteResponse s (fun u => closed u ∧ u.rd R.link_PROXY_STATUS l = 2 ∧
        u.rd R.link_PROXY_RESPONSE l = domOf (p.take 128) ∧
        Only [.remote] [key R.link_PROXY_RESPONSE l, key R.link_PROXY_STATUS l] s u))) ∧
    (∀ target txn, txn < 65536 →
      let found := s.remote.ops.find? (fun o => o.target == target && o.txn == txn)
      let closed (u : State) : Prop := (∀ o ∈ u.remote.ops, o.target = target → o.txn ≠ txn) ∧
        u.rd R.svc_REMOTE_LOST 0 = (s.rd R.svc_REMOTE_LOST 0 + 1) % 2 ^ 32
      (found = none → DoesNothing (.remoteTimeout target txn) s) ∧
      (∀ o, found = some o →
        (s.clk.ticks < o.deadline → DoesNothing (.remoteTimeout target txn) s) ∧
        (o.deadline ≤ s.clk.ticks → 1 ≤ o.retriesLeft → Does (.remoteTimeout target txn) s (fun u => ∃ x : State,
          x.remote.ops = s.remote.ops.map (fun y =>
            if y = o then { o with retriesLeft := o.retriesLeft - 1, deadline := s.clk.ticks + o.wait } else y) ∧ Only [.remote] [] s x ∧
          u = x.sendMgmt o.target o.payload (match o.owner with
            | .proxy l => some l
            | .mailbox _ _ _ => none))) ∧
        (o.deadline ≤ s.clk.ticks → o.retriesLeft = 0 →
          (∀ pf tag w0, o.owner = .mailbox pf tag w0 → Does (.remoteTimeout target txn) s (fun u => closed u ∧
            u.mb pf = ended pf tag (wholeAnswer w0 daLost 0) ∧
            Only [.acc, .remote, .ep, .out] [key R.svc_REQUESTS 0, key R.svc_REMOTE_LOST 0, key R.ering_EVENTS_DISCARDED pf] s u)) ∧
          (∀ l, o.owner = .proxy l → Does (.remoteTimeout target txn) s (fun u => closed u ∧ u.rd R.link_PROXY_STATUS l = 3 ∧
            Only [.remote] [key R.svc_REMOTE_LOST 0, key R.link_PROXY_STATUS l] s u)))))

/-- R65 to R67, R73, R74, R525 and R634. -/
def Obligations.FastObjectsAndSmbus : Prop :=
  ∀ s : State,
    (∀ pf offset, pf < 2 → offset < 2 ^ 24 → offset % 8 = 0 →
      let rows (P : Instr → Prop) : Prop := P (.fastObjectRead pf offset) ∧ (timeUpper offset = true → P (.timeUpperRead pf offset))
      let reads (w : Nat) (ps : List Part) (ks : List Nat) : Prop := rows (fun c => Does c s (fun u => Puts [.reply pf [w]] s u ∧
        Only (.out :: ps) ks s u))
      let keys := [key R.svc_REQUESTS 0, key R.svc_LAST_ERROR_REF 0, key R.svc_LAST_ERROR_STATUS 0, key R.svc_FAST_FAILED 0]
      (s.ep.accepting = false → rows (fun c => DoesNothing c s)) ∧
      (s.ep.accepting = true → s.barServed = false → reads (if offset = 0 then s.sentinel pf else 0) [] []) ∧
      (s.barServed = true → fastKey offset = none → reads (s.bar0Word pf offset) [] []) ∧
      (∀ k r, s.barServed = true → fastKey offset = some k → rowOf k = some r →
        let st := s.checkRead ⟨pf, pf⟩ k false
        let v := s.readVal k false
        let word := leNat (slice (valueOctets r v) (if offset % 16 = 8 then 8 else 0) 8)
        (st ≠ daOk → reads 0 [.acc] keys ∧ rows (fun c => Does c s (fun u =>
          u.rd R.svc_FAST_FAILED 0 = (s.rd R.svc_FAST_FAILED 0 + 1) % 2 ^ 32 ∧ u.rd R.svc_LAST_ERROR_REF 0 = k ∧
          u.rd R.svc_LAST_ERROR_STATUS 0 = st))) ∧
        (st = daOk → r.ty ≠ .time → reads word [.acc] [key R.svc_REQUESTS 0]) ∧
        (st = daOk → r.ty = .time → offset % 16 = 8 → reads (v / 2 ^ 64) [.acc] [key R.svc_REQUESTS 0] ∧
          rows (fun c => Does c s (fun u => u.latch pf = some (k, v % 2 ^ 64)))) ∧
        (st = daOk → r.ty = .time → offset % 16 = 0 →
          (∀ w, s.latch pf = some (k, w) → reads w [.acc] [key R.svc_REQUESTS 0] ∧ rows (fun c => Does c s (fun u => u.latch pf = none))) ∧
          ((∀ w, s.latch pf ≠ some (k, w)) → reads (v % 2 ^ 64) [.acc] [key R.svc_REQUESTS 0] ∧
            rows (fun c => Does c s (fun u => u.latch pf = s.latch pf))))) ∧
      (∀ val, val < 2 ^ 64 →
        (s.barServed = false ∨ (fastKey offset = none ∧ (offset < 0x2000 ∨ 0x3000 ≤ offset)) → DoesNothing (.fastObjectWrite pf offset val) s) ∧
        (s.barServed = true → 0x2000 ≤ offset → offset < 0x3000 → (s.mb pf).busy = false → Does (.fastObjectWrite pf offset val) s (fun u =>
          u.bar0Word pf offset = val ∧ (∀ o, o % 8 = 0 → o ≠ offset → u.bar0Word pf o = s.bar0Word pf o) ∧ Only [.acc] [] s u)) ∧
        (∀ k r, s.barServed = true → fastKey offset = some k → rowOf k = some r →
          let len := if offset % 16 = 8 ∨ r.ty = .time ∨ r.ty = .domain then 2 ^ 16 else r.len
          let v := s.singleWrite ⟨pf, pf⟩ k len val
          Does (.fastObjectWrite pf offset val) s (fun u =>
            (v.acc.lastStatus = daOk → u = v) ∧
            (v.acc.lastStatus ≠ daOk → u.rd R.svc_FAST_FAILED 0 = (v.rd R.svc_FAST_FAILED 0 + 1) % 2 ^ 32 ∧
              Only [] [key R.svc_FAST_FAILED 0] v u)) ∧
          (len = 2 ^ 16 → v.acc.lastStatus ≠ daOk)))) ∧
    (∀ (addr index inst sub : Nat) (bytes : List Nat), addr < 128 → index < 65536 → inst < 65536 → sub < 256 → bytes.length ≤ 255 → (∀ b ∈ bytes, b < 256) →
      let mine : Prop := addr = s.setting 544 538
      let nack (c : Instr) : Prop := (¬mine → DoesNothing c s) ∧ (mine → Does c s (fun u => Puts [.smbus [] false] s u ∧ Only [.out] [] s u))
      nack (.statusSummary ⟨addr, false⟩) ∧ nack (.select index inst sub ⟨addr, false⟩) ∧ nack (.readValue ⟨addr, false⟩) ∧ nack (.writeValue bytes ⟨addr, false⟩) ∧
      (¬mine → DoesNothing (.statusSummary ⟨addr, true⟩) s ∧ DoesNothing (.select index inst sub ⟨addr, true⟩) s ∧ DoesNothing (.readValue ⟨addr, true⟩) s ∧
        DoesNothing (.writeValue bytes ⟨addr, true⟩) s) ∧
      Does .smbSclTimeout s (fun u => Puts [.smbus [] false] s u ∧ Only [.out] [] s u) ∧
      (mine →
        Does (.statusSummary ⟨addr, true⟩) s (fun u => Only [.out] [] s u ∧
          Puts [.smbus [b2n (s.on R.prst_RESET_HELD 0) + 2 * b2n (s.on R.coll_FATAL_LATCHED 0) + 4 * b2n s.coll.mgmtLost
            + 8 * b2n (s.aliveNow == 0)] true] s u) ∧
        Does (.select index inst sub ⟨addr, true⟩) s (fun u => Puts [.smbus [] true] s u ∧
          u.acc = { s.acc with smbSel := some (keyOf index inst sub) } ∧ Only [.acc, .out] [] s u) ∧
        (∀ st, s.acc.smbHeld = some st → Does (.readValue ⟨addr, true⟩) s (fun u => Puts [.smbus [st] true] s u ∧
          u.acc = { s.acc with smbHeld := none } ∧ Only [.acc, .out] [] s u)) ∧
        (s.acc.smbHeld = none →
          let k := s.acc.smbSel.getD 0
          let st := s.checkRead smbus k false
          Does (.readValue ⟨addr, true⟩) s (fun u => Puts [.smbus (st :: (if st = daOk then s.readOctets k false else [])) true] s u ∧
            u.rd R.svc_REQUESTS 0 = (s.rd R.svc_REQUESTS 0 + 1) % 2 ^ 64 ∧
            Only [.acc, .out] [key R.svc_REQUESTS 0, key R.svc_LAST_ERROR_REF 0, key R.svc_LAST_ERROR_STATUS 0] s u)) ∧
        (let k := s.acc.smbSel.getD 0
         let v := s.singleWrite smbus k bytes.length (hostValue k bytes)
         Does (.writeValue bytes ⟨addr, true⟩) s (fun u => Puts [.smbus [] true] v u ∧ u.acc = { v.acc with smbHeld := some v.acc.lastStatus } ∧
          Only [.acc, .out] [] v u))))

/-! ## Faults: the collector, reactions, the Pewters -/

/-- R556 to R562, R564 and R568. -/
def Obligations.CollectorTakesMessages : Prop :=
  ∀ s : State,
    let marks := [key R.coll_LOG_NEWEST 0, key R.coll_LOG_OVERWRITTEN 0, key R.ering_EVENTS_DISCARDED 0]
    let logged (src kind cls addr : Nat) (forced up : Bool) (v : State) : Prop :=
      let seq := (s.rd R.coll_LOG_NEWEST 0 + 1) % 2 ^ 32
      v.rd R.coll_LOG_NEWEST 0 = seq ∧ v.coll.log = (⟨seq * 2 ^ 32 + src * 2 ^ 20 + kind * 2 ^ 14 + cls * 2 ^ 12 + b2n forced * 2 ^ 11
        + b2n up * 2 ^ 10, addr % 2 ^ 40 * 2 ^ 24, s.slotNo, stamp48 s.now * 2 ^ 16⟩ :: s.coll.log).take 1024 ∧
      (1024 ≤ s.coll.log.length → v.rd R.coll_LOG_OVERWRITTEN 0 = (s.rd R.coll_LOG_OVERWRITTEN 0 + 1) % 2 ^ 64)
    (s.nextSource = none → DoesNothing .faultMessage s) ∧
    (∀ src m rest, s.nextSource = some src → mget [] s.coll.held src = m :: rest → src < 128 → m.kind < 64 →
      let counts := [key R.coll_MESSAGES 0, key R.kind_MESSAGES m.kind, key R.src_MESSAGES src]
      let c := s.rd R.kind_CLASS m.kind
      let w := (if s.rd R.src_WINDOW_COUNT src = 0 ∨ s.rd R.src_WINDOW src ≤ s.slotNo / 16384 - mget 0 s.coll.winStart src then 0
        else s.rd R.src_WINDOW_COUNT src) + 1
      let up := c == 1 && s.on R.src_PROMOTE_EN src && decide (s.rd R.src_N_LIMIT src ≤ w)
      let cls := if up then 2 else c
      let react := [key R.src_REACT_STATE src, key R.src_PENDING_SEQ src, key R.coll_PENDING_COUNT 0]
      let taken (v : State) : Prop := mget [] v.coll.held src = rest ∧ v.coll.rrNext = src + 1 ∧ v.coll.takenAt = s.clk.ticks / 50 + 1 ∧
        v.rd R.coll_MESSAGES 0 = (s.rd R.coll_MESSAGES 0 + 1) % 2 ^ 64 ∧
        v.rd R.kind_MESSAGES m.kind = (s.rd R.kind_MESSAGES m.kind + 1) % 2 ^ 64 ∧
        v.rd R.src_MESSAGES src = (s.rd R.src_MESSAGES src + 1) % 2 ^ 64 ∧
        (c = 1 → s.on R.src_PROMOTE_EN src = true → v.rd R.src_WINDOW_COUNT src = if up then 0 else w)
      (c = 0 → s.on R.kind_LOG_NOTE m.kind = false → m.kind ≠ 2 → m.kind ≠ 3 → m.kind ≠ 4 → m.kind ≠ 6 →
        Does .faultMessage s (fun u => taken u ∧ Only [.coll] counts s u)) ∧
      (c = 0 → s.on R.kind_LOG_NOTE m.kind = true ∨ m.kind = 2 ∨ m.kind = 3 ∨ m.kind = 4 ∨ m.kind = 6 →
        Does .faultMessage s (fun u => taken u ∧ logged src m.kind 0 m.addr m.forced false u ∧ Only [.coll] (counts ++ marks) s u)) ∧
      (cls = 1 → Does .faultMessage s (fun u => taken u ∧ logged src m.kind 1 m.addr m.forced false u ∧
        Only [.coll, .ep, .out] (key R.src_WINDOW_COUNT src :: counts ++ marks) s u)) ∧
      (cls = 2 → Does .faultMessage s (fun u => taken u ∧ logged src m.kind 2 m.addr m.forced up u ∧ u.rd R.src_REACT_STATE src = 1 ∧
        (s.rd R.src_REACT_STATE src ≠ 1 → u.rd R.src_PENDING_SEQ src = u.rd R.coll_LOG_NEWEST 0 ∧
          u.rd R.coll_PENDING_COUNT 0 = s.rd R.coll_PENDING_COUNT 0 + 1 ∧ mget 0 u.coll.countdown src = s.rd R.src_REACT_EPOCHS src) ∧
        (s.rd R.src_REACT_STATE src = 1 → u.rd R.src_PENDING_SEQ src = s.rd R.src_PENDING_SEQ src ∧ u.coll.countdown = s.coll.countdown) ∧
        Only [.coll, .ep, .out] (key R.src_WINDOW_COUNT src :: react ++ counts ++ marks) s u)) ∧
      (3 ≤ cls → Does .faultMessage s (fun u => ∃ v : State, taken v ∧ logged src m.kind cls m.addr m.forced false v ∧
        v.rd R.coll_FATAL_LATCHED 0 = 1 ∧ Only [.coll, .ep, .out] (key R.coll_FATAL_LATCHED 0 :: counts ++ marks) s v ∧
        u = v.fatalAction))) ∧
    (let failed (n : Nat) (stops : Bool) (ks : List Nat) (u : State) : Prop := ∃ v : State, logged 0 1 3 n false false v ∧
        (stops = true → n ∈ v.coll.badPairs) ∧ (stops = false → v.coll.badPairs = s.coll.badPairs) ∧
        v.rd R.coll_FATAL_LATCHED 0 = 1 ∧ Only [.coll, .ep, .out] (key R.coll_FATAL_LATCHED 0 :: marks ++ ks) s v ∧ u = v.fatalAction
     (∀ n, n < 8 → Does (.pairMismatch n) s (failed n true [])) ∧
     (∀ who n, n < 8 →
       (let u := s.takeEffect ⟨who, key R.coll_PAIR_TEST 0, n, [1]⟩
        u.rd R.coll_PAIR_TEST_RESULT 0 = 1 ∧ Only [] [key R.coll_PAIR_TEST_RESULT 0] s u) ∧
       failed n false [key R.coll_PAIR_TEST_RESULT 0] (s.takeEffect ⟨who, key R.coll_PAIR_TEST 0, n, [0]⟩))) ∧
    (∀ who src kind addr, src < 128 →
      let u := s.takeEffect ⟨who, key R.src_FORCE src, 1, [kind, addr]⟩
      let held := mget [] s.coll.held src
      (held.length < 16 → mget [] u.coll.held src = held ++ [⟨kind, addr % 2 ^ 40, true, s.clk.ticks⟩] ∧ Only [.coll] [] s u) ∧
      (16 ≤ held.length → u.rd R.src_LOST src = (s.rd R.src_LOST src + 1) % 2 ^ 32 ∧ Only [] [key R.src_LOST src] s u))

/-- R564 to R567. -/
def Obligations.ReactionsEnd : Prop :=
  ∀ (s : State) (src : Nat), src < 128 →
    let marks := [key R.src_REACT_STATE src, key R.coll_PENDING_COUNT 0]
    let ended (v : State) : Prop := v.rd R.src_REACT_STATE src = 0 ∧ v.rd R.coll_PENDING_COUNT 0 = s.rd R.coll_PENDING_COUNT 0 - 1 ∧
      mfind v.coll.countdown src = none ∧ mfind v.coll.reactMsg src = none
    (∀ who val, let u := s.takeEffect ⟨who, key R.src_ACK src, val, []⟩
      (s.rd R.src_REACT_STATE src = 1 → s.rd R.src_PENDING_SEQ src = val → ∃ v : State, ended v ∧ Only [.coll] marks s v ∧
        u = v.noteRecord 0x02 src) ∧
      (s.rd R.src_REACT_STATE src ≠ 1 ∨ s.rd R.src_PENDING_SEQ src ≠ val → u = s)) ∧
    (sourceListed src = true →
      let act := s.rd R.src_ESCALATION src
      let msg := mget 0 s.coll.reactMsg src
      let others := s.reactionsDue.filter (· != src)
      let escalated (v w : State) : Prop := ended v ∧ v.rd R.coll_ESCALATIONS 0 = (s.rd R.coll_ESCALATIONS 0 + 1) % 2 ^ 32 ∧
        Only [.coll] (key R.coll_ESCALATIONS 0 :: marks) s v ∧ w = v.noteRecord 0x03 (act * 2 ^ 12 + src)
      (s.reactionsDue.head? ≠ some src → DoesNothing (.reactionExpire src) s) ∧
      (s.reactionsDue.head? = some src →
        (act ≠ 4 → (∃ x ∈ others, s.rd R.src_ESCALATION x = 4) →
          Does (.reactionExpire src) s (fun u => ∃ v, escalated v u)) ∧
        (act ≠ 4 → (∀ x ∈ others, s.rd R.src_ESCALATION x ≠ 4) → Does (.reactionExpire src) s (fun u => ∃ v w, escalated v w ∧
          (act = 0 → u = w) ∧
          (act = 1 → u = w.isolate (isolateTarget w src (msg / 2 ^ 40) (msg % 2 ^ 40)).1 (isolateTarget w src (msg / 2 ^ 40) (msg % 2 ^ 40)).2) ∧
          (act = 2 → u = w.requestSwitch (sourceDomain src) false 2) ∧ (act = 3 → u = w.fence true))) ∧
        (act = 4 → Does (.reactionExpire src) s (fun u =>
          u = ((s.each others State.logEscalation).logEscalation src).startInternal 2))))

/-- R569 to R572 and R599. -/
def Obligations.PewtersServe : Prop :=
  ∀ (s : State) (p : Nat), p < 2 →
    let q := 1 - p
    let st := s.rd R.pewter_STATE p
    let x := s.pewter p
    let ev := key R.ering_EVENTS_DISCARDED 0
    let boots (p : Nat) : List Nat := [key R.pewter_RESTARTS p, key R.pewter_FW_VERSION p, key R.pewter_STATE p]
    let front := [key R.svc_ACTIVE_PEWTER 0, key R.svc_SERVICE_STATE 0, key R.ident_FW_VERSION 0, key R.ident_FEATURE_LEVEL 0]
    let booted (p : Nat) (v : State) : Prop := v.rd R.pewter_STATE p = (if fwChoice s = 2 then 4 else 1) ∧
      ((s.pewter p).everBooted = true → v.rd R.pewter_RESTARTS p = (s.rd R.pewter_RESTARTS p + 1) % 2 ^ 32)
    let active (p : Nat) (v : State) : Prop := v.rd R.svc_ACTIVE_PEWTER 0 = p + 1 ∧ v.rd R.pewter_STATE p = 3
    let up (n : Nat) : Prop := s.rd R.pewter_STATE n = 2 ∨ s.rd R.pewter_STATE n = 3
    (s.domOn (1 + p) = false ∨ x.held = true ∨ st = 0 → DoesNothing (.pewterHeartbeat p) s) ∧
    (s.domOn (1 + p) = true → x.held = false → st ≠ 0 →
      let beat (v : State) : Prop := v.rd R.pewter_HEARTBEATS p = (s.rd R.pewter_HEARTBEATS p + 1) % 2 ^ 64 ∧
        v.pewter p = { x with lastBeat := some s.clk.ticks } ∧ v.coll.started = true
      (s.rd R.svc_ACTIVE_PEWTER 0 ≠ 0 → Does (.pewterHeartbeat p) s (fun u => beat u ∧ u.rd R.pewter_STATE p = (if st = 1 then 2 else st) ∧
        Only [.coll, .ep, .out] [key R.pewter_HEARTBEATS p, key R.pewter_FW_VERSION p, key R.pewter_STATE p, ev] s u)) ∧
      (s.rd R.svc_ACTIVE_PEWTER 0 = 0 → Does (.pewterHeartbeat p) s (fun u => ∃ v : State, beat v ∧ active p v ∧ v.coll.mgmtLost = false ∧
        Only [.coll, .ep, .out] (key R.pewter_HEARTBEATS p :: key R.pewter_FW_VERSION p :: key R.pewter_STATE p :: ev :: front) s v ∧
        u = if s.coll.mgmtLost then v.noteRecord 0x06 p else v))) ∧
    let gone : Prop := ¬up p ∧ ¬up q ∧ s.coll.started = true ∧ s.coll.mgmtLost = false ∧ s.beatPresent x = false ∧
      s.beatPresent (s.pewter q) = false
    (¬gone → ¬up p ∨ x.held = true ∨ s.beatPresent x = true → DoesNothing (.heartbeatMissing p) s) ∧
    (gone → Does (.heartbeatMissing p) s (fun u => ∃ v : State, v.coll.mgmtLost = true ∧ v.rd R.svc_ACTIVE_PEWTER 0 = 0 ∧
      v.rd R.svc_SERVICE_STATE 0 = 0 ∧ v.rd R.pewter_STATE 0 = s.rd R.pewter_STATE 0 ∧ v.rd R.pewter_STATE 1 = s.rd R.pewter_STATE 1 ∧
      u = if 3 ≤ s.rd R.kind_CLASS 5 then v.fatalAction else v)) ∧
    (up p → x.held = false → s.beatPresent x = false →
      (up q → s.beatPresent (s.pewter q) = true → Does (.heartbeatMissing p) s (fun u => ∃ v : State,
        booted p v ∧ (s.rd R.svc_ACTIVE_PEWTER 0 = p + 1 → active q v ∧
          v.rd R.pewter_TAKEOVERS q = (s.rd R.pewter_TAKEOVERS q + 1) % 2 ^ 32) ∧
        (s.rd R.svc_ACTIVE_PEWTER 0 ≠ p + 1 → v.rd R.svc_ACTIVE_PEWTER 0 = s.rd R.svc_ACTIVE_PEWTER 0) ∧
        u = if 3 ≤ s.rd R.kind_CLASS 7 then v.fatalAction else v)) ∧
      (¬up q ∨ s.beatPresent (s.pewter q) = false → Does (.heartbeatMissing p) s (fun u => ∃ v : State,
        booted p v ∧ (up q → booted q v) ∧ v.coll.mgmtLost = true ∧ v.rd R.svc_ACTIVE_PEWTER 0 = 0 ∧ v.rd R.svc_SERVICE_STATE 0 = 0 ∧
        u = if 3 ≤ s.rd R.kind_CLASS 5 then v.fatalAction else v))) ∧
    (s.rd R.svc_ACTIVE_PEWTER 0 = p + 1 →
      Does (.pewterReady p) s (fun u => u.rd R.svc_SERVICE_STATE 0 = 1 ∧ Only [] [key R.svc_SERVICE_STATE 0] s u)) ∧
    (s.rd R.svc_ACTIVE_PEWTER 0 ≠ p + 1 → DoesNothing (.pewterReady p) s) ∧
    (∀ t, x.released = some t → st = 1 → s.past t (ticksMs (s.rd R.coll_BOOT_TIMEOUT 0)) = true →
      Does (.bootTimeout p) s (fun u => u.rd R.pewter_STATE p = 4 ∧ u.pewter p = { x with held := true, released := none } ∧
        Only [.coll, .ep, .out] [key R.pewter_STATE p, ev] s u)) ∧
    ((∀ t, x.released = some t → st ≠ 1 ∨ s.past t (ticksMs (s.rd R.coll_BOOT_TIMEOUT 0)) = false) → DoesNothing (.bootTimeout p) s) ∧
    (s.aliveNow = 0 → s.past s.coll.aliveSince (1250 * 50) = true → Does .aliveOutToggle s (fun u => u.coll.alive = !s.coll.alive ∧
      u.coll.aliveSince = s.clk.ticks ∧ Puts [.pin 0 (b2n (!s.coll.alive))] s u ∧ Only [.coll, .out] [] s u)) ∧
    (s.aliveNow ≠ 0 ∨ s.past s.coll.aliveSince (1250 * 50) = false → DoesNothing .aliveOutToggle s) ∧
    (∀ who,
      let r := s.takeEffect ⟨who, key R.pewter_RESTART p, 1, []⟩
      let w := s.takeEffect ⟨who, key R.pewter_SWITCHOVER p, 1, []⟩
      (st ≠ 3 → s.domOn (1 + p) = true → booted p r ∧ Only [.coll, .ep, .out] (ev :: boots p) s r) ∧
      (st = 3 → r = s) ∧ (st ≠ 3 → s.domOn (1 + p) = false → r = s.requestSwitch (1 + p) true 1) ∧
      (st = 2 → s.rd R.pewter_STATE q = 3 → active p w ∧ booted q w ∧ w.rd R.pewter_TAKEOVERS p = (s.rd R.pewter_TAKEOVERS p + 1) % 2 ^ 32 ∧
        Only [.coll, .ep, .out] (key R.pewter_TAKEOVERS p :: key R.pewter_STATE p :: ev :: front ++ boots q) s w) ∧
      (st ≠ 2 ∨ s.rd R.pewter_STATE q ≠ 3 → w = s))

/-! ## Power, reset, boot, flash, OTP and last gasp -/

/-- R580 to R582 and R595. -/
def Obligations.DomainsSwitch : Prop :=
  ∀ s : State,
    (∀ (who d : Nat) (on : Bool), d < 29 →
      let u := s.takeEffect ⟨who, key R.dom_POWER_REQUEST d, if on then 1 else 2, []⟩
      let barred : Prop := (on = true ∧ 5 ≤ d ∧ s.domTarget 4 = false) ∨ (on = false ∧ d = 4 ∧ ∃ x, 5 ≤ x ∧ x < 29 ∧ s.domTarget x = true)
      (s.domTarget d = on ∨ barred → u = s) ∧
      (s.domTarget d ≠ on → ¬barred → s.pwr.switching ≠ none → u.pwr = { s.pwr with queue := s.pwr.queue ++ [⟨d, on, 1⟩] } ∧ Only [.pwr] [] s u) ∧
      (s.domTarget d ≠ on → ¬barred → s.pwr.switching = none → s.pwr.queue = [] → u.pwr = { s.pwr with switching := some ⟨d, on, 1⟩ } ∧
        u.rd R.dom_DOMAIN_STATE d = 2 ∧ Only [.pwr] [key R.dom_DOMAIN_STATE d] s u)) ∧
    (s.pwr.switching = none → DoesNothing .domainSwitched s) ∧
    (∀ q : SwitchReq, s.pwr.switching = some q → q.dom < 29 →
      let d := q.dom
      let counted (v : State) : Prop := v.rd R.dom_SWITCHES d = (s.rd R.dom_SWITCHES d + 1) % 2 ^ 32
      (q.on = true → Does .domainSwitched s (fun u => ∃ v w : State, v.rd R.dom_DOMAIN_STATE d = 1 ∧ v.rd R.dom_ON_SINCE d = s.slotNo ∧
        v.rd R.dom_OFF_CAUSE d = 0 ∧ counted v ∧ v.pwr = { s.pwr with switching := none } ∧
        Only [.pwr] [key R.dom_DOMAIN_STATE d, key R.dom_ON_SINCE d, key R.dom_OFF_CAUSE d, key R.dom_SWITCHES d] s v ∧
        w = v.domainUp d ∧ (5 ≤ d → d < 13 → w.fnState .chiplet (d - 5) = stStopped) ∧
        (13 ≤ d → d < 21 → w.fnState .group (d - 13) = stStopped) ∧
        (d = 4 → w.clk.running = true ∧ w.clk.count = 0 ∧ w.clk.slot = 0 ∧ w.rd R.invar_RATE 0 = rateNominal ∧ w.fnState .carve 0 = stStopped) ∧
        (d = 0 ∨ d = 3 ∨ 21 ≤ d → w = v) ∧ u = w.beginSwitch)) ∧
      (q.on = false → Does .domainSwitched s (fun u => ∃ v w : State, v.pwr = { s.pwr with switching := none } ∧
        v.rd R.dom_DOMAIN_STATE d = 1 ∧ Only [.pwr] [key R.dom_DOMAIN_STATE d] s v ∧ w.rd R.dom_DOMAIN_STATE d = 0 ∧
        w.rd R.dom_OFF_CAUSE d = q.cause ∧
        Only [] [key R.dom_DOMAIN_STATE d, key R.dom_OFF_CAUSE d, key R.dom_SWITCHES d] (v.domainLost d) w ∧ u = w.beginSwitch))) ∧
    (∀ k, k < 8 →
      (s.domOn (21 + k) = false ∨ s.stackUp k = true → ∀ ok, DoesNothing (.stackTrained k ok) s) ∧
      (s.domOn (21 + k) = true → s.stackUp k = false →
        Does (.stackTrained k true) s (fun u => u.stackUp k = true ∧ Only [] [key R.slots_STACK_UP k] s u) ∧
        Does (.stackTrained k false) s (fun u => u = ((s.fault (0x040 + k) 0x14 0).dropDomain (21 + k) 0).beginSwitch ∧
          u.rd R.dom_DOMAIN_STATE (21 + k) = 0 ∧ u.rd R.dom_OFF_CAUSE (21 + k) = 0)))

/-- R583 to R588. -/
def Obligations.MonitorsAct : Prop :=
  ∀ s : State,
    (∀ rail mv us goodMs, rail < 30 → mv < 65536 →
      let uv := mv * 1000
      let keys := [key R.rail_MV rail, key R.rail_IN_BAND rail, key R.rail_MAX_MV rail, key R.rail_MIN_MV rail, key R.gasp_VLG_MV 0,
        key R.gasp_LG_READY 0]
      let lo := (s.railBand rail).1
      let hi := (s.railBand rail).2
      let out := uv < lo ∨ hi < uv
      let five := s.railNominal rail * 5 / 100
      let hard := 2 ≤ us ∧ (uv + five < lo ∨ hi + five < uv)
      let sent := out ∧ 10 ≤ us ∧ (rail ∉ s.pwr.railSent ∨ 1 ≤ goodMs)
      let shown (v : State) : Prop := v.rd R.rail_MV rail = mv ∧ v.rd R.rail_IN_BAND rail = (if out then 0 else 1) ∧
        v.rd R.rail_MAX_MV rail = max mv (s.rd R.rail_MAX_MV rail) ∧
        v.rd R.rail_MIN_MV rail = (if rail ∉ s.pwr.measured then mv else min mv (s.rd R.rail_MIN_MV rail)) ∧
        (rail = 5 → v.rd R.gasp_VLG_MV 0 = mv ∧ v.rd R.gasp_LG_READY 0 = (if 3100 ≤ mv then 1 else 0)) ∧
        (sent → v.rd R.rail_OUT_COUNT rail = (s.rd R.rail_OUT_COUNT rail + 1) % 2 ^ 32 ∧ rail ∈ v.pwr.railSent ∧
          ((mget [] s.coll.held 1).length < 16 → mget [] v.coll.held 1 = mget [] s.coll.held 1 ++ [⟨0x23, rail, false, s.clk.ticks⟩])) ∧
        (¬sent → v.pwr.railSent = s.pwr.railSent ∧ Only [.pwr] keys s v) ∧ rail ∈ v.pwr.measured ∧ Only [.pwr, .coll] (key R.rail_OUT_COUNT rail :: key R.src_LOST 1 :: keys) s v
      Does (.railOut rail mv us goodMs) s (fun u => (¬hard → shown u) ∧ (hard → ∃ v, shown v ∧ u = v.railHard rail uv))) ∧
    (∀ (n : Nat) (t : Int), n < 17 → -(2 : Int) ^ 31 ≤ t → t < 2 ^ 31 →
      let keys := [key R.temp_TEMP n, key R.temp_MAX n, key R.prst_DIE_SPREAD 0]
      let shown (ps : List Part) (ks : List Nat) (v : State) : Prop := v.rdI R.temp_TEMP n = t ∧ v.rdI R.temp_MAX n = (if 32 + n ∈ s.pwr.measured then max t (s.rdI R.temp_MAX n) else t) ∧ 32 + n ∈ v.pwr.measured ∧
        Only ps (keys ++ ks) s v
      let told (kind : Nat) (v : State) : Prop := (mget [] s.coll.held 1).length < 16 →
        mget [] v.coll.held 1 = mget [] s.coll.held 1 ++ [⟨kind, n, false, s.clk.ticks⟩]
      let lim := s.rdI R.temp_HIGH_LIMIT n
      (∀ low : Int,
        (lim ≤ t → n ∉ s.pwr.hotSent ∨ low ≤ lim - 5000 → Does (.tempHigh n low t) s (fun u => told 0x21 u ∧ n ∈ u.pwr.hotSent ∧
          u.rd R.temp_HIGH_EVENTS n = (s.rd R.temp_HIGH_EVENTS n + 1) % 2 ^ 32 ∧
          shown [.pwr, .coll] [key R.temp_HIGH_EVENTS n, key R.src_LOST 1] u)) ∧
        (t < lim ∨ (n ∈ s.pwr.hotSent ∧ lim - 5000 < low) → Does (.tempHigh n low t) s (fun u => shown [.pwr] [] u ∧ u.pwr.hotSent = s.pwr.hotSent))) ∧
      (tempCrit n ≤ t → Does (.tempCrit n t) s (fun u => told 0x22 u ∧ shown [.pwr, .coll] [key R.src_LOST 1] u)) ∧
      (t < tempCrit n → Does (.tempCrit n t) s (shown [.pwr] [])) ∧
      (tempTrip n ≤ t → Does (.thermalTrip n t) s (fun u => ∃ v w : State, shown [.pwr] [] v ∧
        w = (v.enterReset 6).each dropOrder (fun x d => x.dropDomain d 4) ∧
        u.pwr = { w.afterReset.pwr with thermalHold := true, dropping := false } ∧ u.clk.running = false ∧ Only [.pwr] [] w.afterReset u)) ∧
      (t < tempTrip n → Does (.thermalTrip n t) s (shown [.pwr] []))) ∧
    (∀ ts : List Int, ts.length = 17 → (∀ t ∈ ts, -(2 : Int) ^ 31 ≤ t ∧ t < 2 ^ 31) →
      let v := s.each ts.zipIdx (fun x e => x.showTemp e.2 e.1)
      let ends := s.pwr.thermalHold = true ∧ ∀ t ∈ ts, t ≤ 85000
      let kept := s.pwr.pinLow = true ∨ s.pwr.internal ≠ none ∨ s.pwr.gasp ≠ none
      (ends → ¬kept → Does (.thermalRecover ts) s (fun u => u.pwr = { v.pwr with thermalHold := false, inReset := false, bootDue := true } ∧
        u.rd R.prst_RESET_HELD 0 = 0 ∧ u.rd R.prst_BOOT_STATE 0 = 1 ∧
        Only [.pwr] [key R.prst_RESET_HELD 0, key R.prst_RESET_HELD_TIME 0, key R.prst_BOOT_STATE 0] v u)) ∧
      (ends → kept → Does (.thermalRecover ts) s (fun u => u.pwr = { v.pwr with thermalHold := false } ∧ Only [.pwr] [] v u)) ∧
      (¬ends → Does (.thermalRecover ts) s (fun u => u = v))) ∧
    (∀ up : Bool,
      let c := s.rd R.prst_AVS_CODE 0
      let f := s.rd R.prst_FACTORY_CODE 0
      let c' := if s.on R.prst_AVS_ENABLE 0 then (if up then min 60 (c + 1) else c - 1) else if c < f then c + 1 else if f < c then c - 1 else c
      let may := s.coreOn = true ∧ s.past s.pwr.coreOnTick (ticksMs 10) = true ∧ s.past s.pwr.avsTick (ticksUs 100) = true ∧ c' ≠ c
      (may → Does (.avsStep up) s (fun u => u.rd R.prst_AVS_CODE 0 = c' ∧ u.pwr = { s.pwr with avsTick := s.clk.ticks } ∧ Puts [.pin 2 c'] s u ∧
        Only [.pwr, .out] [key R.prst_AVS_CODE 0] s u)) ∧
      (¬may → DoesNothing (.avsStep up) s)) ∧
    (s.coreOn = false ∨ s.pwr.inReset = true → DoesNothing .corePllLoss s) ∧
    (s.coreOn = true → s.pwr.inReset = false → Does .corePllLoss s (fun u => u = s.startInternal 7 ∧ u.pwr.inReset = true ∧ u.pwr.cause = 7))

/-- R589 to R592 and R606 to R608. -/
def Obligations.ResetsAndLastGasp : Prop :=
  ∀ s : State,
    let emptied (c : Nat) (u : State) : Prop := ∃ w : State, w = (s.enterReset c).each dropOrder (fun t d => t.dropDomain d 5) ∧
      u = w.afterReset ∧ u.clk.running = false ∧ u.ep.linkUp = false ∧ u.sto = State.reset.sto ∧ u.tab = State.reset.tab ∧
      u.fab = State.reset.fab ∧ u.acc.slotWrites = [] ∧ u.pwr.switching = none ∧ u.pending = w.pending
    let released (v u : State) : Prop := u.pwr = { v.pwr with inReset := false, bootDue := true } ∧ u.rd R.prst_RESET_HELD 0 = 0 ∧ u.rd R.prst_BOOT_STATE 0 = 1 ∧
      u.rd R.prst_RESET_HELD_TIME 0 = min ((s.clk.ticks - s.pwr.resetSince) / 1250000) (2 ^ 32 - 1) ∧
      Only [.pwr] [key R.prst_RESET_HELD 0, key R.prst_RESET_HELD_TIME 0, key R.prst_BOOT_STATE 0] v u
    (∀ n, (s.pwr.gasp ≠ none ∨ n < 25 → DoesNothing (.resetAssert n) s) ∧
      (s.pwr.gasp = none → 25 ≤ n → n < 250 → Does (.resetAssert n) s (fun u =>
        u.rd R.prst_RESET_GLITCHES 0 = (s.rd R.prst_RESET_GLITCHES 0 + 1) % 2 ^ 32 ∧ Only [] [key R.prst_RESET_GLITCHES 0] s u)) ∧
      (s.pwr.gasp = none → 250 ≤ n → s.pwr.inReset = true → Does (.resetAssert n) s (fun u => u.pwr = { s.pwr with pinLow := true } ∧
        Only [.pwr] [] s u)) ∧
      (s.pwr.gasp = none → 250 ≤ n → s.pwr.inReset = false → Does (.resetAssert n) s (fun u => ∃ v w : State,
        v.pwr = { s.pwr with pinLow := true } ∧ Only [.pwr] [] s v ∧ w = (v.enterReset 1).each dropOrder (fun t d => t.dropDomain d 5) ∧
        u = w.afterReset ∧ u.clk.running = false ∧ u.ep.linkUp = false ∧ u.sto = State.reset.sto ∧ u.tab = State.reset.tab))) ∧
    (let v : State := { s with pwr := { s.pwr with pinLow := false } }
     let free := s.pwr.pinLow = true ∧ s.pwr.inReset = true ∧ s.pwr.internal = none ∧ s.pwr.thermalHold = false ∧ s.pwr.gasp = none
     (free → Does .resetRelease s (released v)) ∧ (¬free → Does .resetRelease s (fun u => u = v))) ∧
    (∀ who, let u := s.takeEffect ⟨who, key R.prst_DEVICE_RESET 0, 1, []⟩
      (s.pwr.inReset = true → u = s) ∧
      (s.pwr.inReset = false → u.pwr = { s.pwr with inReset := true, resetSince := s.clk.ticks, cause := 4, bootDue := false, internal := some s.clk.ticks, dropping := true } ∧
        u.rd R.prst_RESET_HELD 0 = 1 ∧ u.rd R.prst_BOOT_STATE 0 = 0 ∧ u.ep.linkUp = false ∧ u.ep.reads = [])) ∧
    (s.pwr.dropping = false → DoesNothing .internalReset s) ∧
    (s.pwr.dropping = true → Does .internalReset s (fun u => ∃ w : State, w = (s.each dropOrder (fun t d => t.dropDomain d 5)).afterReset ∧
      u.pwr = { w.pwr with dropping := false } ∧ Only [.pwr] [] w u ∧ u.clk.running = false ∧ u.ep.linkUp = false ∧ u.sto = State.reset.sto)) ∧
    (∀ t, s.pwr.internal = some t → s.past t (ticksMs 1) = true → s.pwr.dropping = false →
      let v : State := { s with pwr := { s.pwr with internal := none } }
      (s.pwr.pinLow = true ∨ s.pwr.thermalHold = true → Does .internalResetRelease s (fun u => u = v)) ∧
      (s.pwr.pinLow = false → s.pwr.thermalHold = false → Does .internalResetRelease s (released v))) ∧
    (s.pwr.internal = none ∨ s.pwr.dropping = true → DoesNothing .internalResetRelease s) ∧
    (∀ t, s.pwr.internal = some t → s.past t (ticksMs 1) = false → DoesNothing .internalResetRelease s) ∧
    (s.pwr.gasp ≠ none → DoesNothing .lastGasp s) ∧
    (s.pwr.gasp = none → Does .lastGasp s (fun u => u.pwr.gasp = some s.stageGasp ∧ u.pwr.internal = none ∧ u.pwr.bootDue = false ∧
      ∃ v, emptied 8 v ∧ Only [.pwr] [] v u)) ∧
    (∀ n us, n ≤ 5 → us < 2 ^ 32 →
      (s.pwr.gasp = none → DoesNothing (.lastGaspDone n us) s) ∧
      (∀ g, s.pwr.gasp = some g → Does (.lastGaspDone n us) s (fun u => u.pwr.gasp = none ∧ u.pwr.bootDue = true ∧ u.pwr.inReset = s.pwr.inReset ∧
        u.pwr.cause = (if n = 5 then 8 else 0) ∧ u.pwr.otp = s.pwr.otp ∧ u.pwr.flash = s.pwr.flash ∧ Only [.pwr] sincePowerOn s u ∧
        (∀ k ∈ sincePowerOn, u.val k = dictDefault k) ∧
        u.pwr.mram.saveSeq = (if 1 ≤ n then g.seq else s.pwr.mram.saveSeq) ∧ u.pwr.mram.retired = (if 2 ≤ n then g.retired else s.pwr.mram.retired) ∧
        u.pwr.mram.time = (if 3 ≤ n then g.time else if n = 0 then s.pwr.mram.time else none) ∧
        (n = 5 → u.pwr.mram.saves = (s.pwr.mram.saves + 1) % 2 ^ 32 ∧ u.pwr.mram.lastSaveUs = us) ∧
        (n < 5 → u.pwr.mram.saves = s.pwr.mram.saves))))

/-- R594, R595, R600, R602, R604 and R605. -/
def Obligations.BootFlashAndRecords : Prop :=
  ∀ s : State,
    (∀ upTo trained chiplets images ms cfg, trained < 256 → chiplets < 256 → images < 256 → ms < 2 ^ 32 →
      (∀ c : LinkConfig, cfg = some c → c.ok = true) →
      let b : Instr := .boot ⟨upTo, trained⟩ chiplets images ms cfg
      let finds : BootFinds := ⟨trained, chiplets, images, ms⟩
      let at_ (v : State) (n : Nat) : Prop := v.rd R.prst_BOOT_STATE 0 = n ∧ v.rd R.prst_HALT_CAUSE 0 = 0
      let halted (v : State) (cause : Nat) : Prop := v.rd R.prst_BOOT_STATE 0 = 9 ∧ v.rd R.prst_HALT_CAUSE 0 = cause
      let s1 := s.bootStep1
      let s2 := s.bootStep2
      let s3 := s.bootStep3
      let s5 := s.bootStep5 chiplets trained
      (s.bootNow = 0 → DoesNothing b s) ∧
      (s.bootNow ≠ 0 → Does b s (fun u => ∃ v, v = s.bootRun upTo finds ∧
        u = if v.rd R.prst_BOOT_STATE 0 = 8 ∨ v.rd R.prst_BOOT_STATE 0 = 9 then v.bootLinkUp cfg else v)) ∧
      (1 ≤ s.bootNow → s.bootNow ≤ 7 → s.bootRun s.bootNow finds = s.bootStep s.bootNow finds ∧
        (upTo < s.bootNow → s.bootRun upTo finds = s)) ∧
      (s1.rd R.ident_INCARNATION 0 = (nextIncarnation (keepSections s.pwr.mram)).1 ∧ s1.rd R.prst_LAST_RESET_CAUSE 0 = s.pwr.cause ∧
        s1.rd R.prst_RESET_HELD 0 = 0 ∧ s1.pwr.inReset = false ∧ s1.pwr.bootDue = false ∧ s1.rd R.dom_DOMAIN_STATE 3 = 1 ∧ at_ s1 2) ∧
      (s.liveGen = none → halted s2 1 ∧ ∀ d, s2.domOn d = s.domOn d) ∧
      (∀ g, s.liveGen = some g →
        (s.railsGood = false → s2.rd R.prst_BOOT_STATE 0 = s.rd R.prst_BOOT_STATE 0 ∧
          Only [] ((List.range 4).map (key R.settings_GEN_STATE)) s s2) ∧
        (s.railsGood = true → at_ s2 3 ∧ s2.rd R.ident_SETTINGS_GEN 0 = g ∧ s2.rd R.prst_NEXT_BOOT_GEN 0 = 0xFF ∧ s2.clk.running = true ∧
          s2.domOn 4 = true ∧ s2.domOn 1 = true ∧ s2.domOn 2 = true)) ∧
      (s.rd R.pewter_STATE 0 = 4 → s.rd R.pewter_STATE 1 = 4 → halted s3 2 ∧
        Only [] [key R.prst_BOOT_STATE 0, key R.prst_HALT_CAUSE 0] s s3) ∧
      (s.rd R.pewter_STATE 0 ≠ 4 ∨ s.rd R.pewter_STATE 1 ≠ 4 → (s3.rd R.svc_ACTIVE_PEWTER 0 ≠ 0 → at_ s3 4) ∧
        (s3.rd R.svc_ACTIVE_PEWTER 0 = 0 → s3.rd R.prst_BOOT_STATE 0 = s.rd R.prst_BOOT_STATE 0)) ∧
      (∀ n, 4 ≤ n → n ≤ 7 → s.rd R.svc_ACTIVE_PEWTER 0 = 0 → s.bootStep n finds = s) ∧
      (let t := s.bootBoard
       let none_ := t.rd R.board_STATUS 0 ≠ 2 ∧ t.setting 518 518 = 1
       (none_ → halted s.bootStep4 3) ∧ (¬none_ → at_ s.bootStep4 5)) ∧
      (at_ s5 6 ∧ ∀ k, k < 8 → s5.domOn (5 + k) = true ∧ s5.domOn (21 + k) = bit trained k ∧
        s5.fnState .chiplet k = (if bit chiplets k = true then stStopped else stFaulted)) ∧
      (at_ (s.bootStep6 images) 7 ∧ (s.bootStep6 images).rd R.svc_SERVICE_STATE 0 = 1) ∧
      (at_ (s.bootStep7 ms) 8 ∧ (s.bootStep7 ms).rd R.prst_BOOT_TIME 0 = ms)) ∧
    (∀ who op addr data, let u := s.takeEffect ⟨who, key R.flash_CMD 0, op, [addr, data]⟩
      (s.rd R.flash_STATUS 0 = 1 → u = s) ∧
      (s.rd R.flash_STATUS 0 ≠ 1 → u.rd R.flash_STATUS 0 = 1 ∧ u.pwr = { s.pwr with flashCmd := some (op, addr, pageOctets data 256) } ∧
        Only [.pwr] [key R.flash_STATUS 0] s u)) ∧
    (s.pwr.flashCmd = none → ∀ ok, DoesNothing (.flashDone ok) s) ∧
    (∀ op addr data, s.pwr.flashCmd = some (op, addr, data) →
      let aligned := op = 1 ∨ (op = 2 ∧ addr % 256 = 0) ∨ (op = 3 ∧ addr % 65536 = 0)
      (∀ ok, ok = false ∨ ¬aligned → Does (.flashDone ok) s (fun u => u.rd R.flash_STATUS 0 = 3 ∧ u.pwr = { s.pwr with flashCmd := none } ∧
        Only [.pwr] [key R.flash_STATUS 0] s u)) ∧
      (aligned → Does (.flashDone true) s (fun u => u.rd R.flash_STATUS 0 = 2 ∧ u.pwr.flashCmd = none ∧ Puts [.flash op addr data] s u ∧
        (op = 1 → u.rd R.flash_DATA 0 = domOf (flashOctets s addr 256) ∧ u.pwr.flash = s.pwr.flash) ∧
        (op = 2 → u.pwr.flash = flashPut s.pwr.flash addr data) ∧
        (op = 3 → ∀ a, mget 0xFF u.pwr.flash a = if a / 65536 = addr / 65536 then 0xFF else mget 0xFF s.pwr.flash a) ∧
        Only [.pwr, .out] [key R.flash_STATUS 0, key R.flash_DATA 0] s u))) ∧
    (∀ (who : Accessor) (val : Nat), who.ok = true → val < 65536 → Accepted s who (key R.prst_OTP_UNLOCK 0) (typeLen (key R.prst_OTP_UNLOCK 0)) val →
      Does (.otpUnlock who val) s (fun u => Answered s u daOk ∧ u.pwr = { s.pwr with unlock := some s.clk.ticks } ∧
        Only [.acc, .pwr] [key R.svc_REQUESTS 0] s u)) ∧
    (∀ (who : Accessor) (g : Nat) (bytes : List Nat), who.ok = true → g < 4 → bytes.length ≤ 256 → (∀ b ∈ bytes, b < 256) →
      Accepted s who (key R.settings_RECORD g) bytes.length (domOf bytes) →
      Does (.record who g bytes) s (fun u => Answered s u daOk ∧ u.rd R.settings_PROGRAM_STATUS g = 1 ∧
        u.pwr = { s.pwr with programming := some (g, recordBits (domOctets (written (key R.settings_RECORD g) (domOf bytes)))) } ∧
        Only [.acc, .pwr] [key R.svc_REQUESTS 0, key R.settings_PROGRAM_STATUS g] s u)) ∧
    (s.pwr.programming = none → ∀ ok, DoesNothing (.otpProgramDone ok) s) ∧
    (∀ g w, s.pwr.programming = some (g, w) →
      Does (.otpProgramDone true) s (fun u => u.rd R.settings_PROGRAM_STATUS g = 2 ∧ u.rd R.settings_GEN_STATE g = 1 ∧
        u.pwr = { s.pwr with programming := none, otp := s.pwr.otp.set g w } ∧
        Only [.pwr] [key R.settings_PROGRAM_STATUS g, key R.settings_GEN_STATE g] s u) ∧
      Does (.otpProgramDone false) s (fun u => ∃ f, f < 2 ^ 2048 ∧ u.rd R.settings_PROGRAM_STATUS g = 3 ∧ u.rd R.settings_GEN_STATE g = recordState f ∧
        u.pwr = { s.pwr with programming := none, otp := s.pwr.otp.set g f } ∧
        Only [.pwr, .freeIx] [key R.settings_PROGRAM_STATUS g, key R.settings_GEN_STATE g] s u))

/-! ## The far tier, the store's middle, tables, wheels -/

/-- R278 to R282 and R287. -/
def Obligations.FarTierTransfers : Prop :=
  ∀ (s : State) (k c : Nat), k < 8 → c < 24 →
    (∀ t, t < 100 →
      let g := s.clk.slot * 100 + t
      let row : Instr := .transferSlot k c t
      let moved (u : State) : Prop := mget 0 u.bab.next (k * 24 + c) = g + 1
      (s.stackUp k = false ∨ g < mget 0 s.bab.next (k * 24 + c) → DoesNothing row s) ∧
      (s.stackUp k = true → mget 0 s.bab.next (k * 24 + c) ≤ g →
        (s.arbitrate k c g = none → Does row s (fun u => moved u ∧
          u.rd R.slots_IDLE_TRANSFERS k = (s.rd R.slots_IDLE_TRANSFERS k + 1) % 2 ^ 64 ∧ Only [.bab] [key R.slots_IDLE_TRANSFERS k] s u)) ∧
        (∀ x owned, s.arbitrate k c g = some (x, owned) →
          let r := if owned then R.bcls_OWNED else R.bcls_BACKGROUND
          x ∈ s.waitingAt k ∧ s.eligible k c g x = true ∧ (owned = true → x.cls = s.slotClass k c g) ∧
          (owned = false → s.slotClass k c g ≠ 0 → ∀ y ∈ s.waitingAt k, s.eligible k c g y = true → y.cls ≠ s.slotClass k c g) ∧
          Does row s (fun u => moved u ∧ u.bab.taken = s.bab.taken ++ [⟨x, k, c, g⟩] ∧
            (u.waitingAt k).length + 1 = (s.waitingAt k).length ∧ (∀ y ∈ u.waitingAt k, y ∈ s.waitingAt k) ∧ u.bab.accs = s.bab.accs ∧
            u.rd r (8 * k + x.cls) = (s.rd r (8 * k + x.cls) + 1) % 2 ^ 64 ∧ Only [.bab] [key r (8 * k + x.cls)] s u)))) ∧
    (∀ errs : List (Nat × Nat),
      let row : Instr := .transferComplete k c errs
      (s.nextTaken k c = none → DoesNothing row s) ∧
      (∀ t, s.nextTaken k c = some t →
        let x := mfind s.bab.accs t.x.acc
        let one (u : State) : Prop := u.bab.taken = lerase (fun y => y == t) s.bab.taken
        (s.now < t.endsAt → DoesNothing row s) ∧
        (t.endsAt ≤ s.now →
          (x = none → Does row s (fun u => one u ∧ Only [.bab, .tab] [] s u)) ∧
          (∀ y, x = some y → 2 ≤ y.left → Does row s (fun u => one u ∧ mfind u.bab.accs t.x.acc = some { y with left := y.left - 1 } ∧
            Only [.bab, .tab] [] s u)) ∧
          (∀ y, x = some y → y.left ≤ 1 →
            (∀ q p ch, y.owner = .spill q p ∨ y.owner = .fill q p ∨ y.owner = .chan ch → Does row s (fun u => one u ∧
              mfind u.bab.accs t.x.acc = some { y with left := 0 } ∧ Only [.bab, .tab] [] s u)) ∧
            (∀ n, y.owner = .scan n ∨ y.owner = .telem ∨ y.owner = .scrub ∨ (y.owner = .posted ∧ n = 0) → Does row s (fun u =>
              mfind u.bab.accs t.x.acc = none ∧ Only [.bab, .tab] [] s u)) ∧
            Does row s (fun u => ∃ v : State, one v ∧ mfind v.bab.accs t.x.acc = some { y with left := 0 } ∧ Only [.bab, .tab] [] s v ∧
              u = v.accReady t.x.acc ∧
              ∀ id, y.owner = .window id → u = if v.allDone (.window id) = true then v.winReply id else v)))))

/-- R241, R254, R255, R258, R267, R268 and R275. -/
def Obligations.PagesSpillAndFill : Prop :=
  ∀ (s : State) (q : Nat), queueExists q = true →
    let x := s.queue q
    let pr := s.profile q
    let may := qKind q ≠ 2 ∧ s.coreOn = true ∧ s.on R.qprof_SPILL_EN pr = true ∧ s.spillsOut q < s.rd R.qprof_SPILL_AHEAD pr
    (¬may ∨ s.nextStack q = none → DoesNothing (.spillIssue q) s) ∧
    (∀ k, may → s.nextStack q = some k →
      (∀ n, x.abandoned = some n → Does (.spillIssue q) s (fun u => u = s.startSpill q n k ∧
        ∃ page, u.sto.pagesUsed = page :: s.sto.pagesUsed)) ∧
      (x.abandoned = none → ¬(s.spillOn q < s.sharedCount q ∧ s.pageCount q < s.farLimit q) ∨ s.spillStart q = none →
        DoesNothing (.spillIssue q) s) ∧
      (∀ a, x.abandoned = none → s.spillOn q < s.sharedCount q → s.pageCount q < s.farLimit q → s.spillStart q = some a →
        Does (.spillIssue q) s (fun u => u = (s.setQueue q (x.openPage a)).startSpill q ((x.openPage a).pages.length - 1) k ∧
          (x.openPage a).pages.length = x.pages.length + 1 ∧ ∃ page, u.sto.pagesUsed = page :: s.sto.pagesUsed))) ∧
    (let done (st : Nat) (owner : Nat → Acc2) (p : Page) : Bool := p.state == st && (match s.pageAcc (owner p.page) with
        | some a => s.accDone a
        | none => false)
     let written := x.pageAt (done 0 (fun p => .spill q p))
     let filled := x.pageAt (done 2 (fun p => .fill q p))
     (written = none → DoesNothing (.spillComplete q) s) ∧
     (∀ n p a, written = some n → x.pages[n]? = some p → s.pageAcc (.spill q p.page) = some a → Does (.spillComplete q) s (fun u =>
       ∃ v w : State, v = (s.dropAcc a).each ((s.pageCells q n).zip p.near) (fun t c => t.releaseCell c.1.1 c.1.2 c.2) ∧
         w.queue q = { v.queue q with pages := lmodify (v.queue q).pages n (fun y => { y with state := 1, near := [], poisoned := (p.near.zipIdx.filter (fun c => c.1 == 2 || c.1 == 3)).map (·.2) }) } ∧
         w.rd R.store_SPILLED_PAGES 0 = (v.rd R.store_SPILLED_PAGES 0 + 1) % 2 ^ 64 ∧ Only [.sto] [key R.store_SPILLED_PAGES 0] v w ∧
         u = w.restall q)) ∧
     (∀ (corrected : Nat) (bad : List Nat), (∀ i ∈ bad, i < 512) → filled = none → DoesNothing (.fillComplete q corrected bad) s) ∧
     (∀ n p a corrected (bad : List Nat), (∀ i ∈ bad, i < 512) → filled = some n → x.pages[n]? = some p → s.pageAcc (.fill q p.page) = some a →
       Does (.fillComplete q corrected bad) s (fun u => ∃ v w : State, v = (s.tenantPage (s.pageCells q n) (· - 1)).dropAcc a ∧
         w.queue q = { v.queue q with
           ents := zeroReplicas ((v.replicaCells q).drop ((v.queue q).head.length + 16 * n)) bad (v.queue q).ents
           pages := lmodify (v.queue q).pages n (fun y => { y with state := 3, near := filledCells p.poisoned bad }) } ∧
         w.rd R.store_PKT_POISONED 0 = (if bad = [] then v.rd R.store_PKT_POISONED 0 else (v.rd R.store_PKT_POISONED 0 + 1) % 2 ^ 64) ∧
         w.rd R.store_FILLED_PAGES 0 = (v.rd R.store_FILLED_PAGES 0 + 1) % 2 ^ 64 ∧
         w.rd R.store_PKT_CORRECTED 0 = (v.rd R.store_PKT_CORRECTED 0 + corrected) % 2 ^ 64 ∧
         Only [.sto, .bab, .coll] [key R.store_FILLED_PAGES 0, key R.store_PKT_CORRECTED 0, key R.store_PKT_POISONED 0, key R.src_LOST 0x10] v w ∧
         u = (w.freeThePage p.page (p.retire || !bad.isEmpty)).join q))) ∧
    (let next := x.pageAt (fun p => p.state == 0 || p.state == 1 || p.state == 4)
     let near := x.head.length + 16 * (x.pages.filter (fun p => p.state == 2 || p.state == 3)).length
     (next = none ∨ s.rd R.qprof_FILL_LEVEL pr ≤ near → DoesNothing (.fillIssue q) s) ∧
     (∀ n p, next = some n → x.pages[n]? = some p → near < s.rd R.qprof_FILL_LEVEL pr →
       (p.state = 4 → Does (.fillIssue q) s (fun u => u = s.join q)) ∧
       (p.state ≠ 4 → p.lost = true → Does (.fillIssue q) s (fun u => u = s.passLost q n)) ∧
       (p.state = 0 → p.lost = false → DoesNothing (.fillIssue q) s) ∧
       (p.state = 1 → p.lost = false → s.stackUp (p.page / 2 ^ 22) = false → DoesNothing (.fillIssue q) s) ∧
       (p.state = 1 → p.lost = false → s.stackUp (p.page / 2 ^ 22) = true →
         (s.fillFreeNow < 16 → p.waited = true → DoesNothing (.fillIssue q) s) ∧
         (s.fillFreeNow < 16 → p.waited = false → Does (.fillIssue q) s (fun u =>
           u.rd R.store_FILL_WAITS 0 = (s.rd R.store_FILL_WAITS 0 + 1) % 2 ^ 64 ∧
           u.queue q = { x with pages := lmodify x.pages n (fun y => { y with waited := true }) } ∧
           Only [.sto] [key R.store_FILL_WAITS 0] s u)) ∧
         (16 ≤ s.fillFreeNow → Does (.fillIssue q) s (fun u => u.sto.fillUsed = s.sto.fillUsed + 16 ∧
           u.queue q = { x with pages := lmodify x.pages n (fun y => { y with state := 2 }) } ∧
           mfind u.bab.accs s.bab.nextAcc = some ⟨.fill q p.page, p.page / 2 ^ 22, 64⟩ ∧ Only [.sto, .bab] [] s u))))) ∧
    (∀ who k, k < 8 → let u := s.takeEffect ⟨who, key R.retire_CLEAR k, 1, []⟩
      u.rd R.retire_RETIRED k = 0 ∧ (∀ p, p ∈ u.pwr.mram.retired ↔ p ∈ s.pwr.mram.retired ∧ p / 2 ^ 22 ≠ k) ∧
      u.sto = { s.sto with cleared := s.sto.cleared ++ s.pwr.mram.retired.filter (fun p => p / 2 ^ 22 == k) } ∧
      Only [.pwr, .sto] [key R.retire_RETIRED k] s u)

/-- R208, R209, R215 to R222 and R231. -/
def Obligations.CommandChannels : Prop :=
  ∀ (s : State) (c : Nat), c < 8 →
    (∀ (who : Accessor) (cmd : Nat), who.ok = true → cmd < 2 ^ 64 → Accepted s who (key R.chan_CMD c) (typeLen (key R.chan_CMD c)) cmd →
      let accepted (i : Instr) : Prop := Does i s (fun u => Answered s u daOk ∧
        mfind u.tab.chans c = some ⟨written (key R.chan_CMD c) cmd, who.principal, s.latest R.chan_ARG0 c, s.latest R.chan_ARG1 c,
          s.latestRun R.chan_DATA0 c 32, 0, s.latest R.chan_ARG0 c, 0, [], 0, 0, 0, []⟩ ∧
        u.rd R.chan_STATUS c = 2 ^ 63 + s.rd R.chan_STATUS c % 2 ^ 62 ∧
        Only [.tab, .acc] [key R.chan_STATUS c, key R.svc_REQUESTS 0] s u)
      (cmdOp cmd = 1 → accepted (.tableRead who c cmd)) ∧ (cmdOp cmd = 2 → accepted (.tableWrite who c cmd)) ∧
      (cmdOp cmd = 3 → accepted (.insert who c cmd)) ∧ (cmdOp cmd = 4 → accepted (.delete who c cmd)) ∧
      (cmdOp cmd = 5 → accepted (.move who c cmd)) ∧ (cmdOp cmd = 6 → accepted (.search who c cmd))) ∧
    (∀ errs, s.chan? c = none → DoesNothing (.commandComplete c errs) s) ∧
    (∀ x errs, s.chan? c = some x →
      let row : Instr := .commandComplete c errs
      let accs := s.accsOf (fun o => o == .chan c)
      let published (code loc result : Nat) (out : List Nat) (v u : State) : Prop := u = v.publish c x code loc result out ∧
        u.rd R.chan_STATUS c = statusWord false true code (cmdSeq x.cmd) loc ∧ u.rd R.chan_RESULT c = result ∧ u.chan? c = none ∧
        (out.length ≤ 32 → ∀ i, i < out.length → u.rd (R.chan_DATA0.at i) c = out.getD i 0)
      (x.phase = 0 →
        let r := s.cmdRefusal x
        let route := cmdTable x.cmd = 3 ∧ cmdOp x.cmd = 6
        (r ≠ csOk → (s.startCmd c).chan? c = some { x with phase := 2, code := r } ∧ Only [.tab] [] s (s.startCmd c)) ∧
        (r = csOk → ¬route → s.anyDown (s.cmdReads x) = true →
          (s.startCmd c).chan? c = some { x with phase := 2, code := csUncorrectable } ∧ Only [.tab] [] s (s.startCmd c)) ∧
        (r = csOk → ¬route → s.anyDown (s.cmdReads x) = false →
          (s.startCmd c).chan? c = some { x with phase := 1 } ∧ Only [.tab, .bab] [] s (s.startCmd c))) ∧
      (x.phase = 0 ∨ (∃ a ∈ accs, s.accDone a = false) → DoesNothing row s) ∧
      ((∀ a ∈ accs, s.accDone a = true) →
        let v := s.each accs State.dropAcc
        (x.phase = 2 → Does row s (published x.code x.loc x.result x.out v)) ∧
        (x.phase = 1 → cmdTable x.cmd = 3 → cmdOp x.cmd = 6 → Does row s (fun u => u = (v.strike errs).searchRead c x)) ∧
        (x.phase = 1 → ¬(cmdTable x.cmd = 3 ∧ cmdOp x.cmd = 6) →
          let d := (v.strike errs).cmdWork c x
          (d.writes = [] → Does row s (published d.code d.loc d.result d.out d.s)) ∧
          (d.writes ≠ [] → Does row s (fun u => u.chan? c = some { x with phase := 2, code := d.code, loc := d.loc, result := d.result, out := d.out } ∧
            Only [.tab, .bab] [] d.s u)))))

/-- R213, R229, R231, R306, R307 and R578. -/
def Obligations.ScrubLocksAgeingWheels : Prop :=
  ∀ s : State,
    (∀ t, t < 26 →
      (s.on R.tmnt_LOCK t = true → s.writersOf t = [] → Does (.locked t) s (fun u => u.rd R.tmnt_LOCKED t = 1 ∧ Only [] [key R.tmnt_LOCKED t] s u)) ∧
      (s.on R.tmnt_LOCK t = false ∨ s.writersOf t ≠ [] → DoesNothing (.locked t) s) ∧
      (∀ who v, let u := s.takeEffect ⟨who, key R.tmnt_LOCK t, v, []⟩
        (v ≠ 0 → u.rd R.tmnt_LOCK t = v ∧ Only [] [key R.tmnt_LOCK t] s u) ∧
        (v = 0 → s.tab.deferred = [] → u.rd R.tmnt_LOCK t = 0 ∧ u.rd R.tmnt_LOCKED t = 0 ∧
          Only [] [key R.tmnt_LOCK t, key R.tmnt_LOCKED t] s u))) ∧
    (∀ mem addr, mem < 8 → addr < 2 ^ 40 →
      let off := s.on R.scrub_ENABLE 0 = false ∨ s.coreOn = false ∨ (mem = 0 ∧ s.stackUp (farStack addr) = false) ∨
        (mem = 4 ∧ s.stackUp (addr / 2 ^ 28) = false)
      let passes := [key R.scrub_PASSES 0, key R.scrub_LAST_PASS 0]
      let corrected (u : State) : Prop := u.rd R.scrub_CORRECTED 0 = (s.rd R.scrub_CORRECTED 0 + 1) % 2 ^ 64
      let wrong (v : State) : Prop := Only [.tab, .bab] (key R.scrub_UNCORRECTABLE 0 :: passes) s v ∧
        v.rd R.scrub_UNCORRECTABLE 0 = (s.rd R.scrub_UNCORRECTABLE 0 + 1) % 2 ^ 64
      (off → ∀ found, found < 3 → DoesNothing (.scrubRead mem addr found) s) ∧
      (¬off →
        Does (.scrubRead mem addr 0) s (Only [.tab, .bab] passes s) ∧
        (mem ≠ 0 → mem ≠ 4 → mem ≠ 5 → Does (.scrubRead mem addr 1) s (Only [.tab, .bab] passes s)) ∧
        (mem = 4 ∨ mem = 5 → Does (.scrubRead mem addr 1) s (fun u => corrected u ∧
          u.rd R.store_PKT_CORRECTED 0 = (s.rd R.store_PKT_CORRECTED 0 + 1) % 2 ^ 64 ∧
          Only [.tab, .bab] (key R.scrub_CORRECTED 0 :: key R.store_PKT_CORRECTED 0 :: passes) s u)) ∧
        (mem = 0 → s.farTable addr = none → Does (.scrubRead mem addr 1) s (fun u => corrected u ∧
          Only [.tab, .bab] (key R.scrub_CORRECTED 0 :: passes) s u)) ∧
        (∀ t, mem = 0 → s.farTable addr = some t → Does (.scrubRead mem addr 1) s (fun u => ∃ v : State, corrected v ∧
          Only [.tab, .bab] (key R.scrub_CORRECTED 0 :: passes) s v ∧
          (s.rd R.tbl_STATE t = 3 → s.on R.tmnt_LOCKED t = true → farKey addr ∈ u.tab.deferred) ∧
          (s.rd R.tbl_STATE t = 3 → s.on R.tmnt_LOCKED t = false → msorted s.tab.upsets = true → mfind u.tab.upsets (farKey addr) = none) ∧
          (s.rd R.tbl_STATE t ≠ 3 → u.tab.deferred = s.tab.deferred ∧ u.tab.far = s.tab.far) ∧
          Only [.tab, .bab] [] (v.reportCorrected t 0x014 addr) u)) ∧
        Does (.scrubRead mem addr 2) s (fun u => ∃ v : State, wrong v ∧
          (mem = 0 → s.farTable addr = none → u = v) ∧ (∀ t, mem = 0 → s.farTable addr = some t → u = v.scrubFar t (addr / 8 * 8)) ∧
          (mem = 1 → u = v.scrubNear (addr / 8 * 8)) ∧ (mem = 2 → u = v.scrubLeaf addr) ∧ (mem = 4 → u = v.scrubPage (addr / 64)) ∧ (5 ≤ mem → u = v.scrubReport mem addr) ∧
          (mem = 3 → u = v.scrubTcam addr)))) ∧
    (∀ t, t = 2 ∨ t = 9 →
      (t ∉ s.clk.scans → DoesNothing (.ageingScan t) s) ∧
      (t ∈ s.clk.scans → Does (.ageingScan t) s (fun u => ∃ v : State, v.clk = { s.clk with scans := s.clk.scans.filter (· != t) } ∧
        Only [.clk] [] s v ∧ u = v.ageScan t ∧
        (s.rd R.tmnt_AGE_POLICY t = 0 ∨ s.rd R.tbl_STATE t ≠ 3 ∨ s.on R.tmnt_LOCKED t = true → u = v)))) ∧
    (s.m < s.trf.wheelM → DoesNothing .wheelFineSlot s) ∧
    (s.trf.wheelM ≤ s.m →
      let c := s.coarseSlots
      let slot := c.fineSlot
      let mine := c.fineShapers slot
      (s.trf.carried ≠ [] → slot = s.trf.wheelM) ∧
      (∀ n x d, (n, x) ∈ c.trf.shapers → x.coarse = false → x.due = some d → slot ≤ max d s.trf.wheelM) ∧
      (s.m < slot → Does .wheelFineSlot s (fun u => u.trf = { c.trf with wheelM := s.m + 1 } ∧ Only [.trf] [] s u)) ∧
      (slot ≤ s.m → s.trf.wheelM ≤ slot ∧ mine ≠ [] ∧
        Does .wheelFineSlot s (fun u => u.trf.carried = mine.drop 64 ∧ u.trf.wheelM = slot + 1 ∧
          u.rd R.wheel_WHEEL_SLIPS 0 = (s.rd R.wheel_WHEEL_SLIPS 0 + (mine.drop 64).length) % 2 ^ 64 ∧
          u.trf.shapers = ((mine.take 64).foldl State.creditShaper c).trf.shapers ∧ Only [.trf] [key R.wheel_WHEEL_SLIPS 0] s u))) ∧
    (s.m / 4096 < s.trf.coarseM → DoesNothing .wheelCoarseSlot s) ∧
    (s.trf.coarseM ≤ s.m / 4096 →
      let mine := s.dueShapers true (fun d => d / 4096 ≤ s.m / 4096)
      Does .wheelCoarseSlot s (fun u => (∀ n ∈ mine, (u.shaper n).coarse = false ∧ (u.shaper n).due = (s.shaper n).due ∧
          (u.shaper n).tokens = (s.shaper n).tokens) ∧ (∀ n, n ∉ mine → u.shaper n = s.shaper n) ∧
        u.trf.coarseM = s.m / 4096 + 1 ∧ Only [.trf] [] s u))

/-! ## The packet pipeline: receive, ingress, egress, transmit -/

/-- R24, R82, R114, R356, R363, R364 and R367. -/
def Obligations.FramesReceived : Prop :=
  ∀ (s : State) (port : Nat), port < 768 →
    let more (r : Reg) (u : State) : Prop := u.rd r port = (s.rd r port + 1) % 2 ^ 64
    let named (err : Nat) : List Reg :=
      if err = 1 then [R.pcnt_RX_PCS_ERR] else if err = 2 then [R.pcnt_RX_PCS_ERR, R.pcnt_RX_RATE_SLIPS] else if err = 3 then [R.pcnt_RX_RUNT]
      else if err = 4 then [R.pcnt_RX_OVERSIZE] else if err = 5 then [R.pcnt_RX_FCS_ERR] else []
    let counted (rs : List Reg) (n : Nat) (u : State) : Prop := (∀ r ∈ R.pcnt_RX_FRAMES :: rs, more r u) ∧
      u.rd R.pcnt_RX_BYTES port = (s.rd R.pcnt_RX_BYTES port + n) % 2 ^ 64
    let keys (rs : List Reg) : List Nat := (R.pcnt_RX_FRAMES :: R.pcnt_RX_BYTES :: rs).map (fun r => key r port)
    (∀ (pcs : Nat) (frame : Octets) (tail : Bool) (stamp : Nat), pcs < 3 → (∀ o ∈ frame, o < 256) → frame.length < 65536 →
      let row : Instr := .rxFrame port pcs frame tail stamp
      let n := frame.length
      let most := s.rd R.port_MAX_FRAME port
      let whole : Bool := tail || decide (n ≤ 256)
      let control : Prop := fieldAt frame 12 2 = 0x8808 ∧ 14 ≤ n
      let spoilt := mget 0 s.prt.spoilt port
      let begun : State := if spoilt = 0 then s else { s with prt := { s.prt with spoilt := mput 0 s.prt.spoilt port (spoilt - 1) } }
      let err := if pcs = 2 then 2 else if 0 < spoilt ∨ pcs = 1 then 1 else if n < 64 then 3 else if most < n then 4
        else if crc32 0xFFFFFFFF (frame.take (n - 4)) = leNat (frame.drop (n - 4)) then 0 else 5
      (s.portUp port = false ∨ s.rxBusy port = true → DoesNothing row s) ∧
      (s.portUp port = true → s.rxBusy port = false →
        (control → err = 0 → Does row s (fun u => ∃ v : State, counted [] n v ∧ Only [] (keys []) begun v ∧ u = v.macControl port frame)) ∧
        (control → err ≠ 0 → Does row s (fun u => counted (R.pcnt_RX_CTRL_DISCARD :: named err) n u ∧
          Only [] (keys (R.pcnt_RX_CTRL_DISCARD :: named err)) begun u)) ∧
        (¬control → s.grpRuns (port / 96) = false → Does row s (fun u => counted (R.pcnt_RX_STOP_DISCARD :: named err) n u ∧
          Only [] (keys (R.pcnt_RX_STOP_DISCARD :: named err)) begun u)) ∧
        (s.grpRuns (port / 96) = true →
          (¬control → whole = true → err ≠ 0 → Does row s (fun u => counted (named err) n u ∧ Only [] (keys (named err)) begun u)) ∧
          (¬control → ¬(whole = true ∧ err ≠ 0) →
            (32768 * s.lanesOf port < s.inOctets port + min most n → Does row s (fun u => counted (R.pcnt_RX_OVERRUN :: named err) n u ∧
              Only [] (keys (R.pcnt_RX_OVERRUN :: named err)) begun u)) ∧
            (s.inOctets port + min most n ≤ 32768 * s.lanesOf port → Does row s (fun u =>
              (if whole then counted [] n u ∧ Only [.prt] (keys []) s u else Only [.prt] [] s u) ∧
              u.prt.spoilt = begun.prt.spoilt ∧
              ∃ f : InPkt, u.inbuf port = s.inbuf port ++ [f] ∧ f.frame = frame.take most ∧ f.port = port ∧ f.source = 0 ∧ f.tailIn = whole ∧
                f.bad = false ∧ (∀ p, p ≠ port → u.inbuf p = s.inbuf p))))))) ∧
    (let row : Instr := .frameTail port
     (∀ fid n err, s.prt.arriving.find? (fun x => x.1 == port) = some (port, fid, n, err) →
        let bad := decide (err ≠ 0)
        let rs := if err = 0 then [] else R.pcnt_RX_TAIL_BAD :: named err
        Does row s (fun u => counted rs n u ∧ u.prt.arriving = s.prt.arriving.filter (fun x => x.2.1 != fid) ∧
          (∀ id p, s.pkt? id = some p → p.fid = fid → ∃ p', u.pkt? id = some p' ∧ p'.tailIn = true ∧ p'.bad = (p.bad || bad)) ∧
          (∀ id p, s.pkt? id = some p → p.fid ≠ fid → u.pkt? id = some p) ∧
          Only [.sto, .pip, .prt] (keys rs) s u)) ∧
     (s.prt.arriving.find? (fun x => x.1 == port) = none →
        ((s.inbuf port).find? (fun f => !f.tailIn) = none → DoesNothing row s) ∧
        (∀ f, (s.inbuf port).find? (fun f => !f.tailIn) = some f → Does row s (fun u => counted (named f.err) f.wire u ∧
          u.inbuf port = (if f.err ≠ 0 then (s.inbuf port).filter (fun x => x.fid != f.fid)
            else (s.inbuf port).map (fun x => if x.fid = f.fid then { x with tailIn := true, fid := 0 } else x)) ∧
          Only [.prt] (keys (named f.err)) s u))))

/-- R368, with R309, R310 and R114 for when a frame is sent. -/
def Obligations.PauseFramesSent : Prop :=
  ∀ (s : State) (port : Nat), port < 768 →
    let pause : Prop := s.rd R.psch_FLOW_MODE port = 2
    let quanta := s.rd R.psch_PFC_QUANTA port
    let kind := if s.rd R.psch_FLOW_MODE port = 2 then R.pcnt_TX_PAUSE else R.pcnt_TX_PFC
    let sent (vector : Nat) (time : Nat → Nat) (u : State) : Prop :=
      Puts [.frame port (s.pauseFrame port vector time) false s.now] s u ∧
      u.rd R.pcnt_TX_FRAMES port = (s.rd R.pcnt_TX_FRAMES port + 1) % 2 ^ 64 ∧
      u.rd R.pcnt_TX_BYTES port = (s.rd R.pcnt_TX_BYTES port + 64) % 2 ^ 64 ∧
      u.rd kind port = (s.rd kind port + 1) % 2 ^ 64 ∧
      mget 0 u.prt.txEnd port = s.clk.ticks + s.wireTicks port 64 ∧ mget 0 u.trf.pauseSent port = s.clk.ticks ∧
      Only [.out, .prt, .trf] [key R.pcnt_TX_FRAMES port, key R.pcnt_TX_BYTES port, key kind port] s u
    let now := s.xoffVector port
    let due : Prop := s.trf.pauseDue.contains port = true
    let able : Prop := s.portUp port = true ∧ mget 0 s.prt.txEnd port ≤ s.clk.ticks ∧ s.rd R.psch_FLOW_MODE port ≠ 0
    let runs : Prop := s.grpRuns (port / 96) = true
    let refresh : Prop := now ≠ 0 ∧ ¬due ∧ able ∧ runs ∧ s.past (mget 0 s.trf.pauseSent port) (s.quantaTicks port quanta / 2) = true
    let hold : Prop := ¬runs ∧ s.rd R.grp_STOP_ACTION (port / 96) = 1 ∧ able ∧ s.holdVector port ≠ 0 ∧
      ∀ t, mfind s.prt.holdSent port = some t → s.past t (s.quantaTicks port 0xFFFF / 2) = true
    (∀ (vector : Nat) (time : Nat → Nat), vector < 256 →
      let f := s.pauseFrame port vector time
      f.length = 64 ∧ fieldAt f 0 6 = 0x0180C2000001 ∧ fieldAt f 6 6 = s.rd R.port_MAC_ADDRESS port % 2 ^ 48 ∧ fieldAt f 12 2 = 0x8808 ∧
      (pause → fieldAt f 14 2 = 1 ∧ fieldAt f 16 2 = time 0 % 65536 ∧ slice f 18 16 = List.replicate 16 0) ∧
      (¬pause → fieldAt f 14 2 = 0x0101 ∧ fieldAt f 16 2 = vector ∧
        ∀ t, t < 8 → fieldAt f (18 + 2 * t) 2 = if bit vector t then time t % 65536 else 0) ∧
      slice f 34 26 = List.replicate 26 0 ∧ f.drop 60 = toLE 4 (crc32 0xFFFFFFFF (f.take 60))) ∧
    (¬(due ∧ able ∧ runs) → DoesNothing (.pauseFrameSend port) s) ∧
    (due → able → runs → Does (.pauseFrameSend port) s (fun u =>
      sent (Nat.lor now (mget 0 s.trf.signalled port % 256)) (fun t => if bit now t then quanta else 0) u ∧
      u.trf.pauseDue = s.trf.pauseDue.filter (· != port) ∧ mget 0 u.trf.signalled port = s.xoffTcs port * 256 + now)) ∧
    (¬refresh → DoesNothing (.pfcRefresh port) s) ∧
    (refresh → Does (.pfcRefresh port) s (fun u => sent now (fun t => if bit now t then quanta else 0) u)) ∧
    (¬hold → DoesNothing (.pfcHoldRefresh port) s) ∧
    (hold → Does (.pfcHoldRefresh port) s (fun u => sent (s.holdVector port) (fun _ => 0xFFFF) u ∧ mfind u.prt.holdSent port = some s.clk.ticks))

/-- R312, R356, R363 and R367; and the completion of portSelect, launchDue, egressPass and transmitFrame (R301, R303, R365, R461). -/
def Obligations.PausesObeyed : Prop :=
  ∀ (s : State) (port : Nat), port < 768 →
    let mode := s.rd R.psch_FLOW_MODE port
    let counts (rs : List Reg) (u : State) : Prop := (∀ r ∈ R.pcnt_RX_FRAMES :: rs, u.rd r port = (s.rd r port + 1) % 2 ^ 64) ∧
      u.rd R.pcnt_RX_BYTES port = (s.rd R.pcnt_RX_BYTES port + 64) % 2 ^ 64
    let keys (rs : List Reg) : List Nat := (R.pcnt_RX_FRAMES :: R.pcnt_RX_BYTES :: rs).map (fun r => key r port)
    let turned (i : Instr) (r : Reg) : Prop := Does i s (fun u => counts [r] u ∧ Only [] (keys [r]) s u)
    let spoilt := mget 0 s.prt.spoilt port
    let overlapped (i : Instr) : Prop := Does i s (fun u => counts [R.pcnt_RX_PCS_ERR, R.pcnt_RX_CTRL_DISCARD] u ∧
      mget 0 u.prt.spoilt port + 1 = spoilt ∧ (∀ p, p ≠ port → mget 0 u.prt.spoilt p = mget 0 s.prt.spoilt p) ∧
      u.prt = { s.prt with spoilt := u.prt.spoilt } ∧ Only [.prt] (keys [R.pcnt_RX_PCS_ERR, R.pcnt_RX_CTRL_DISCARD]) s u)
    let held (m : Map PauseRec) (prio : Nat) : Option PauseRec := mfind m (port * 16 + prio)
    let wants (q : Nat) : Option PauseRec := if q = 0 then none else some ⟨s.clk.ticks + ceilDiv (q * 2560) (4 * max 1 (s.rateOf port))⟩
    let shown (u : State) : Prop := ∀ t, t < 8 → bit (u.rd R.psch_PAUSED port) t = u.tcPaused port t
    (∀ quanta, quanta < 65536 →
      let row : Instr := .rxPause port quanta
      (s.portUp port = false → DoesNothing row s) ∧
      (s.portUp port = true → spoilt ≠ 0 → overlapped row) ∧
      (s.portUp port = true → spoilt = 0 → mode ≠ 2 → turned row R.pcnt_RX_CTRL_DISCARD) ∧
      (s.portUp port = true → spoilt = 0 → mode = 2 → Does row s (fun u => counts [R.pcnt_RX_PAUSE] u ∧
        held u.trf.paused 8 = wants quanta ∧ (∀ x, x ≠ 8 → held u.trf.paused x = held s.trf.paused x) ∧
        u.rd R.psch_PAUSED port = (if quanta = 0 then 0 else 255) ∧ shown u ∧
        Only [.trf] (keys [R.pcnt_RX_PAUSE, R.psch_PAUSED]) s u))) ∧
    (∀ (vector : Nat) (times : List Nat), vector < 256 → times.length = 8 → (∀ t ∈ times, t < 65536) →
      let row : Instr := .rxPfc port vector times
      (s.portUp port = false → DoesNothing row s) ∧
      (s.portUp port = true → spoilt ≠ 0 → overlapped row) ∧
      (s.portUp port = true → spoilt = 0 → mode ≠ 1 → turned row R.pcnt_RX_CTRL_DISCARD) ∧
      (s.portUp port = true → spoilt = 0 → mode = 1 → Does row s (fun u => counts [R.pcnt_RX_PFC] u ∧
        (∀ t, t < 8 → held u.trf.paused t = if bit vector t then wants (times.getD t 0) else held s.trf.paused t) ∧
        (∀ p t, t < 16 → p ≠ port → mfind u.trf.paused (p * 16 + t) = mfind s.trf.paused (p * 16 + t)) ∧ shown u ∧
        Only [.trf] (keys [R.pcnt_RX_PFC, R.psch_PAUSED]) s u))) ∧
    (∀ prio, prio < 9 →
      let row : Instr := .pauseExpire port prio
      (held s.trf.paused prio = none → DoesNothing row s) ∧
      (∀ x, held s.trf.paused prio = some x →
        (s.clk.ticks < x.until_ → DoesNothing row s) ∧
        (x.until_ ≤ s.clk.ticks → Does row s (fun u => held u.trf.paused prio = none ∧
          (∀ y, y ≠ prio → held u.trf.paused y = held s.trf.paused y) ∧ shown u ∧ Only [.trf] [key R.psch_PAUSED port] s u)))) ∧
    -- what is not paused goes on: the rows that carry it out complete
    (let may : Prop := s.grpRuns (port / 96) = true ∧ s.portUp port = true ∧ s.shaperOk port = true
     let offers (t : Nat) : Prop := t < 8 ∧ s.rd R.tcsch_PRIO_GROUP (8 * port + t) < 4 ∧ s.egEligible (8 * port + t) = true
     (may → (∃ t, offers t) → ∃ (t : Nat) (v : State), offers t ∧ s.tcPaused port t = false ∧
       Does (.portSelect port 0) s (fun u => u = v.takeHead (8 * port + t) 0)) ∧
     (∀ t e rest p at_, may → offers t → (s.queue (egKey (8 * port + t))).ents = e :: rest → s.pkt? e.pid = some p → p.launch = some at_ →
       s.launchFar port at_ = false → Does (.launchDue ⟨8 * port + t, 0⟩) s (fun u => u = s.takeHead (8 * port + t) 0)) ∧
     (s.grpRuns (port / 96) = true → mget [] s.pip.atEgress port ≠ [] → Does (.egressPass (port / 24) []) s (fun u => ∃ (v : State) (r : EgRun) (n : Nat) (hv : Octets),
       v.rd R.epipe_PACKETS (port / 24) = (s.rd R.epipe_PACKETS (port / 24) + 1) % 2 ^ 64 ∧ u = v.egressFrom 10 r n hv)) ∧
     (∀ stamp f rest, may → mget 0 s.prt.txEnd port ≤ s.clk.ticks → s.pauseFirst port = false → s.mac port = f :: rest →
       s.tcPaused port f.tc = false → f.launch = none → s.guardAllows port f = true → f.tailIn = true →
       Does (.transmitFrame port stamp none) s (fun u => u.mac port = rest ∧ ∃ wire bad at_ earlier, u.out = .frame port wire bad at_ :: earlier)))

/-- R83, R85, R137, R140 to R143, R149 and R151; and the completion of replicate (R245, R246). -/
def Obligations.IngressSlotsAndTraps : Prop :=
  ∀ s : State,
    (∀ (pipe : Nat) (errs : List (Nat × Nat)), pipe < 32 →
      let g := pipe / 4
      let w := s.strike errs
      let x := w.pipe pipe
      let slot : Instr := .ingressSlot pipe errs
      let again : Instr := .reinject pipe errs
      let rec_ : Prop := x.recirc ≠ [] ∧ x.usedRec < w.rd R.ipipe_RECIRC_SHARE pipe
      let host : Prop := x.host ≠ [] ∧ x.usedHost < w.rd R.ipipe_HOST_SHARE pipe
      let counted (r : Reg) (v : State) : Prop := v.rd r pipe = (w.rd r pipe + 1) % 2 ^ 64
      (s.grpRuns g = false ∨ s.reinjects pipe = true → DoesNothing slot s) ∧
      (s.grpRuns g = false ∨ s.reinjects pipe = false → DoesNothing again s) ∧
      (s.grpRuns g = true → s.reinjects pipe = false →
        (∀ p rest, x.recirc = p :: rest → rec_ → Does slot s (fun u => ∃ v : State, counted R.ipipe_RECIRC_SLOTS v ∧
          v.pipe pipe = { x with recirc := rest, usedRec := x.usedRec + 1 }.slot ∧ Only [.pip] [key R.ipipe_RECIRC_SLOTS pipe] w v ∧
          u = v.enterIngress pipe p)) ∧
        (∀ n p rest, ¬rec_ → x.host = (n, p) :: rest → host → Does slot s (fun u => ∃ v : State, counted R.ipipe_HOST_SLOTS v ∧
          v.pipe pipe = { x with host := rest, usedHost := x.usedHost + 1 }.slot ∧ Only [.pip] [key R.ipipe_HOST_SLOTS pipe] w v ∧
          u = (v.txDone (n % 256) (n / 256) (p.frame.length - 4) false).enterIngress pipe p)) ∧
        (¬rec_ → ¬host → w.portTurn pipe = none → Does slot s (fun u => counted R.ipipe_IDLE_SLOTS u ∧ u.pipe pipe = x.slot ∧
          Only [.pip] [key R.ipipe_IDLE_SLOTS pipe] w u)) ∧
        (∀ port credit f rest, ¬rec_ → ¬host → w.portTurn pipe = some (port, credit) → w.inbuf port = f :: rest →
          port / 24 = pipe ∧ s.rd R.port_STATE port = 3 ∧
          Does slot s (fun u => ∃ v : State, counted R.ipipe_PORT_SLOTS v ∧ v.inbuf port = rest ∧ (v.pipe pipe).lastPort = port ∧
            (v.pipe pipe).credit = credit ∧ (∀ p, p ≠ port → v.inbuf p = w.inbuf p) ∧
            v.prt.arriving = w.prt.arriving ++ (if f.tailIn then [] else [(port, f.fid, f.wire, f.err)]) ∧
            Only [.pip, .prt] [key R.ipipe_PORT_SLOTS pipe] w v ∧ u = v.enterIngress pipe (if f.tailIn then { f with fid := 0 } else f)))) ∧
      (∀ p, s.grpRuns g = true → s.reinjects pipe = true → s.nextReinject pipe = some p →
        p ∈ s.parkedOf g ∧ p.pipe = pipe ∧ s.canReinject g p = true ∧
        (∀ q ∈ s.parkedOf g, q.pipe = pipe → q.eligible ≠ 0 → s.canReinject g q = true → p.eligible ≤ q.eligible) ∧
        Does again s (fun u => ∃ v : State, counted R.ipipe_REINJECT_SLOTS v ∧ v.rd R.trap_REINJECTED g = (w.rd R.trap_REINJECTED g + 1) % 2 ^ 64 ∧
          v.parkedOf g = (w.parkedOf g).filter (fun q => !(q.pipe == p.pipe && q.seq == p.seq)) ∧
          Only [.pip] [key R.ipipe_REINJECT_SLOTS pipe, key R.trap_REINJECTED g, key R.trap_PARKED g, key R.trap_PARKED_HWM g] w v ∧
          (if p.kind = 1 ∨ p.kind = 2 then
            u = v.ingressFrom (14 - p.stage) ⟨g, pipe, p.seq, { p.pkt with trapFrame := some (trapFrame p g) }, p.orig, p.trace⟩
              ((v.ucode g).handler.getD (p.kind - 1) 0 % 2048) (withCause p.hv p.kind p.stage p.detail) none
          else
            u = v.ingressFrom (14 - p.stage) ⟨g, pipe, p.seq, p.pkt, p.orig, p.trace⟩ p.pc
              (setField p.hv 1 8 5 (min 15 (bits (md p.hv 1) 8 5 + 1)))
              (some ⟨p.ended, if p.assists = [] then none else some p.assists, p.colour, p.meterDone⟩))))) ∧
    (∀ g id tag : Nat, g < 8 → id < 512 → tag < 2 →
      let back (wk : Walk) (e : WalkEnd) (u : State) : Prop :=
        (wk.waiters = [] → u.walk? g id = none) ∧
        (wk.waiters ≠ [] → ∃ wk', u.walk? g id = some wk' ∧ wk'.waiters = wk.waiters ∧ wk'.key = wk.key ∧
          (∃ x, wk'.tag tag = some x ∧ x.returned = true ∧ x.read = some e) ∧
          (∀ p ∈ s.parkedOf g, p.kind = 0 → hvTag p.hv = tag → (∃ m ∈ wk.waiters, m.pipe = p.pipe ∧ m.seq = p.seq) →
            ∃ p' ∈ u.parkedOf g, p'.pipe = p.pipe ∧ p'.seq = p.seq ∧ p'.ended = some e ∧
              ∀ k d a, e = .trap k d a → p'.kind = k ∧ p'.detail = d ∧ p'.addr = a)) ∧
        ∀ j, j < 512 → j ≠ id → u.walk? g j = s.walk? g j
      let idle (i : Instr) : Prop := ∀ wk x, s.walk? g id = some wk → wk.tag tag = some x → x.returned = true → DoesNothing i s
      (s.walk? g id = none → DoesNothing (.walkComplete g id tag) s ∧ DoesNothing (.walkTimeout g id tag) s) ∧
      idle (.walkComplete g id tag) ∧ idle (.walkTimeout g id tag) ∧
      (∀ wk, s.walk? g id = some wk →
        (wk.tag tag = none → DoesNothing (.walkComplete g id tag) s ∧ DoesNothing (.walkTimeout g id tag) s) ∧
        (∀ x, wk.tag tag = some x → x.returned = false →
          (x.read = none → DoesNothing (.walkComplete g id tag) s) ∧
          (∀ e, x.read = some e → Does (.walkComplete g id tag) s (back wk e)) ∧
          (s.past x.since (ticksUs (s.rd R.trap_WALK_TIMEOUT g)) = false → DoesNothing (.walkTimeout g id tag) s) ∧
          (s.past x.since (ticksUs (s.rd R.trap_WALK_TIMEOUT g)) = true → Does (.walkTimeout g id tag) s (back wk (.trap trapFault 6 wk.addr)))))) ∧
    (∀ g, g < 8 →
      ((s.parkedOf g).find? (fun p => p.kind == 4 && !p.assistDone) = none → DoesNothing (.assistComplete g) s) ∧
      (∀ p, (s.parkedOf g).find? (fun p => p.kind == 4 && !p.assistDone) = some p → Does (.assistComplete g) s (fun u =>
        u.rd R.trap_ASSIST_OPS g = (s.rd R.trap_ASSIST_OPS g + p.assists.length) % 2 ^ 64 ∧
        (∃ p' ∈ u.parkedOf g, p'.pipe = p.pipe ∧ p'.seq = p.seq ∧ p'.assistDone = true) ∧
        (u.parkedOf g).length = (s.parkedOf g).length ∧ Only [.pip] [key R.trap_ASSIST_OPS g] s u)) ∧
      (∀ r rest e next left, mget [] s.sto.repl g = r :: rest → r.started = false → s.runOk r.group = true →
        s.runEntries r.group = e :: next :: left → Does (.replicate g) s (fun u =>
          mget [] u.sto.repl g = { r with started := true, left := next :: left } :: rest)))

/-- Completion and result of portSelect, launchDue, egressPass, transmitFrame, replicate and mirrorCopy. R103, R104, R113, R152, R157, R245, R246, R266, R300 to R302, R360, R365, R461 and R504. -/
def Obligations.EgressAndCopies : Prop :=
  ∀ s : State,
    (∀ port, port < 768 → ∀ found, found < 4 →
      let row : Instr := .portSelect port found
      let may : Prop := s.grpRuns (port / 96) = true ∧ s.portUp port = true ∧ s.shaperOk port = true
      let own (q : Nat) : Prop := q / 8 = port
      (s.rd R.port_STATE port = 3 → ¬may → DoesNothing row s) ∧
      (s.rd R.port_STATE port ≠ 3 → s.grpRuns (port / 96) = false → DoesNothing row s) ∧
      (s.rd R.port_STATE port ≠ 3 → (∀ q, own q → s.frontReady (egKey q) (fun _ => false) = false) → DoesNothing row s) ∧
      (may → (∀ q, own q → s.rd R.tcsch_PRIO_GROUP q < 4 → s.egEligible q = false) → DoesNothing row s) ∧
      (may → (∃ q, own q ∧ s.rd R.tcsch_PRIO_GROUP q < 4 ∧ s.egEligible q = true) →
        ∃ q v, own q ∧ s.egEligible q = true ∧
          (∀ q', own q' → s.egEligible q' = true → s.rd R.tcsch_PRIO_GROUP q ≤ s.rd R.tcsch_PRIO_GROUP q') ∧
          Only [.trf] ((List.range 8).map (fun t => key R.tcsch_DEFICIT (8 * port + t))) s v ∧
          (found < 3 → Does row s (fun u => u = v.takeHead q found)) ∧
          (found = 3 → 0 < (s.queue (egKey q)).ents.length →
            Does row s (fun u => u = (s.discardQueue (egKey q) 0x10).fault 0x010 0x12 (2 ^ 20 + q))))) ∧
    (∀ q found, q < 6144 → found < 4 →
      let row : Instr := .launchDue ⟨q, found⟩
      let open_ : Prop := s.grpRuns (q / 768) = true ∧ s.portUp (q / 8) = true ∧ s.shaperOk (q / 8) = true ∧ s.egEligible q = true
      (¬open_ → DoesNothing row s) ∧
      ((s.queue (egKey q)).ents = [] → DoesNothing row s) ∧
      (∀ e rest p, (s.queue (egKey q)).ents = e :: rest → s.pkt? e.pid = some p →
        (p.launch = none → DoesNothing row s) ∧
        (∀ t, p.launch = some t → s.launchFar (q / 8) t = true → DoesNothing row s) ∧
        (∀ t, p.launch = some t → s.launchFar (q / 8) t = false → open_ → Does row s (fun u =>
          u = if found = 3 then (s.discardQueue (egKey q) 0x10).fault 0x010 0x12 (2 ^ 20 + q) else s.takeHead q found)))) ∧
    (∀ pipe, pipe < 32 → ∀ errs : List (Nat × Nat),
      let g := pipe / 4
      let mine (p : Nat) : Prop := p / 24 = pipe ∧ mget [] s.pip.atEgress p ≠ []
      (s.fnState .group g ≠ 3 → s.fnState .group g ≠ 4 → s.fnState .group g ≠ 5 → DoesNothing (.egressPass pipe errs) s) ∧
      (s.grpSends g = true → (∀ p, ¬mine p) → Does (.egressPass pipe errs) s (fun u =>
        u.rd R.epipe_IDLE_SLOTS pipe = (s.rd R.epipe_IDLE_SLOTS pipe + 1) % 2 ^ 64 ∧ Only [] [key R.epipe_IDLE_SLOTS pipe] s u)) ∧
      (s.grpSends g = true → (∃ p, mine p) → ∃ port credit l rest, s.egressTurn pipe = some (port, credit) ∧ mine port ∧
        ((s.pipe pipe).egCredit ≠ 0 → mine (s.pipe pipe).egPort → port = (s.pipe pipe).egPort ∧ credit + 1 = (s.pipe pipe).egCredit) ∧
        mget [] s.pip.atEgress port = l :: rest ∧ Does (.egressPass pipe errs) s (fun u =>
        let w := (s.takeSelected pipe port credit rest).strike errs
        ∃ v orig hv, v.rd R.epipe_PACKETS pipe = (w.rd R.epipe_PACKETS pipe + 1) % 2 ^ 64 ∧
          Only [] [key R.epipe_PACKETS pipe, key R.gcnt_EG_PARSE_ERR g, key R.gcnt_EG_PARSE_TRUNC g] w v ∧
          u = v.egressFrom 10 ⟨port, l.ent, l.pkt, l.near, l.late, orig, v.now, []⟩
            ((v.ucode g).entry.getD (if l.pkt.source = 3 then 4 else 3) 0 % 2048) hv))) ∧
    (∀ port, port < 768 → ∀ (stamp : Nat) (underrun : Option Nat),
      let row : Instr := .transmitFrame port stamp underrun
      let may : Prop := s.grpSends (port / 96) = true ∧ s.portUp port = true ∧ mget 0 s.prt.txEnd port ≤ s.clk.ticks ∧ s.pauseFirst port = false
      (¬may → DoesNothing row s) ∧
      let start := ((s.timeAgo stamp : Int) + sext 32 (s.rd R.ptime_TX_ADJ port) * 65536 / 1000).toNat
      let free (before : List MacFrame) (f : MacFrame) : Prop := s.macReady port f = true ∧ ∀ x ∈ before, x.tc ≠ f.tc
      ((∀ before f rest, s.mac port = before ++ f :: rest → ¬free before f) → DoesNothing row s) ∧
      (∀ before f rest, may → s.mac port = before ++ f :: rest → free before f →
        (∀ b x c, before = b ++ x :: c → ¬free b x) →
        let stamped := if s.on R.ptime_STAMP_EN port then start else f.parsed
        (s.guardAllows port f = false → DoesNothing row s) ∧
        (s.guardAllows port f = true → f.tailIn = false → (f.fabric && underrun.isSome) = false → DoesNothing row s) ∧
        (s.guardAllows port f = true → f.tailIn = false → f.fabric = true → ∀ n, underrun = some n → Does row s (fun u => ∃ v : State,
          v.mac port = before ++ rest ∧ v.rd R.pcnt_TX_FRAMES port = (s.rd R.pcnt_TX_FRAMES port + 1) % 2 ^ 64 ∧
          v.rd R.pcnt_TX_BYTES port = (s.rd R.pcnt_TX_BYTES port + min n f.frame.length) % 2 ^ 64 ∧
          v.rd R.pcnt_TX_UNDERRUN port = (s.rd R.pcnt_TX_UNDERRUN port + 1) % 2 ^ 64 ∧ Puts [.frameError port] s v ∧
          Only [.out, .prt] [key R.pcnt_TX_FRAMES port, key R.pcnt_TX_BYTES port, key R.pcnt_TX_UNDERRUN port] s v ∧
          u = v.txAccount port f stamped start true)) ∧
        (s.guardAllows port f = true → f.tailIn = true → Does row s (fun u =>
          let stomp := f.bad || decide (s.rd R.port_MAX_FRAME port < f.frame.length)
          u.mac port = before ++ rest ∧ ∃ body earlier, u.out = .frame port
            (body ++ toLE 4 (if stomp then 2 ^ 32 - 1 - crc32 0xFFFFFFFF body else crc32 0xFFFFFFFF body)) stomp stamped :: earlier ∧
            60 ≤ body.length ∧ mget 0 u.prt.txEnd port = s.clk.ticks + s.wireTicks port (body.length + 4))))) ∧
    (∀ g, g < 8 →
      (mget [] s.sto.repl g = [] → DoesNothing (.replicate g) s) ∧
      (∀ r rest, mget [] s.sto.repl g = r :: rest →
        let stays (l : List Repl) (v w : State) : Prop := w = { v with sto := { v.sto with repl := mput [] v.sto.repl g l } }
        (r.started = false → s.runOk r.group = false → Does (.replicate g) s (fun u => ∃ v w : State, v = s.pipeDrop false g 0x21
          (match s.pkt? r.pid with
            | some p => p.frame.length
            | none => 0) ∧ stays rest v w ∧ u = w.endRepl r.pid)) ∧
        (r.started = true ∨ s.runOk r.group = true →
          let all := if r.started then r.left else s.runEntries r.group
          (all = [] → Does (.replicate g) s (fun u => ∃ w, stays rest s w ∧ u = w.endRepl r.pid)) ∧
          (∀ e left, all = e :: left →
            (left ≠ [] → Does (.replicate g) s (stays ({ r with started := true, left } :: rest) (s.linkReplica g r e.1 e.2))) ∧
            (left = [] → Does (.replicate g) s (fun u => ∃ w, stays rest (s.linkReplica g r e.1 e.2) w ∧ u = w.endRepl r.pid)))))) ∧
    (∀ g, g < 8 →
      (mget [] s.tel.copies g = [] → DoesNothing (.mirrorCopy g) s) ∧
      (∀ c rest, mget [] s.tel.copies g = c :: rest →
        let n := c.session
        let took (u : State) : Prop := mget [] u.tel.copies g = rest
        let more (r : Reg) (u : State) : Prop := u.rd r n = (s.rd r n + 1) % 2 ^ 64
        let v := lfsrNext 32 (s.mirror n).lfsr
        let fill := min (s.rd R.mirr_BURST n * 1250000000) ((s.mirror n).tokens + (s.clk.ticks - (s.mirror n).last) * s.rd R.mirr_RATE n)
        let limited : Prop := s.rd R.mirr_RATE n ≠ 0 ∧ fill < 1250000000
        (s.on R.mirr_ENABLE n = false → Does (.mirrorCopy g) s (fun u => took u ∧ Only [.tel] [] s u)) ∧
        (s.on R.mirr_ENABLE n = true →
          (v % 2 ^ s.rd R.mirr_SAMPLE_EXP n ≠ 0 → Does (.mirrorCopy g) s (fun u => took u ∧ more R.mirr_COPIES u ∧ more R.mirr_SAMPLED_OUT u ∧
            (u.mirror n).lfsr = v ∧ Only [.tel] [key R.mirr_COPIES n, key R.mirr_SAMPLED_OUT n] s u)) ∧
          (v % 2 ^ s.rd R.mirr_SAMPLE_EXP n = 0 → limited → Does (.mirrorCopy g) s (fun u => took u ∧ more R.mirr_COPIES u ∧
            more R.mirr_RATE_DROPPED u ∧ (u.mirror n).tokens = fill ∧ Only [.tel] [key R.mirr_COPIES n, key R.mirr_RATE_DROPPED n] s u)) ∧
          (v % 2 ^ s.rd R.mirr_SAMPLE_EXP n = 0 → ¬limited → Does (.mirrorCopy g) s (fun u => ∃ x : State, took x ∧ more R.mirr_COPIES x ∧
            (s.rd R.mirr_RATE n ≠ 0 → (x.mirror n).tokens = fill - 1250000000) ∧ Only [.tel] [key R.mirr_COPIES n] s x ∧
            (let rec_ := x.mirrorRecord c
             let sent := x.output (x.rd R.mirr_OUTPUT n) 5 rec_.1 rec_.2
             u = if sent.1 = false then sent.2.bump R.mirr_DROPPED n
               else if bits (sent.2.rd R.mirr_OUTPUT n) 15 12 = 0 then sent.2 else sent.2.bump R.mirr_RECORDS n))))))

/-! ## Loads, lanes, ports' links, I2C -/

/-- R325, R327, R334 to R344, R346, R356, R358 to R360 and R369. The layout of a flit is the model's (log entry 67). -/
def Obligations.LanesTrain : Prop :=
  ∀ s : State,
    (∀ lane, lane < 768 →
      let st := s.rd R.lane_TRAIN_STATE lane
      let owner := s.rd R.lane_OWNER lane
      let tunes : Bool := match ownerFn owner with
        | some (.port, p) => s.on R.port_LINK_TRAINING p
        | _ => false
      (∀ reached taps rxEq hits, 3 ≤ reached → reached ≤ 5 → (∀ f ∈ taps, f < 2 ^ 35) → rxEq < 2 ^ 64 →
        let row : Instr := .laneReady lane reached taps rxEq hits
        let asked := if tunes = true ∧ 4 ≤ reached then taps else []
        let shows (u : State) : Prop := u.rd R.lane_TRAIN_STATE lane = reached ∧
          (∃ n, n ≤ hits ∧ n ≤ s.clk.slot + 1 - s.hitSlot lane ∧ u.rd R.lane_BOUND_HITS lane =
            if n = 0 then s.rd R.lane_BOUND_HITS lane else (s.rd R.lane_BOUND_HITS lane + n) % 2 ^ 64) ∧
          u.rd R.lane_TX_FIR lane = (asked.filter (fun f => firSum f ≤ 64)).getLastD (s.rd R.lane_TX_FIR lane) ∧
          Puts ((asked.map (fun f => .tapAnswer lane (decide (firSum f ≤ 64)))).reverse) s u ∧
          u.rd R.lane_RX_EQ lane = (if s.eqInBounds lane rxEq then
            setBits (rxEq / 2 ^ 42 * 2 ^ 42) 58 55 (bits (s.rd R.lane_RX_EQ lane) 58 55) else s.rd R.lane_RX_EQ lane)
        let ks := [key R.lane_TRAIN_STATE lane, key R.lane_BOUND_HITS lane, key R.lane_TX_FIR lane, key R.lane_RX_EQ lane]
        (st < 2 ∨ 4 < st ∨ reached ≤ st ∨ (reached = 4 ∧ tunes = false) → DoesNothing row s) ∧
        (2 ≤ st → st ≤ 4 → st < reached → (reached = 4 → tunes = true) →
          (reached ≠ 5 → Does row s (fun u => shows u ∧ Only [.out, .lan] ks s u)) ∧
          (reached = 5 → Does row s (fun u => ∃ v : State, shows v ∧
            v.rd R.lane_TRAIN_TIME lane = (s.clk.ticks - (mget 0 s.lan.trainSince lane - 1)) / 1250 ∧
            mfind v.lan.trainSince lane = none ∧ Only [.out, .lan] (key R.lane_TRAIN_TIME lane :: ks) s v ∧
            u = (v.ownerReady owner).settleSwitch)))) ∧
      (¬(2 ≤ st ∧ st ≤ 5) → DoesNothing (.cdrLoss lane) s) ∧
      (2 ≤ st → st ≤ 5 → Does (.cdrLoss lane) s (fun u => ∃ v : State, v.rd R.lane_CDR_LOSSES lane = (s.rd R.lane_CDR_LOSSES lane + 1) % 2 ^ 32 ∧
        Only [] [key R.lane_CDR_LOSSES lane] s v ∧ u = v.retrainOwner owner 0 false (decide (4 ≤ st)))) ∧
      (∀ count hi lo, hi < 2 ^ count → lo < 2 ^ count →
        let row : Instr := .checkerLock lane count hi lo
        let turned (k : Nat) (l : List Nat) : List Nat := if bit (s.rd R.lane_POLARITY lane) k then
          l.map (fun x => if s.rd R.lane_LANE_MODE lane ≤ 3 then 3 - x else 1 - x % 2) else l
        let rx := turned 0 (levels count hi lo)
        let near : Prop := s.rd R.ltest_LOOPBACK lane = 1
        let far : Prop := s.rd R.ltest_LOOPBACK lane = 2
        let (sent, x) := s.generated lane rx.length
        let line := if near then [] else if far then rx else sent
        let run := s.checked lane x ((if near then sent else rx).flatMap (symbolBits (s.rd R.lane_LANE_MODE lane ≤ 3)))
        (st ≠ 6 → DoesNothing row s) ∧
        (st = 6 → Does row s (fun u => Puts (if line = [] then [] else [.lane lane (turned 1 line)]) s u ∧
          (s.on R.ltest_CHK_EN lane = false → u.laneTest lane = x ∧ Only [.out, .lan] [] s u) ∧
          (s.on R.ltest_CHK_EN lane = true → u.laneTest lane = run.test ∧ u.rd R.ltest_LOCKED lane = b2n run.locked ∧
            u.rd R.ltest_BITS lane = (s.rd R.ltest_BITS lane + run.compared) % 2 ^ 64 ∧
            u.rd R.ltest_ERRORS lane = (s.rd R.ltest_ERRORS lane + run.errors) % 2 ^ 64 ∧
            u.rd R.ltest_RESYNCS lane = (s.rd R.ltest_RESYNCS lane + run.resyncs) % 2 ^ 32 ∧
            Only [.out, .lan] [key R.ltest_LOCKED lane, key R.ltest_BITS lane, key R.ltest_ERRORS lane, key R.ltest_RESYNCS lane] s u)))) ∧
      (∀ (syms : List Nat) (bad : Option Nat), syms.length ≤ 8 →
        let row : Instr := .fecCodeword lane syms bad
        let k := syms.foldl (· + ·) 0
        let counted (u : State) : Prop := u.rd R.fec_CODEWORDS lane = (s.rd R.fec_CODEWORDS lane + 1) % 2 ^ 64
        (s.fecCorrects owner = none → DoesNothing row s) ∧
        (∀ most, s.fecCorrects owner = some most →
          let may : Prop := owner % 1024 = lane ∧ st = 5 ∧ k ≤ most ∧ syms.length = (s.ownerLanes owner).length
          (¬may → DoesNothing row s) ∧
          (∀ frames, may → bad = some frames → Does row s (fun u => ∃ v : State, counted v ∧
            v.rd R.fec_UNCORRECTABLE lane = (s.rd R.fec_UNCORRECTABLE lane + 1) % 2 ^ 64 ∧ v.rd R.fec_HIGHEST_BIN lane = 16 ∧
            Only [.lan, .prt] [key R.fec_CODEWORDS lane, key R.fec_UNCORRECTABLE lane, key R.fec_HIGHEST_BIN lane] s v ∧
            u = (if owner / 2 ^ 14 % 4 = 1 then v.spoilFrames lane frames else v).fault (0x020 + lane / 96) 0x16 lane)) ∧
          (may → bad = none → Does row s (fun u => ∃ v : State, counted v ∧
            v.rd (Reg.at R.fec_BIN0 k) lane = (s.rd (Reg.at R.fec_BIN0 k) lane + 1) % 2 ^ 64 ∧
            v.rd R.fec_HIGHEST_BIN lane = max k (s.rd R.fec_HIGHEST_BIN lane) ∧
            (∀ i, i < syms.length → v.rd (Reg.at R.fec_LANE_SYMBOLS0 i) lane =
              (s.rd (Reg.at R.fec_LANE_SYMBOLS0 i) lane + syms.getD i 0) % 2 ^ 64) ∧
            v.rd R.fec_MARGIN_EVENTS lane = (if s.rd R.fec_MARGIN_SYMBOLS lane ≤ k then (s.rd R.fec_MARGIN_EVENTS lane + 1) % 2 ^ 64
              else s.rd R.fec_MARGIN_EVENTS lane) ∧
            (s.rd R.fec_MARGIN_SYMBOLS lane ≤ k → lane ∈ v.lan.margin) ∧
            u = if s.rd R.fec_MARGIN_SYMBOLS lane ≤ k ∧ ¬s.lan.margin.contains lane
              then v.event 0 0x0005 [lane * 2 ^ 54 + max k (mget 0 s.lan.epochBin lane) * 2 ^ 48] else v)))) ∧
      (∀ who aux, (s.takeEffect ⟨who, key R.lane_RETRAIN lane, 1, aux⟩) =
        if s.ownerState lane = 3 then s.retrainOwner owner 0 false (st == 4 || st == 5) else s) ∧
      (∀ who n aux, (s.takeEffect ⟨who, key R.ltest_INJECT lane, n, aux⟩) =
        if st = 6 ∧ s.on R.ltest_GEN_EN lane ∧ s.rd R.ltest_LOOPBACK lane ≠ 2 then
          (s.free 64).2.setLaneTest lane { s.laneTest lane with
            inject := max (s.laneTest lane).inject (1024 * n), spot := (s.free 64).1 } else s) ∧
      (∀ who aux, let u := s.takeEffect ⟨who, key R.ltest_CLEAR lane, 1, aux⟩
        u.rd R.ltest_BITS lane = 0 ∧ u.rd R.ltest_ERRORS lane = 0 ∧ u.rd R.ltest_RESYNCS lane = 0 ∧
        Only [] [key R.ltest_BITS lane, key R.ltest_ERRORS lane, key R.ltest_RESYNCS lane] s u) ∧
      (∀ who aux, let u := s.takeEffect ⟨who, key R.fec_CLEAR lane, 1, aux⟩
        u.rd R.fec_CODEWORDS lane = 0 ∧ u.rd R.fec_UNCORRECTABLE lane = 0 ∧ u.rd R.fec_MARGIN_EVENTS lane = 0 ∧
        (∀ i, i < 16 → u.rd (Reg.at R.fec_BIN0 i) lane = 0) ∧ (∀ i, i < 8 → u.rd (Reg.at R.fec_LANE_SYMBOLS0 i) lane = 0)) ∧
      (∀ who aux, let u := s.takeEffect ⟨who, key R.pcnt_CLEAR lane, 1, aux⟩
        (∀ i, i < 22 → u.rd (Reg.at R.pcnt_RX_FRAMES i) lane = 0) ∧
        Only [] ((List.range 22).map (fun i => key (Reg.at R.pcnt_RX_FRAMES i) lane)) s u)) ∧
    (∀ o reason abandon struck,
      let lanes := s.ownerLanes o
      let t := s.retrainOwner o reason abandon struck
      (∀ l ∈ lanes, t.rd R.lane_RETRAINS l = (s.rd R.lane_RETRAINS l + 1) % 2 ^ 32) ∧
      let trains : Prop := ∃ l ∈ lanes, 2 ≤ s.rd R.lane_TRAIN_STATE l ∧ s.rd R.lane_TRAIN_STATE l ≤ 4
      let ready : Prop := ∃ l ∈ lanes, s.rd R.lane_TRAIN_STATE l = 5
      let again : Prop := (trains ∧ (abandon = true ∨ struck = true)) ∨ (ready ∧ ¬trains)
      (again → ∀ l ∈ lanes, t.rd R.lane_TRAIN_STATE l = 2) ∧
      (trains → abandon = false → struck = true → ∀ l ∈ lanes, mget 0 s.lan.trainSince l ≠ 0 →
        mget 0 t.lan.trainSince l = mget 0 s.lan.trainSince l) ∧
      (¬again → Only [] (lanes.map (fun l => key R.lane_RETRAINS l)) s t)) ∧
    (∀ (p : Nat) (c : CheckRun) (b : Nat),
      let d := c.bit p b
      let x := c.test
      let err := if patternNext p x.chk = b then 0 else 1
      (c.locked = false → d.compared = c.compared ∧ d.errors = c.errors ∧ d.resyncs = c.resyncs ∧
        (d.locked = true ↔ patternLen p ≠ 0 ∧ p ≠ 10 ∧ patternLen p ≤ x.fill ∧ err = 0 ∧ x.chk ≠ 0 ∧ 255 ≤ x.good)) ∧
      (c.locked = true → patternLen p ≠ 0 → p ≠ 10 → d.compared = c.compared + 1 ∧ d.errors = c.errors + err ∧
        let wrong := x.wrong + err - x.window / 2 ^ 255
        (64 ≤ wrong → d.locked = false ∧ d.resyncs = c.resyncs + 1 ∧ d.test = x.reseed) ∧
        (wrong < 64 → d.locked = true ∧ d.resyncs = c.resyncs ∧ d.test.wrong = wrong))) ∧
    (∀ (p : Nat) (x : LaneTest),
      let (b, y) := x.sendBit p
      y.gen = patternShift p x.gen (patternNext p x.gen) ∧ y.inject = x.inject - 1 ∧
      (x.inject = 0 → b = patternNext p x.gen)) ∧
    (∀ port, port < 768 →
      let limit := s.rd R.port_TRAIN_TIMEOUT port
      let out : Prop := s.rd R.port_STATE port = 2 ∧ limit ≠ 0 ∧ limit * 1000000 ≤ (s.slotNo - s.rd R.port_STATE_SINCE port) * 64
      (¬out → DoesNothing (.trainTimeout port) s) ∧
      (out → Does (.trainTimeout port) s (fun u => u.rd R.port_STATE port = 1 ∧ u.rd R.port_LINK_STATE port = 0 ∧
        ∀ l ∈ s.ownerLanes (2 ^ 14 + port), u.rd R.lane_TRAIN_STATE l < 2 ∨ u.rd R.lane_TRAIN_STATE l = 6)) ∧
      (∀ (aligned : Bool) (fault : Nat), fault ≤ 2 →
        let row : Instr := .linkStateChange port aligned fault
        let old := s.rd R.port_LINK_STATE port
        let new := if s.lanesReady (2 ^ 14 + port) = false then 0 else if aligned = false ∨ fault = 1 then 1 else if fault = 2 then 2 else 3
        (old = new → DoesNothing row s) ∧
        (old ≠ new → Does row s (fun u => u.rd R.port_LINK_STATE port = new ∧ .portSends port (linkSignal new) ∈ u.out ∧
          u.rd R.port_LINK_CHANGES port = (s.rd R.port_LINK_CHANGES port + 1) % 2 ^ 32 ∧
          (new = 3 → u.rd R.port_LINK_UP_SINCE port = s.slotNo ∧ (s.rd R.port_STATE port = 2 → u.rd R.port_STATE port = 3)) ∧
          (old = 3 → ∀ x, x < 16 → mfind u.trf.paused (port * 16 + x) = none))))) ∧
    (∀ (chip : Nat) (toCore : Bool) (seq : Nat) (flit : Octets), chip < 8 → seq < 4096 → flit.length = 256 → (∀ o ∈ flit, o < 256) →
      let row : Instr := .flitReceived chip toCore seq flit
      let next (u : State) : Nat := ((u.d2d chip).side toCore).1
      let held (u : State) : Nat := ((u.d2d chip).side toCore).2.1
      let fails (u : State) : Nat := ((u.d2d chip).side toCore).2.2
      let flits := if toCore then R.d2d_FLITS_TX else R.d2d_FLITS_RX
      let ahead := (seq + 4096 - next s) % 4096
      let good : Prop := fieldAt flit 0 2 % 4096 = seq ∧ fieldAt flit 252 4 = crc32c 0xFFFFFFFF (flit.take 252)
      let up : Prop := s.rd R.d2d_LINK_STATE chip = 2
      (¬up ∨ 512 ≤ ahead → DoesNothing row s) ∧
      (up → ahead < 512 → ahead ≠ 0 → Does row s (fun u => next u = next s ∧ held u = max (held s) (ahead + 1) ∧ fails u = fails s ∧
        Only [.lan] [] s u)) ∧
      (up → ahead = 0 → good → Does row s (fun u => u.rd flits chip = (s.rd flits chip + 1) % 2 ^ 64 ∧ next u = (next s + 1) % 4096 ∧
        fails u = 0 ∧ held u = held s - 1 ∧ Only [.lan] [key flits chip] s u)) ∧
      (up → ahead = 0 → ¬good → Does row s (fun u => u.rd R.d2d_RETRIES chip = (s.rd R.d2d_RETRIES chip + 1) % 2 ^ 64 ∧ next u = next s ∧
        (u.d2d chip).retries = (s.d2d chip).retries + 1 ∧
        Puts [.flitReplay chip toCore (next s) (max 1 (held s)), .flitNak chip toCore (next s)] s u ∧
        (fails s + 1 < 16 → fails u = fails s + 1 ∧ Only [.out, .lan] [key R.d2d_RETRIES chip] s u) ∧
        (16 ≤ fails s + 1 → fails u = 0 ∧ u.rd R.d2d_LINK_STATE chip = 1 ∧
          u.rd R.d2d_RETRAINS chip = (s.rd R.d2d_RETRAINS chip + 1) % 2 ^ 32 ∧
          Only [.out, .lan] [key R.d2d_RETRIES chip, key R.d2d_LINK_STATE chip, key R.d2d_RETRAINS chip] s u)))) ∧
    (∀ chip, chip < 8 →
      let w := s.settleSwitch
      let may : Prop := s.atEpoch = true ∧ (w.lan.pendingSw.map (·.1)).find? (fun k => w.refHealthy (w.chipStandby k)) = some chip ∧
        ∀ x, w.lan.switching = some x → x.waiting = [] ∧ x.epoch + 2 ≤ s.clk.slot / 16384
      (¬may → Does (.refSwitch chip) s (fun u => u = w)) ∧
      (may → Does (.refSwitch chip) s (fun u => u.rd R.chip_REF_IN_USE chip = w.chipStandby chip ∧ u.rd R.chip_LAST_SWITCH chip = s.slotNo ∧
        u.rd R.chip_SWITCH_PENDING chip = 0 ∧ mfind u.lan.pendingSw chip = none ∧
        ∃ lanes, u.lan.switching = some ⟨chip, s.clk.slot / 16384, s.clk.ticks, lanes⟩ ∧
          ∀ l, l ∈ lanes ↔ l / 96 = chip ∧ (w.rd R.lane_TRAIN_STATE l = 4 ∨ w.rd R.lane_TRAIN_STATE l = 5))))

/-- R158 to R163, R332, R351, R373 to R376. -/
def Obligations.LoadsAndI2c : Prop :=
  ∀ s : State,
    (∀ g, g < 9 →
      let status := if g < 8 then R.img_STATUS else R.board_STATUS
      let n := if g < 8 then g else 0
      let load := if g < 8 then key R.img_LOAD g else key R.board_LOAD 0
      ∀ who src addr len,
        let u := s.takeEffect ⟨who, load, 1, [src, addr, len]⟩
        (s.rd status n = 1 → u = s) ∧
        (s.rd status n ≠ 1 → src = 0 → s.ep.linkUp = false → u.rd status n = (if g < 8 then 8 else 7) ∧ Only [] [key status n] s u) ∧
        (s.rd status n ≠ 1 → ¬(src = 0 ∧ s.ep.linkUp = false) → u.rd status n = 1 ∧ mfind u.pip.loading g = some (len, addr, src) ∧
          (src ≠ 0 → Only [.pip] [key status n] s u))) ∧
    (∀ (g : Nat) (bytes : Octets) (storeOk : Bool), g < 8 → (∀ b ∈ bytes, b < 256) →
      let row : Instr := .imageFetchComplete g bytes storeOk
      let im := (s.fetched g bytes).1
      let st := s.imageStatus im (s.fetched g bytes).2
      let kept (u : State) : Prop := u.pip.ucode = s.pip.ucode ∧ u.rd R.img_IMAGE_VERSION g = s.rd R.img_IMAGE_VERSION g
      (s.rd R.img_STATUS g ≠ 1 → DoesNothing row s) ∧
      (s.rd R.img_STATUS g = 1 →
        (st ≠ 2 → Does row s (fun u => u.rd R.img_STATUS g = st ∧ kept u ∧ mfind u.pip.loading g = none ∧
          u.rd R.img_STORE_VALID g = s.rd R.img_STORE_VALID g)) ∧
        (st = 2 → storeOk = false → Does row s (fun u => u.rd R.img_STATUS g = 9 ∧ u.rd R.img_STORE_VALID g = 0 ∧ kept u ∧
          mfind u.pip.loading g = none)) ∧
        (st = 2 → storeOk = true → Does row s (fun u => u.rd R.img_STATUS g = 2 ∧ u.rd R.img_STORE_VALID g = 1 ∧
          u.ucode g = imageUcode im ∧ (∀ j, j ≠ g → mfind u.pip.ucode j = mfind s.pip.ucode j) ∧
          u.rd R.img_IMAGE_VERSION g = fieldAt im 28 4 ∧ u.rd R.img_FEATURE_MASK g = fieldAt im 44 4 ∧
          u.rd R.img_IMAGE_ID g = domOf (trimName (slice im 12 16)) ∧ mfind u.pip.loading g = none)))) ∧
    (∀ bytes : Octets, (∀ b ∈ bytes, b < 256) →
      let row : Instr := .boardTableFetchComplete bytes
      let bt := (s.fetched 8 bytes).1
      let st := s.boardStatus bt (s.fetched 8 bytes).2
      (s.rd R.board_STATUS 0 ≠ 1 → DoesNothing row s) ∧
      (s.rd R.board_STATUS 0 = 1 →
        (st ≠ 2 → Does row s (fun u => u.rd R.board_STATUS 0 = st ∧ u.lan.board = s.lan.board ∧
          u.rd R.board_TABLE_VERSION 0 = s.rd R.board_TABLE_VERSION 0)) ∧
        (st = 2 → Does row s (fun u => u.rd R.board_STATUS 0 = 2 ∧ u.lan.board = some (boardRecords bt) ∧
          u.rd R.board_TABLE_VERSION 0 = fieldAt bt 24 4 ∧ u.rd R.board_RECORDS 0 = fieldAt bt 6 2 ∧
          u.rd R.board_BOUND 0 = (if s.boardDigest = 0 then 0 else 1))))) ∧
    (∀ bus, bus < 4 →
      let ended (c : I2cCmd) (code bytes state : Nat) (u : State) : Prop := mfind u.prt.i2c bus = none ∧ u.rd R.i2c_BUS_STATE bus = state ∧
        u.rd R.i2c_STATUS bus = 2 ^ 62 + code * 2 ^ 48 + c.seq * 2 ^ 32 + bytes
      let runs (row : Instr) (op pulses code put bytes : Nat) (data : Octets) : Prop :=
        (mfind s.prt.i2c bus = none → DoesNothing row s) ∧
        (∀ c, mfind s.prt.i2c bus = some c →
          (c.op ≠ op → DoesNothing row s) ∧
          (c.op = op → pulses ≤ 9 → c.canEnd code put bytes = false → DoesNothing row s) ∧
          (c.op = op → 9 < pulses → Does row s (fun u => ended c 5 0 2 u ∧
            u.rd R.i2c_STUCK_COUNT bus = (s.rd R.i2c_STUCK_COUNT bus + 1) % 2 ^ 32)) ∧
          (c.op = op → pulses ≤ 9 → c.canEnd code put bytes = true →
            let n := if c.stuck then max 1 pulses else pulses
            Does row s (fun u => ended c code bytes 0 u ∧
              u.rd R.i2c_RECOVERIES bus = (if n = 0 then s.rd R.i2c_RECOVERIES bus else (s.rd R.i2c_RECOVERIES bus + 1) % 2 ^ 32) ∧
              u.rd R.i2c_NACKS bus = (if 1 ≤ code ∧ code ≤ 3 then (s.rd R.i2c_NACKS bus + 1) % 2 ^ 32 else s.rd R.i2c_NACKS bus) ∧
              u.i2cData bus = (if op = 1 then patch (s.i2cData bus) 0 (slice data 0 bytes) else s.i2cData bus) ∧
              (c.stuck = false → Puts (.i2c bus op (c.sent put) :: (if n = 0 then [] else [.i2c bus 0 [n]])) s u))))
      (∀ pulses code put bytes data, bytes ≤ 128 → (∀ b ∈ data, b < 256) →
        runs (.i2cRead bus pulses ⟨code, put⟩ bytes data) 1 pulses code put bytes data) ∧
      (∀ pulses code put bytes, bytes ≤ 128 → runs (.i2cWrite bus pulses ⟨code, put⟩ bytes) 2 pulses code put bytes []) ∧
      (∀ pulses code put, runs (.i2cProbe bus pulses ⟨code, put⟩) 3 pulses code put 0 []) ∧
      (∀ who : Accessor, who.ok = true → Accepted s who (key R.i2c_RESET bus) (typeLen (key R.i2c_RESET bus)) 1 → Does (.i2cReset who bus) s (fun u =>
        Answered s u daOk ∧ u.rd R.i2c_BUS_STATE bus = 0 ∧ mfind u.prt.i2c bus = none ∧
        ∀ c, mfind s.prt.i2c bus = some c → ∃ n, n ≤ bits c.addr 7 0 ∧ ended c 7 n 0 u)) ∧
      (∀ pulses put bytes data, pulses ≤ 9 → (∀ b ∈ data, b < 256) →
        let row : Instr := .sclTimeout bus ⟨pulses, put, bytes⟩ data
        (mfind s.prt.i2c bus = none → DoesNothing row s) ∧
        (∀ c, mfind s.prt.i2c bus = some c →
          let held : Prop := c.stuck = true ∧ pulses = 0
          let out : Prop := put ≤ c.octets.length ∧ c.moved put bytes = true ∧ (held → put = 0) ∧ s.past c.since (ticksUs (s.rd R.i2c_STRETCH_LIMIT bus)) = true
          (¬out → DoesNothing row s) ∧
          (out → Does row s (fun u => ended c 4 bytes (if held then 2 else 0) u ∧
            u.rd R.i2c_RECOVERIES bus = (if pulses = 0 then s.rd R.i2c_RECOVERIES bus else (s.rd R.i2c_RECOVERIES bus + 1) % 2 ^ 32) ∧
            (c.stuck = false → Puts ((if put = 0 then [] else [.i2c bus c.op (c.sent put)]) ++
              (if pulses = 0 then [] else [.i2c bus 0 [pulses]])) s u) ∧
            u.i2cData bus = (if c.op = 1 then patch (s.i2cData bus) 0 (slice data 0 bytes) else s.i2cData bus))))))

/-! ## Xanla Links -/

/-- Completion and result of cellReceived, ackReceived, creditReceived, creditSend, fillerReceived, elasticSlip, unknownBlock, nakRepeat,
replayTimeout, cellSend and reasmTimeout. R380, R382 to R389, R392, R401, R421, R424. -/
def Obligations.CellsCross : Prop :=
  ∀ (s : State) (link : Nat), link < 768 →
    let x := s.link link
    let up := s.rd R.link_LINK_STATE link
    let recv : Prop := s.fnState .link link = 3 ∧ 2 ≤ up
    let more (r : Reg) (t u : State) : Prop := u.rd r link = (t.rd r link + 1) % 2 ^ 64
    (∀ (seq : Nat) (ack : Option Nat) (header payload : Octets), seq < 4096 → header.length = 16 → payload.length = 256 → ack.getD 0 < 4096 →
      (∀ b ∈ header, b < 256) → (∀ b ∈ payload, b < 256) →
      let row : Instr := .cellReceived link seq ack header payload
      let t := match ack with
        | some a => s.acked link a
        | none => s
      let c := parseCell header payload
      let good : Prop := crc32c 0xFFFFFFFF (header.take 12 ++ payload) = fieldAt header 12 4
      let want := (t.link link).rxSeq
      let refused (v u : State) : Prop := (u.link link).nakAt.isSome = true ∧ (u.link link).rxSeq = want ∧ Only [.out, .fab] [] v u ∧
        if (t.link link).nakAt.isSome then u.out = v.out else u.out = v.unitOut link 1 (ackBlock link ((want + 4095) % 4096) true) ++ v.out
      (up < 3 → DoesNothing row s) ∧
      (3 ≤ up →
        (¬good → Does row s (fun u => ∃ v : State, more R.lcnt_CRC_ERRORS t v ∧ Only [] [key R.lcnt_CRC_ERRORS link] t v ∧ refused v u)) ∧
        (good → t.cellPasses link c = false → Does row s (fun u => u = t)) ∧
        (good → t.cellPasses link c = true → seq ≠ want →
          ((seq + 4096 - want) % 4096 < 2048 → Does row s (refused t)) ∧
          (2048 ≤ (seq + 4096 - want) % 4096 → Does row s (fun u => Puts (t.unitOut link 1 (ackBlock link ((want + 4095) % 4096) false)) t u ∧
            Only [.out, .fab] [] t u))) ∧
        (good → t.cellPasses link c = true → seq = want → Does row s (fun u => ∃ v : State, (v.link link).rxSeq = (seq + 1) % 4096 ∧
          (v.link link).nakAt = none ∧ more R.lcnt_CELLS_RX t v ∧ Puts (t.unitOut link 1 (ackBlock link seq false)) t v ∧
          Only [.out, .fab] [key R.lcnt_CELLS_RX link] t v ∧ u = v.takeCell link c)))) ∧
    (∀ c : FabCell,
      let back (u : State) : Prop := c.vl < x.returned.length → (u.link link).returned.getD c.vl 0 = (x.returned.getD c.vl 0 + 1) % 4096
      (c.vlOk = false → let u := s.takeCell link c
        more R.lcnt_BAD_VL s u ∧ back u ∧ Only [.fab] [key R.lcnt_BAD_VL link] s u) ∧
      (c.vlOk = true → c.dest ≠ s.myId → c.dest ≠ 0xFFF → (c.hops + 1) % 8 = 4 → let u := s.takeCell link c
        more R.lcnt_HOP_LIMIT s u ∧ back u ∧ Only [.fab] [key R.lcnt_HOP_LIMIT link] s u)) ∧
    (∀ (n : Nat) (o : Out), n ≤ 35 →
      let u := s.sendUnit link n o
      let since (t : State) : Nat := mget 0 t.fab.sinceFill link
      (s.rd R.link_CLASS link ≠ 1 → u = s.emit o) ∧
      (s.rd R.link_CLASS link = 1 → u.link link = x ∧ Only [.out, .fab] [] s u ∧
        (since s + n ≤ 2047 → Puts [o] s u ∧ since u = since s + n) ∧
        (2047 < since s + n → Puts [o, .block link 0x11 (List.replicate 7 0)] s u ∧ since u = n))) ∧
    (∀ seq n : Nat, seq < 4096 → ackBlock link seq (decide (n = 1)) = .block link 0x21 (toBE 7 (seq * 2 ^ 44 + if n = 1 then 2 ^ 43 else 0))) ∧
    (∀ payload : Octets, payload.length = 7 → (∀ b ∈ payload, b < 256) →
      let row : Instr := .ackReceived link (payload.take 2) (payload.drop 2)
      let ackSeq := fieldAt payload 0 7 / 2 ^ 44 % 4096
      let nak := bit (fieldAt payload 0 7) 43
      let left := x.replay.filter (fun e => decide (2048 ≤ (ackSeq + 4096 - e.1) % 4096))
      (up < 2 → DoesNothing row s) ∧
      (2 ≤ up → Does row s (fun u => (u.link link).replay = left ∧ (nak = true → (u.link link).resend = left.map (·.1)) ∧ Only [.fab] [] s u))) ∧
    (∀ a b c d r : Nat, a < 4096 → b < 4096 → c < 4096 → d < 4096 → r < 256 →
      let payload := toBE 7 (a * 2 ^ 44 + b * 2 ^ 32 + c * 2 ^ 20 + d * 2 ^ 8 + r)
      let counts := [a, b, c, d]
      (r = 0 → creditBlock link counts = .block link 0x22 payload) ∧
      (up < 2 → DoesNothing (.creditReceived link payload) s) ∧
      (2 ≤ up → Does (.creditReceived link payload) s (fun u => u.link link = { x with granted := counts } ∧ Only [.fab] [] s u))) ∧
    (let due : Prop := up = 7 ∧ s.rd R.d2d_LINK_STATE (link / 96) ≠ 1 ∧ (s.past x.creditAt (ticksUs 1) = true ∨
       ∃ v, v < 4 ∧ 16 ≤ (x.returned.getD v 0 + 4096 - x.said.getD v 0) % 4096)
     (¬due → DoesNothing (.creditSend link) s) ∧
     (due → Does (.creditSend link) s (fun u => u.link link = { x with said := x.returned, creditAt := s.clk.ticks } ∧
       Puts (s.unitOut link 1 (creditBlock link x.returned)) s u ∧ Only [.out, .fab] [] s u))) ∧
    (∀ action, action < 5 →
      let row : Instr := .fillerReceived link action
      (¬recv ∨ s.rd R.link_CLASS link ≠ 1 → DoesNothing row s) ∧
      (recv → s.rd R.link_CLASS link = 1 → Does row s (fun u => (u.link link).fillRx = x.fillRx + (if action < 3 then 1 else 0) ∧
        (u.link link).fillDel = x.fillDel + (if action = 1 then 1 else 0) ∧ 
        (u.link link).deleted = x.deleted + (if action = 1 ∨ action = 3 then 1 else 0) ∧
        (u.link link).inserted = x.inserted + (if action = 2 ∨ action = 4 then 1 else 0) ∧ Only [.fab] [] s u))) ∧
    (¬recv → DoesNothing (.elasticSlip link) s ∧ DoesNothing (.unknownBlock link) s) ∧
    (recv → s.rd R.link_CLASS link = 0 → Does (.elasticSlip link) s (fun u => u.rd R.link_LINK_STATE link = 0 ∧ u.rd R.link_REASON link = 7)) ∧
    (recv → s.rd R.link_CLASS link ≠ 0 → Does (.elasticSlip link) s (fun u => more R.lcnt_ELASTIC_SLIPS s u ∧
      Only [] [key R.lcnt_ELASTIC_SLIPS link] s u)) ∧
    (recv → Does (.unknownBlock link) s (fun u => more R.lcnt_UNKNOWN_BLOCKS s u ∧ Only [] [key R.lcnt_UNKNOWN_BLOCKS link] s u)) ∧
    (x.nakAt = none → DoesNothing (.nakRepeat link) s) ∧
    (∀ t, x.nakAt = some t →
      (s.past t (ticksUs 5) = false → DoesNothing (.nakRepeat link) s) ∧
      (s.past t (ticksUs 5) = true → Does (.nakRepeat link) s (fun u => u.link link = { x with nakAt := some s.clk.ticks } ∧
        Puts (s.unitOut link 1 (ackBlock link ((x.rxSeq + 4095) % 4096) true)) s u ∧ Only [.out, .fab] [] s u))) ∧
    (let late : Prop := x.replay ≠ [] ∧ s.past x.progress (ticksUs 5) = true ∧ 2 ≤ up
     (¬late → DoesNothing (.replayTimeout link) s) ∧
     (late → Does (.replayTimeout link) s (fun u => u.link link = { x with resend := x.replay.map (·.1), progress := s.clk.ticks } ∧
       Only [.fab] [] s u))) ∧
    (∀ found, found < 3 →
      let row : Instr := .cellSend link found
      (∀ q rest, x.resend = q :: rest →
        (x.replay.find? (fun e => e.1 == q) = none → Does row s (fun u => u.link link = { x with resend := rest } ∧ Only [.fab] [] s u)) ∧
        (∀ e, x.replay.find? (fun e => e.1 == q) = some e →
          (s.cellPasses link e.2.cell = false → DoesNothing row s) ∧
          (s.cellPasses link e.2.cell = true → Does row s (fun u => ∃ v : State, more R.lcnt_REPLAYED s v ∧ (v.link link).resend = rest ∧
            (v.link link).replay.map (·.1) = x.replay.map (·.1) ∧
            (∃ h, Puts (s.unitOut link 35 (.cell link q e.2.cell.vl h (slice e.2.cell.payload 0 256))) s v) ∧
            Only [.out, .fab] [key R.lcnt_REPLAYED link, key R.lcnt_ECN_LOST link] s v ∧
            u = if 16 ≤ e.2.resent + 1 then v.resendFails link else v)))) ∧
      (x.resend = [] → 256 * s.rd R.link_WIDTH link ≤ x.replay.length + 1 ∨ s.nextVl link = none → DoesNothing row s) ∧
      (∀ v, x.resend = [] → x.replay.length + 1 < 256 * s.rd R.link_WIDTH link → s.nextVl link = some v →
        ∃ q rest, x.queues.getD v [] = q :: rest ∧ s.cellPasses link q.cell = true ∧ (up = 7 → x.credit v ≠ 0) ∧
          Does row s (fun u => ∃ v' : State, (v'.link link).txSeq = (x.txSeq + 1) % 4096 ∧
            (found < 2 → (v'.link link).queues = x.queues.set v rest) ∧
            (v'.link link).queues.map List.length = (x.queues.set v rest).map List.length ∧
            (∀ pid i near last, found = 2 → q.origin = .stored pid i near last → ∀ l ∈ (v'.link link).queues, ∀ c ∈ l,
              c.cell.kind = 0 → c.cell.packet = q.cell.packet → c.cell.badTail = true) ∧
            (∃ b, (v'.link link).replay = x.replay ++ [(x.txSeq, { q with cell := { q.cell with badTail := b } })]) ∧
            more R.lcnt_CELLS_TX s v' ∧ (∃ h p, Puts (s.unitOut link 35 (.cell link x.txSeq q.cell.vl h p)) s v') ∧
            (up = 7 → (v'.link link).charged = x.charged.set v ((x.charged.getD v 0 + 1) % 4096)) ∧ u = v'.releaseOrigin q.origin))) ∧
    (∀ src tag, src < 4096 → tag < 4096 →
      let k := src * 4096 + tag
      (mfind s.fab.reasm k = none → DoesNothing (.reasmTimeout src tag) s) ∧
      (∀ r, mfind s.fab.reasm k = some r →
        let out : Prop := s.past r.since (ticksUs (s.rd R.fab_REASM_TIMEOUT 0)) = true
        (¬out → DoesNothing (.reasmTimeout src tag) s) ∧
        (out → r.fid = 0 → Does (.reasmTimeout src tag) s (fun u => mfind u.fab.reasm k = none ∧
          u.rd R.fab_REASM_DISCARDS 0 = (s.rd R.fab_REASM_DISCARDS 0 + 1) % 2 ^ 64 ∧ Only [.fab] [key R.fab_REASM_DISCARDS 0] s u)) ∧
        (out → r.fid ≠ 0 → Does (.reasmTimeout src tag) s (fun u => mfind u.fab.reasm k = none ∧ u = s.discardReasm k))))

/-- R390 to R395, R397 to R399, R403; and the completion of the rows that carry a link's cells and blocks (R380, R384 to R388, R421). -/
def Obligations.LinksMeet : Prop :=
  ∀ s : State,
    (∀ link, link < 768 →
      let x := s.link link
      let up := s.rd R.link_LINK_STATE link
      let runs : Prop := s.fnState .link link = 3
      let aligns : Prop := runs ∧ up = 1 ∧ s.lanesReady (2 ^ 15 + link) = true
      let gone : Prop := 2 < up ∧ s.past x.helloAt (ticksUs (s.rd R.fab_DEAD_INTERVAL 0)) = true
      let sends : Prop := runs ∧ 2 ≤ up ∧ s.past x.helloSent (ticksUs (s.rd R.fab_HELLO_INTERVAL 0)) = true
      let assigning : Prop := s.rd R.link_ASSIGN_STATUS link = 1
      (¬aligns → DoesNothing (.xlAligned link) s) ∧
      (aligns → Does (.xlAligned link) s (fun u => u.rd R.link_LINK_STATE link = 2 ∧ u.rd R.link_REASON link = 0 ∧
        Only [] [key R.link_LINK_STATE link, key R.link_REASON link] s u)) ∧
      (¬gone → DoesNothing (.neighbourLost link) s) ∧
      (gone → Does (.neighbourLost link) s (fun u => u.rd R.link_LINK_STATE link = 2 ∧ u.rd R.link_REASON link = 0)) ∧
      let hello : Out := .block link 0x30 ((s.helloTrain link).flatMap (toBE 7))
      let assigns : Out := .block link 0x38 ((s.assignTrain link).flatMap (toBE 7))
      (¬sends → DoesNothing (.helloSend link) s) ∧
      (sends → (¬assigning → Does (.helloSend link) s (fun u => u.link link = { x with helloSent := s.clk.ticks } ∧
          Puts (s.unitOut link 4 hello) s u ∧ Only [.out, .fab] [] s u)) ∧
        (assigning → 16 ≤ x.trains → Does (.helloSend link) s (fun u => u.link link = { x with helloSent := s.clk.ticks } ∧
          u.rd R.link_ASSIGN_STATUS link = 3 ∧ Puts (s.unitOut link 4 hello) s u ∧
          Only [.out, .fab] [key R.link_ASSIGN_STATUS link] s u)) ∧
        (assigning → x.trains < 16 → Does (.helloSend link) s (fun u =>
          u.link link = { x with helloSent := s.clk.ticks, trains := x.trains + 1 } ∧
          Puts ((s.sendUnit link 4 hello).unitOut link 4 assigns ++ s.unitOut link 4 hello) s u ∧ Only [.out, .fab] [] s u))) ∧
      (∀ h : Hello, h.serial < 2 ^ 64 → h.incarnation < 2 ^ 32 → h.id < 4096 → h.verMax < 16 → h.verMin < 16 → h.link < 1024 → h.cls < 4 →
        h.level < 65536 → h.flags < 256 → h.peer < 1024 → h.reason < 256 →
        let row : Instr := .helloReceived link h
        let shows (u : State) : Prop := (u.link link).hello = some h ∧ (u.link link).helloAt = s.clk.ticks ∧ (u.link link).recheck = false ∧
          u.rd R.lcnt_HELLOS_RX link = (s.rd R.lcnt_HELLOS_RX link + 1) % 2 ^ 64 ∧ u.rd R.link_NB_SERIAL link = h.serial ∧
          u.rd R.link_NB_INCARNATION link = h.incarnation ∧ u.rd R.link_NB_ID link = h.id ∧ u.rd R.link_NB_LINK link = h.link ∧
          u.rd R.link_NB_FLAGS link = h.flags ∧
          u.rd R.link_ASSIGN_STATUS link = (if s.rd R.link_ASSIGN_STATUS link = 1 ∧ h.id = x.assign.2.2 then 2 else s.rd R.link_ASSIGN_STATUS link)
        let v := min (s.rd R.fab_VERSION_MAX 0) h.verMax
        let known : Prop := h.id ≠ 0xFFF ∧ s.on R.idn_VALID h.id = true
        let found : Nat × Nat :=
          if v < max (s.rd R.fab_VERSION_MIN 0) h.verMin then (5, 1)
          else if h.cls ≠ s.rd R.link_CLASS link then (5, 2)
          else if h.id = s.myId ∧ h.serial = s.rd R.ident_SERIAL 0 then (5, 3)
          else if h.id = 0xFFF ∨ s.on R.idn_VALID h.id = false then (4, 0)
          else if h.serial ≠ s.rd R.idn_SERIAL h.id ∨ h.incarnation < s.rd R.idn_INCARNATION h.id then (6, 4)
          else if s.rd R.idn_INCARNATION h.id < h.incarnation then (4, 0)
          else if bit h.flags 4 then (3, 5)
          else if bit h.flags 5 = false ∨ h.peer ≠ link then (3, 0)
          else (7, 0)
        (¬(runs ∧ 2 ≤ up) → DoesNothing row s) ∧
        (runs → 2 ≤ up → Does row s (fun u => ∃ t, shows t ∧ u = t.meetHello link x.hello h x.recheck)) ∧
        (runs → up = 2 → s.on R.fab_FENCE 0 = true → Does row s (fun u => u.rd R.link_LINK_STATE link = 8 ∧ u.rd R.link_REASON link = 5)) ∧
        (runs → up = 3 ∨ (up = 2 ∧ s.on R.fab_FENCE 0 = false) → Does row s (fun u =>
          u.rd R.link_LINK_STATE link = found.1 ∧ u.rd R.link_REASON link = found.2 ∧ (known → found.1 = 7 → u.rd R.link_VERSION link = v)))) ∧
      (∀ t : AssignTrain, t.serial < 2 ^ 64 → t.newId < 4096 → t.manager < 4096 → t.sender < 4096 → t.incarnation < 2 ^ 32 →
        let row : Instr := .assignReceived link t
        let mine : Prop := t.serial = s.rd R.ident_SERIAL 0 ∧ t.incarnation = s.rd R.ident_INCARNATION 0 ∧ s.fab.assigned = none ∧
          (s.myId = 0xFFF ∨ (s.on R.fab_FIXED_ID 0 = true ∧ t.newId = s.myId))
        (¬(runs ∧ 2 ≤ up) ∨ s.fab.assigned = some (t.newId, t.manager) → DoesNothing row s) ∧
        (runs → 2 ≤ up → s.fab.assigned ≠ some (t.newId, t.manager) →
          (mine → Does row s (fun u => u.rd R.ident_DEVICE_ID 0 = t.newId ∧ u.rd R.fab_MANAGER_ID 0 = t.manager ∧
            u.fab.assigned = some (t.newId, t.manager) ∧ u.rd R.idn_VALID t.newId = 1 ∧ u.rd R.idn_VALID t.sender = 1 ∧
            u.rd R.princ_ENABLE 3 = 1 ∧ u.rd R.princ_ROUTE 3 = 3 ∧ u.rd R.princ_DEVICE_ID 3 = t.manager ∧
            u.rd R.rt_MEMBER0 t.sender = 2 ^ 31 + 2 ^ 26 + link * 2 ^ 16 ∧ u.rd R.rt_MEMBER0 t.manager = 2 ^ 31 + 2 ^ 26 + link * 2 ^ 16)) ∧
          (¬mine → Does row s (fun u => u.rd R.lcnt_ASSIGN_REFUSED link = (s.rd R.lcnt_ASSIGN_REFUSED link + 1) % 2 ^ 32 ∧
            u.rd R.link_REASON link = 6 ∧ Only [] [key R.lcnt_ASSIGN_REFUSED link, key R.link_REASON link] s u)))) ∧
      (∀ who serial inc id, let u := s.takeEffect ⟨who, key R.link_ASSIGN link, 1, [serial, inc, id]⟩
        u.link link = { x with trains := 0, assign := (serial, inc, id) } ∧ u.rd R.link_ASSIGN_STATUS link = 1 ∧
        Only [.fab] [key R.link_ASSIGN_STATUS link] s u) ∧
      (∀ who aux, let u := s.takeEffect ⟨who, key R.fab_FENCE 0, 1, aux⟩
        u.rd R.fab_FENCE 0 = 1 ∧ (link ∈ s.fnsIn .link 3 → 2 ≤ up → u.rd R.link_LINK_STATE link = 8))) ∧
    (∀ (who : Accessor) (id : Nat), who.ok = true → id < 65536 → Accepted s who (key R.fab_SET_ID 0) (typeLen (key R.fab_SET_ID 0)) id →
      let v := written (key R.fab_SET_ID 0) id
      Does (.setId who id) s (fun u => Answered s u daOk ∧ u.rd R.ident_DEVICE_ID 0 = v ∧ u.rd R.fab_MANAGER_ID 0 = v ∧
        u.rd R.idn_VALID v = 1 ∧ u.rd R.idn_SERIAL v = s.rd R.ident_SERIAL 0 ∧ u.rd R.idn_INCARNATION v = s.rd R.ident_INCARNATION 0 ∧
        (∀ l h, (s.link l).hello = some h → u.link l = { s.link l with recheck := (s.link l).recheck || decide (h.id = v) }) ∧
        (∀ l, (s.link l).hello = none → u.link l = s.link l) ∧ u.fab = { s.fab with links := u.fab.links } ∧
        Only [.acc, .fab] [key R.svc_REQUESTS 0, key R.ident_DEVICE_ID 0, key R.fab_MANAGER_ID 0, key R.idn_VALID v, key R.idn_SERIAL v,
          key R.idn_INCARNATION v] s u)) ∧
    -- a link that has met its neighbour carries cells and blocks: these rows complete
    (∀ link, link < 768 →
      let x := s.link link
      let up := s.rd R.link_LINK_STATE link
      let recv : Prop := s.fnState .link link = 3 ∧ 2 ≤ up
      let more (r : Reg) (u : State) : Prop := u.rd r link = (s.rd r link + 1) % 2 ^ 64
      (∀ header payload : Octets, header.length = 16 → payload.length = 256 → (∀ b ∈ header, b < 256) → (∀ b ∈ payload, b < 256) → up = 7 →
        x.rxSeq < 4096 → crc32c 0xFFFFFFFF (header.take 12 ++ payload) = fieldAt header 12 4 →
        Does (.cellReceived link x.rxSeq none header payload) s (fun u => ∃ v : State, more R.lcnt_CELLS_RX v ∧
          (v.link link).rxSeq = (x.rxSeq + 1) % 4096 ∧ u = v.takeCell link (parseCell header payload))) ∧
      (∀ payload : Octets, payload.length = 7 → (∀ b ∈ payload, b < 256) → 2 ≤ up →
        Does (.ackReceived link (payload.take 2) (payload.drop 2)) s (fun u => ∀ e ∈ (u.link link).replay, e ∈ x.replay ∧
          2048 ≤ (fieldAt payload 0 7 / 2 ^ 44 % 4096 + 4096 - e.1) % 4096) ∧
        Does (.creditReceived link payload) s (fun u => (u.link link).granted = creditCounts (fieldAt payload 0 7))) ∧
      (up = 7 → s.rd R.d2d_LINK_STATE (link / 96) ≠ 1 → s.past x.creditAt (ticksUs 1) = true →
        Does (.creditSend link) s (fun u => (u.link link).said = x.returned)) ∧
      (recv → s.rd R.link_CLASS link = 1 → Does (.fillerReceived link 1) s (fun u => (u.link link).fillDel = x.fillDel + 1) ∧
        Does (.elasticSlip link) s (more R.lcnt_ELASTIC_SLIPS)) ∧
      (recv → Does (.unknownBlock link) s (more R.lcnt_UNKNOWN_BLOCKS)) ∧
      (∀ t, x.nakAt = some t → s.past t (ticksUs 5) = true → Does (.nakRepeat link) s (fun u => (u.link link).nakAt = some s.clk.ticks)) ∧
      (x.replay ≠ [] → s.past x.progress (ticksUs 5) = true → 2 ≤ up →
        Does (.replayTimeout link) s (fun u => (u.link link).resend = x.replay.map (·.1))) ∧
      (∀ v, x.resend = [] → x.replay.length + 1 < 256 * s.rd R.link_WIDTH link → s.nextVl link = some v →
        Does (.cellSend link 0) s (fun u => ∃ (w : State) (o : Origin), more R.lcnt_CELLS_TX w ∧ u = w.releaseOrigin o))) ∧
    (∀ src tag r, src < 4096 → tag < 4096 → mfind s.fab.reasm (src * 4096 + tag) = some r →
      s.past r.since (ticksUs (s.rd R.fab_REASM_TIMEOUT 0)) = true →
      Does (.reasmTimeout src tag) s (fun u => mfind u.fab.reasm (src * 4096 + tag) = none))

/-! ## Telemetry and dumps -/

/-- With the completion of mirrorCopy (R504). R481, R485, R493, R498, R499, R501, R507, R508 and R509. -/
def Obligations.TelemetryWorks : Prop :=
  ∀ s : State,
    (s.tel.flushes = [] ∨ s.on R.tmnt_LOCKED 9 = true → DoesNothing .flowFlush s) ∧
    (∀ l rest, s.tel.flushes = l :: rest → s.on R.tmnt_LOCKED 9 = false →
      let t : State := { s with tel := { s.tel with flushes := rest } }
      let b0 := s.slotAddr 9 (s.loc0 9 l.key)
      let b1 := s.slotAddr 9 (s.loc4 9 l.key)
      let reachable : Prop := s.rd R.tbl_STATE 9 = 3 ∧ s.stackUp (farStack b0) = true ∧ s.stackUp (farStack b1) = true
      (¬reachable → Does .flowFlush s (fun u => u.rd R.telem_FT_LOST_UPDATES 0 = (s.rd R.telem_FT_LOST_UPDATES 0 + l.packets) % 2 ^ 64 ∧
        u.tel = t.tel ∧ Only [.tel] [key R.telem_FT_LOST_UPDATES 0] s u)) ∧
      (reachable → Does .flowFlush s (fun u => u.tel.flushes = rest ∧
        let v := ((t.tableAccess .telem clsTelem b0 1024 false).tableAccess .telem clsTelem b1 1024 false).checkCandidates 9 l.key 0x013 clsTelem
        let c := s.candidates 9 l.key
        let counted (r : Reg) (n : Nat) : Prop := u.rd r n = (v.rd r n + 1) % 2 ^ 64
        (∀ p, c.find? (fun p => flowMatches (v.entry 9 p) l) = some p → counted R.telem_FT_FLUSHES 0) ∧
        (c.find? (fun p => flowMatches (v.entry 9 p) l) = none →
          (c.find? (fun p => !entryHeld 9 (v.entry 9 p)) = none → counted R.telem_FT_NO_ROOM 0 ∧ Only [] [key R.telem_FT_NO_ROOM 0] v u) ∧
          (∀ p, c.find? (fun p => !entryHeld 9 (v.entry 9 p)) = some p →
            let q := v.rd R.tquota_FLOW_QUOTA l.tenant
            (q ≠ 0 → q ≤ v.rd R.tquota_FLOW_USED l.tenant → counted R.tquota_FLOWS_REFUSED l.tenant ∧
              Only [] [key R.tquota_FLOWS_REFUSED l.tenant] v u) ∧
            (q = 0 ∨ v.rd R.tquota_FLOW_USED l.tenant < q → counted R.telem_FT_CREATED 0 ∧ counted R.telem_FT_FLUSHES 0)))))) ∧
    (∀ c, c < 4 →
      (mfind s.tel.exports c = none → DoesNothing (.exportClose c) s) ∧
      (∀ p, mfind s.tel.exports c = some p →
        (s.past p.since (ticksUs (s.rd R.expo_EXPORT_HOLD c)) = false → DoesNothing (.exportClose c) s) ∧
        (s.past p.since (ticksUs (s.rd R.expo_EXPORT_HOLD c)) = true → Does (.exportClose c) s (fun u => u = s.exportClose c ∧
          mfind u.tel.exports c = none ∧
          ((mget 0 u.tel.seq c = mget 0 s.tel.seq c + 1 ∧ u.rd R.expo_PACKETS c = (s.rd R.expo_PACKETS c + 1) % 2 ^ 64) ∨
            (mget 0 u.tel.seq c = mget 0 s.tel.seq c ∧ u.rd R.expo_DROPPED c = (s.rd R.expo_DROPPED c + 1) % 2 ^ 64)))))) ∧
    (∀ pair, pair < 16777216 →
      let r := s.dumpPairs pair 1
      (∀ v, mfind s.tel.passRead pair = some v → r = (([v.packets, v.bytes], v.part), s)) ∧
      (mfind s.tel.passRead pair = none → r.1 = ([(s.readPair pair).1.packets, (s.readPair pair).1.bytes], (s.readPair pair).1.part) ∧
        mfind r.2.tel.passRead pair = some (s.readPair pair).1)) ∧
    (∀ d, d < 16 →
      (mfind s.tel.due d = none → DoesNothing (.dumpDue d) s) ∧
      (∀ j, mfind s.tel.due d = some j →
        let busy : Prop := mfind s.tel.dumps d ≠ none ∨ j.late = true ∨ s.passBusy j = true
        (busy → Does (.dumpDue d) s (fun u => ∃ v : State, v.rd R.dump_DUMP_SKIPPED d = (s.rd R.dump_DUMP_SKIPPED d + 1) % 2 ^ 32 ∧
          v.tel = { s.tel with due := mdel s.tel.due d } ∧ Only [.tel] [key R.dump_DUMP_SKIPPED d] s v ∧ u = v.passEnds)) ∧
        (¬busy → Does (.dumpDue d) s (fun u => u.tel = { s.tel with due := mdel s.tel.due d, dumps := mins s.tel.dumps d j } ∧
          Puts (if j.counter = false ∧ s.masters 0 = true then [.hostWrite 0 (j.buf + 32) j.values] else []) s u ∧ Only [.out, .tel] [] s u))) ∧
      (mfind s.tel.dumps d = none → DoesNothing (.dumpDone d) s) ∧
      (∀ j, mfind s.tel.dumps d = some j →
        let ends (t : State) : State := ({ t with tel := { t.tel with dumps := mdel t.tel.dumps d } }).passEnds
        let wrote (t v : State) (addr : Nat) (ws : List Nat) : Prop :=
          Puts (if t.masters 0 = true then [.hostWrite 0 addr ws] else []) t v ∧ Only [.out] [] t v
        let tells (v u : State) : Prop := u = v.event 0 0x001C [d * 2 ^ 60 + j.header.getD 1 0 % 2 ^ 48]
        (j.counter = false → Does (.dumpDone d) s (fun u => ∃ v : State, wrote (ends s) v j.buf j.header ∧ tells v u)) ∧
        (j.counter = true → Does (.dumpDone d) s (fun u => ∃ t v : State,
          let r := s.dumpPairs j.first j.count
          wrote r.2 t (j.buf + 32) r.1.1 ∧ wrote (ends t) v j.buf (j.header.set 0 (setBit (j.header.getD 0 0) 30 r.1.2)) ∧ tells v u))) ∧
      (∀ who aux, let u := s.takeEffect ⟨who, key R.dump_TRIGGER d, 1, aux⟩
        mfind u.tel.triggered d = some aux ∧ Only [.tel] [] s u)) ∧
    (∀ g c rest, g < 8 → mget [] s.tel.copies g = c :: rest →
      (s.on R.mirr_ENABLE c.session = false → Does (.mirrorCopy g) s (fun u => mget [] u.tel.copies g = rest)) ∧
      (s.on R.mirr_ENABLE c.session = true → lfsrNext 32 (s.mirror c.session).lfsr % 2 ^ s.rd R.mirr_SAMPLE_EXP c.session ≠ 0 →
        Does (.mirrorCopy g) s (fun u => mget [] u.tel.copies g = rest ∧
          u.rd R.mirr_COPIES c.session = (s.rd R.mirr_COPIES c.session + 1) % 2 ^ 64)) ∧
      (s.on R.mirr_ENABLE c.session = true → lfsrNext 32 (s.mirror c.session).lfsr % 2 ^ s.rd R.mirr_SAMPLE_EXP c.session = 0 →
        s.rd R.mirr_RATE c.session = 0 → Does (.mirrorCopy g) s (fun u => ∃ x : State, mget [] x.tel.copies g = rest ∧
          x.rd R.mirr_COPIES c.session = (s.rd R.mirr_COPIES c.session + 1) % 2 ^ 64 ∧
          let sent := x.output (x.rd R.mirr_OUTPUT c.session) 5 (x.mirrorRecord c).1 (x.mirrorRecord c).2
          (sent.1 = false → u = sent.2.bump R.mirr_DROPPED c.session)))) ∧
    (∀ g, g < 8 → ∀ who seed aux, let u := s.takeEffect ⟨who, key R.gtel_TRACE_SEED g, seed, aux⟩
      (∀ j, j < 32 → u.pipe j = if j / 4 = g then { s.pipe j with lfsr := seed } else s.pipe j) ∧ Only [.pip] [] s u) ∧
    (∀ g, g < 65536 → ∀ who aux,
      (let u := s.takeEffect ⟨who, key R.gen_RETIRE 0, g, aux⟩
       (s.rd R.gen_PREV_STATE 0 = 1 → u.rd R.gen_PREV_STATE 0 = 0 ∧ u.rd R.gen_RETIRED_SLOT 0 = s.slotNo) ∧
       (s.rd R.gen_PREV_STATE 0 ≠ 1 → u = s) ∧ u.rd R.gen_CURRENT 0 = s.rd R.gen_CURRENT 0) ∧
      (∃ v : State, v.rd R.gen_CURRENT 0 = g ∧ v.rd R.gen_NEXT 0 = g ∧ v.rd R.gen_PREV_STATE 0 = 0 ∧ v.rd R.gen_GEN_STATE 0 = 1 ∧
        Only [.acc] [key R.gen_CURRENT 0, key R.gen_NEXT 0, key R.gen_PREV_STATE 0, key R.gen_GEN_STATE 0] s v ∧
        s.takeEffect ⟨who, key R.gen_ADOPT 0, g, aux⟩ = v.discardHeld))
end

