-- ==== Sys2Proof/Laws/Fields.lean ====
section
/-! SUPPORT. Laws of bit fields. -/

namespace Sys2Proof.Machine

/-- A bit that is set reads as it was set. -/
@[simp]
theorem bit_setBit (w i : Nat) (b : Bool) : bit (setBit w i b) i = b := by
  unfold bit setBit setBits bits
  have hle : w / 2 ^ i % 2 ^ (i + 1 - i) * 2 ^ i ≤ w := by
    refine Nat.le_trans (Nat.mul_le_mul_right _ (Nat.mod_le _ _)) ?_
    exact Nat.div_mul_le_self w (2^i)
  have h1 : i + 1 - i = 1 := by omega
  rw [h1] at *
  have hp : 0 < 2 ^ i := Nat.pos_of_ne_zero (by simp)
  generalize hP : 2 ^ i = P at *
  have hw := Nat.div_add_mod w P
  have hq : w / P = 2 * (w / P / 2) + w / P % 2 := by omega
  have key : w - w / P % 2 ^ 1 * P + b2n b % 2 ^ 1 * P = P * (2 * (w / P / 2) + b2n b % 2) + w % P := by
    rw [Nat.mul_add, Nat.mul_comm P (b2n b % 2)]
    simp only [Nat.pow_one] at *
    have : P * (w / P) = P * (2 * (w / P / 2)) + (w / P % 2) * P := by
      exact (congrArg (P * ·) hq).trans (by rw [Nat.mul_add, Nat.mul_comm P (w / P % 2)])

    omega
  rw [key, Nat.mul_add_div hp, Nat.div_eq_of_lt (Nat.mod_lt _ hp)]
  cases b <;> simp [b2n] <;> omega

/-- A number with a bit set is not zero. -/
theorem ne_zero_of_bit {w i : Nat} (h : bit w i = true) : w ≠ 0 := by
  intro h0; subst h0; simp [bit] at h

end Sys2Proof.Machine
end

