-- ==== Sys2Proof/Laws/Maps.lean ====
section
/-! SUPPORT. The laws of finite maps: what a key reads after an update, and that every update keeps the canonical form. -/

namespace Sys2Proof.Machine

variable {α : Type}

@[simp] theorem mfind_mdel_same (m : Map α) (k : Nat) : mfind (mdel m k) k = none := by
  induction m with
  | nil => rfl
  | cons e t ih =>
    obtain ⟨k', v⟩ := e
    by_cases h : k = k'
    · simpa [mdel, h] using h ▸ ih
    · simp [mdel, mfind, h, ih]

theorem mfind_mdel_ne (m : Map α) {k j : Nat} (h : j ≠ k) : mfind (mdel m k) j = mfind m j := by
  induction m with
  | nil => rfl
  | cons e t ih =>
    obtain ⟨k', v⟩ := e
    by_cases hk : k = k'
    · subst hk; simp [mdel, mfind, h, ih]
    · by_cases hj : j = k' <;> simp [mdel, mfind, hk, hj, ih]

@[simp] theorem mfind_mins_same (m : Map α) (k : Nat) (v : α) : mfind (mins m k v) k = some v := by
  induction m with
  | nil => simp [mins, mfind]
  | cons e t ih =>
    obtain ⟨k', v'⟩ := e
    simp only [mins]
    split
    · simp [mfind]
    · split
      · simp [mfind]
      · simp [mfind, *]

theorem mfind_mins_ne (m : Map α) {k j : Nat} (v : α) (h : j ≠ k) : mfind (mins m k v) j = mfind m j := by
  induction m with
  | nil => simp [mins, mfind, h]
  | cons e t ih =>
    obtain ⟨k', v'⟩ := e
    simp only [mins]
    split
    · simp [mfind, h]
    · split
      · rename_i hk; subst hk; simp [mfind, h]
      · by_cases hj : j = k' <;> simp [mfind, hj, ih]

@[simp] theorem mget_mput_same [DecidableEq α] (d : α) (m : Map α) (k : Nat) (v : α) : mget d (mput d m k v) k = v := by
  unfold mget mput
  split <;> simp [*]

theorem mget_mput_ne [DecidableEq α] (d d' : α) (m : Map α) {k j : Nat} (v : α) (h : j ≠ k) :
    mget d' (mput d m k v) j = mget d' m j := by
  unfold mget mput
  split <;> simp [mfind_mdel_ne, mfind_mins_ne, h]

/-! ## Canonical form -/

/-- Every key of a map lies above a bound. -/
theorem msorted_cons (k : Nat) (v : α) (m : Map α) :
    msorted ((k, v) :: m) = true ↔ (∀ e ∈ m, k < e.1) ∧ msorted m = true := by
  induction m generalizing k v with
  | nil => simp [msorted]
  | cons e t ih =>
    obtain ⟨k', v'⟩ := e
    have h2 := ih k' v'
    simp only [msorted, Bool.and_eq_true, decide_eq_true_eq, List.mem_cons, forall_eq_or_imp] at *
    constructor
    · rintro ⟨hk, hm⟩
      exact ⟨⟨hk, fun e he => Nat.lt_trans hk ((h2.1 hm).1 e he)⟩, hm⟩
    · rintro ⟨⟨hk, _⟩, hm⟩
      exact ⟨hk, hm⟩

theorem mem_mins (m : Map α) (k : Nat) (v : α) (e : Nat × α) (h : e ∈ mins m k v) : e = (k, v) ∨ e ∈ m := by
  induction m with
  | nil => simpa [mins] using h
  | cons x t ih =>
    obtain ⟨k', v'⟩ := x
    simp only [mins] at h
    split at h
    · simpa using h
    · split at h
      · rcases List.mem_cons.1 h with h | h
        · exact .inl h
        · exact .inr (List.mem_cons_of_mem _ h)
      · rcases List.mem_cons.1 h with h | h
        · exact .inr (h ▸ List.mem_cons_self ..)
        · exact (ih h).imp_right (List.mem_cons_of_mem _)

theorem mem_mdel (m : Map α) (k : Nat) (e : Nat × α) (h : e ∈ mdel m k) : e ∈ m := by
  induction m with
  | nil => simp [mdel] at h
  | cons x t ih =>
    obtain ⟨k', v'⟩ := x
    simp only [mdel] at h
    split at h
    · exact List.mem_cons_of_mem _ (ih h)
    · rcases List.mem_cons.1 h with h | h
      · exact h ▸ List.mem_cons_self ..
      · exact List.mem_cons_of_mem _ (ih h)

/-- Setting a key keeps a map canonical. -/
theorem msorted_mins (m : Map α) (k : Nat) (v : α) (h : msorted m = true) : msorted (mins m k v) = true := by
  induction m with
  | nil => rfl
  | cons x t ih =>
    obtain ⟨k', v'⟩ := x
    obtain ⟨hb, ht⟩ := (msorted_cons k' v' t).1 h
    simp only [mins]
    split
    · rename_i hk
      exact (msorted_cons ..).2 ⟨by
        intro e he
        rcases List.mem_cons.1 he with he | he
        · exact he ▸ hk
        · exact Nat.lt_trans hk (hb e he), h⟩
    · split
      · rename_i hk
        exact (msorted_cons ..).2 ⟨fun e he => hk ▸ hb e he, ht⟩
      · exact (msorted_cons ..).2 ⟨by
          intro e he
          rcases mem_mins _ _ _ _ he with he | he
          · subst he; simp; omega
          · exact hb e he, ih ht⟩

/-- Removing a key keeps a map canonical. -/
theorem msorted_mdel (m : Map α) (k : Nat) (h : msorted m = true) : msorted (mdel m k) = true := by
  induction m with
  | nil => rfl
  | cons x t ih =>
    obtain ⟨k', v'⟩ := x
    obtain ⟨hb, ht⟩ := (msorted_cons k' v' t).1 h
    simp only [mdel]
    split
    · exact ih ht
    · exact (msorted_cons ..).2 ⟨fun e he => hb e (mem_mdel _ _ _ he), ih ht⟩

/-- Setting a value keeps a map canonical. -/
theorem msorted_mput [DecidableEq α] (d : α) (m : Map α) (k : Nat) (v : α) (h : msorted m = true) :
    msorted (mput d m k v) = true := by
  unfold mput
  split
  · exact msorted_mdel m k h
  · exact msorted_mins m k v h

/-- No entry of a map holds the value that an unlisted key reads as. -/
theorem no_default_mput [DecidableEq α] (d : α) (m : Map α) (k : Nat) (v : α) (h : ∀ e ∈ m, e.2 ≠ d) :
    ∀ e ∈ mput d m k v, e.2 ≠ d := by
  unfold mput
  split
  · exact fun e he => h e (mem_mdel _ _ _ he)
  · rename_i hv
    intro e he
    rcases mem_mins _ _ _ _ he with he | he
    · exact he ▸ hv
    · exact h e he

end Sys2Proof.Machine
end

