-- ==== Sys2Proof/Laws/Memory.lean ====
section
/-! SUPPORT. Every operation on the addressed memories (near tier, far tier, TCAM rows, flash) keeps their canonical form, and the
memories right after reset have it. -/

namespace Sys2Proof.Machine

theorem memoryWf_iff (d : Nat) (m : Map Nat) : memoryWf d m = true ↔ msorted m = true ∧ ∀ e ∈ m, e.2 ≠ d := by
  simp [memoryWf]

/-- Writing a word keeps the form. -/
theorem memoryWf_mput {d : Nat} {m : Map Nat} (k v : Nat) (h : memoryWf d m = true) : memoryWf d (mput d m k v) = true := by
  rw [memoryWf_iff] at *
  exact ⟨msorted_mput d m k v h.1, no_default_mput d m k v h.2⟩

theorem msorted_filter {α : Type} (p : Nat × α → Bool) (m : Map α) (h : msorted m = true) : msorted (m.filter p) = true := by
  induction m with
  | nil => rfl
  | cons e t ih =>
    obtain ⟨hb, ht⟩ := (msorted_cons e.1 e.2 t).1 h
    rw [List.filter_cons]
    split
    · exact (msorted_cons ..).2 ⟨fun x hx => hb x ((List.mem_filter.1 hx).1), ih ht⟩
    · exact ih ht

/-- Clearing a range keeps the form. -/
theorem memoryWf_filter {d : Nat} {m : Map Nat} (p : Nat × Nat → Bool) (h : memoryWf d m = true) :
    memoryWf d (m.filter p) = true := by
  rw [memoryWf_iff] at *
  exact ⟨msorted_filter p m h.1, fun e he => h.2 e ((List.mem_filter.1 he).1)⟩

/-- Programming flash keeps the form. -/
theorem memoryWf_flashPut {m : Map Octet} (a : Nat) (bs : Octets) (h : memoryWf 0xFF m = true) :
    memoryWf 0xFF (flashPut m a bs) = true := by
  unfold flashPut
  generalize bs.zipIdx = l
  induction l generalizing m with
  | nil => exact h
  | cons e t ih => exact ih (memoryWf_mput _ _ h)

/-- The three memories of the tables in canonical form. -/
abbrev tablesWf (t : Tables) : Prop := memoryWf 0 t.near = true ∧ memoryWf 0 t.far = true ∧ memoryWf 0 t.tcam = true

/-- A write of a near word keeps the form. -/
theorem State.putNear_wf (s : State) (a w : Nat) (h : tablesWf s.tab) : tablesWf (s.putNear a w).tab :=
  ⟨memoryWf_mput _ _ h.1, h.2.1, h.2.2⟩

/-- A write of a far word keeps the form. -/
theorem State.putFar_wf (s : State) (a w : Nat) (h : tablesWf s.tab) : tablesWf (s.putFar a w).tab :=
  ⟨h.1, memoryWf_mput _ _ h.2.1, h.2.2⟩

theorem State.each_wf {α : Type} (f : State → α → State) (hf : ∀ s x, tablesWf s.tab → tablesWf (f s x).tab) (l : List α)
    (s : State) (h : tablesWf s.tab) : tablesWf (s.each l f).tab := by
  unfold State.each
  induction l generalizing s with
  | nil => exact h
  | cons x t ih => exact ih _ (hf s x h)

/-- A write of words in sequence keeps the form. -/
theorem State.putNears_wf (s : State) (a : Nat) (ws : List Nat) (h : tablesWf s.tab) : tablesWf (s.putNears a ws).tab :=
  State.each_wf _ (fun t _ ht => t.putNear_wf _ _ ht) _ _ h
theorem State.putFars_wf (s : State) (a : Nat) (ws : List Nat) (h : tablesWf s.tab) : tablesWf (s.putFars a ws).tab :=
  State.each_wf _ (fun t _ ht => t.putFar_wf _ _ ht) _ _ h

/-- The memories right after reset are in canonical form. -/
theorem reset_memories_wf : tablesWf State.reset.tab ∧ memoryWf 0xFF State.reset.pwr.flash = true := by decide

end Sys2Proof.Machine
end

