-- ==== Sys2Proof/Laws/State.lean ====
section
/-! SUPPORT. What each update of the state leaves alone, one lemma per field: every proof reads these and unfolds no record. -/

namespace Sys2Proof.Machine

/-! ## setVal -/

@[simp] theorem State.setVal_pending (s : State) (k v : Nat) : (s.setVal k v).pending = s.pending := rfl
@[simp] theorem State.setVal_out (s : State) (k v : Nat) : (s.setVal k v).out = s.out := rfl
@[simp] theorem State.setVal_freeIx (s : State) (k v : Nat) : (s.setVal k v).freeIx = s.freeIx := rfl
@[simp] theorem State.setVal_acc (s : State) (k v : Nat) : (s.setVal k v).acc = s.acc := rfl
@[simp] theorem State.setVal_remote (s : State) (k v : Nat) : (s.setVal k v).remote = s.remote := rfl
@[simp] theorem State.setVal_fns (s : State) (k v : Nat) : (s.setVal k v).fns = s.fns := rfl
@[simp] theorem State.setVal_clk (s : State) (k v : Nat) : (s.setVal k v).clk = s.clk := rfl
@[simp] theorem State.setVal_time (s : State) (k v : Nat) : (s.setVal k v).time = s.time := rfl
@[simp] theorem State.setVal_ep (s : State) (k v : Nat) : (s.setVal k v).ep = s.ep := rfl
@[simp] theorem State.setVal_coll (s : State) (k v : Nat) : (s.setVal k v).coll = s.coll := rfl
@[simp] theorem State.setVal_pwr (s : State) (k v : Nat) : (s.setVal k v).pwr = s.pwr := rfl
@[simp] theorem State.setVal_sto (s : State) (k v : Nat) : (s.setVal k v).sto = s.sto := rfl
@[simp] theorem State.setVal_bab (s : State) (k v : Nat) : (s.setVal k v).bab = s.bab := rfl
@[simp] theorem State.setVal_tab (s : State) (k v : Nat) : (s.setVal k v).tab = s.tab := rfl
@[simp] theorem State.setVal_pip (s : State) (k v : Nat) : (s.setVal k v).pip = s.pip := rfl
@[simp] theorem State.setVal_trf (s : State) (k v : Nat) : (s.setVal k v).trf = s.trf := rfl
@[simp] theorem State.setVal_prt (s : State) (k v : Nat) : (s.setVal k v).prt = s.prt := rfl
@[simp] theorem State.setVal_tel (s : State) (k v : Nat) : (s.setVal k v).tel = s.tel := rfl
@[simp] theorem State.setVal_lan (s : State) (k v : Nat) : (s.setVal k v).lan = s.lan := rfl
@[simp] theorem State.setVal_fab (s : State) (k v : Nat) : (s.setVal k v).fab = s.fab := rfl

/-! ## wr -/

@[simp] theorem State.wr_pending (s : State) (r : Reg) (n v : Nat) : (s.wr r n v).pending = s.pending := rfl
@[simp] theorem State.wr_out (s : State) (r : Reg) (n v : Nat) : (s.wr r n v).out = s.out := rfl
@[simp] theorem State.wr_freeIx (s : State) (r : Reg) (n v : Nat) : (s.wr r n v).freeIx = s.freeIx := rfl
@[simp] theorem State.wr_acc (s : State) (r : Reg) (n v : Nat) : (s.wr r n v).acc = s.acc := rfl
@[simp] theorem State.wr_remote (s : State) (r : Reg) (n v : Nat) : (s.wr r n v).remote = s.remote := rfl
@[simp] theorem State.wr_fns (s : State) (r : Reg) (n v : Nat) : (s.wr r n v).fns = s.fns := rfl
@[simp] theorem State.wr_clk (s : State) (r : Reg) (n v : Nat) : (s.wr r n v).clk = s.clk := rfl
@[simp] theorem State.wr_time (s : State) (r : Reg) (n v : Nat) : (s.wr r n v).time = s.time := rfl
@[simp] theorem State.wr_ep (s : State) (r : Reg) (n v : Nat) : (s.wr r n v).ep = s.ep := rfl
@[simp] theorem State.wr_coll (s : State) (r : Reg) (n v : Nat) : (s.wr r n v).coll = s.coll := rfl
@[simp] theorem State.wr_pwr (s : State) (r : Reg) (n v : Nat) : (s.wr r n v).pwr = s.pwr := rfl
@[simp] theorem State.wr_sto (s : State) (r : Reg) (n v : Nat) : (s.wr r n v).sto = s.sto := rfl
@[simp] theorem State.wr_bab (s : State) (r : Reg) (n v : Nat) : (s.wr r n v).bab = s.bab := rfl
@[simp] theorem State.wr_tab (s : State) (r : Reg) (n v : Nat) : (s.wr r n v).tab = s.tab := rfl
@[simp] theorem State.wr_pip (s : State) (r : Reg) (n v : Nat) : (s.wr r n v).pip = s.pip := rfl
@[simp] theorem State.wr_trf (s : State) (r : Reg) (n v : Nat) : (s.wr r n v).trf = s.trf := rfl
@[simp] theorem State.wr_prt (s : State) (r : Reg) (n v : Nat) : (s.wr r n v).prt = s.prt := rfl
@[simp] theorem State.wr_tel (s : State) (r : Reg) (n v : Nat) : (s.wr r n v).tel = s.tel := rfl
@[simp] theorem State.wr_lan (s : State) (r : Reg) (n v : Nat) : (s.wr r n v).lan = s.lan := rfl
@[simp] theorem State.wr_fab (s : State) (r : Reg) (n v : Nat) : (s.wr r n v).fab = s.fab := rfl

/-! ## wrI -/

@[simp] theorem State.wrI_pending (s : State) (r : Reg) (n : Nat) (v : Int) : (s.wrI r n v).pending = s.pending := rfl
@[simp] theorem State.wrI_out (s : State) (r : Reg) (n : Nat) (v : Int) : (s.wrI r n v).out = s.out := rfl
@[simp] theorem State.wrI_freeIx (s : State) (r : Reg) (n : Nat) (v : Int) : (s.wrI r n v).freeIx = s.freeIx := rfl
@[simp] theorem State.wrI_acc (s : State) (r : Reg) (n : Nat) (v : Int) : (s.wrI r n v).acc = s.acc := rfl
@[simp] theorem State.wrI_remote (s : State) (r : Reg) (n : Nat) (v : Int) : (s.wrI r n v).remote = s.remote := rfl
@[simp] theorem State.wrI_fns (s : State) (r : Reg) (n : Nat) (v : Int) : (s.wrI r n v).fns = s.fns := rfl
@[simp] theorem State.wrI_clk (s : State) (r : Reg) (n : Nat) (v : Int) : (s.wrI r n v).clk = s.clk := rfl
@[simp] theorem State.wrI_time (s : State) (r : Reg) (n : Nat) (v : Int) : (s.wrI r n v).time = s.time := rfl
@[simp] theorem State.wrI_ep (s : State) (r : Reg) (n : Nat) (v : Int) : (s.wrI r n v).ep = s.ep := rfl
@[simp] theorem State.wrI_coll (s : State) (r : Reg) (n : Nat) (v : Int) : (s.wrI r n v).coll = s.coll := rfl
@[simp] theorem State.wrI_pwr (s : State) (r : Reg) (n : Nat) (v : Int) : (s.wrI r n v).pwr = s.pwr := rfl
@[simp] theorem State.wrI_sto (s : State) (r : Reg) (n : Nat) (v : Int) : (s.wrI r n v).sto = s.sto := rfl
@[simp] theorem State.wrI_bab (s : State) (r : Reg) (n : Nat) (v : Int) : (s.wrI r n v).bab = s.bab := rfl
@[simp] theorem State.wrI_tab (s : State) (r : Reg) (n : Nat) (v : Int) : (s.wrI r n v).tab = s.tab := rfl
@[simp] theorem State.wrI_pip (s : State) (r : Reg) (n : Nat) (v : Int) : (s.wrI r n v).pip = s.pip := rfl
@[simp] theorem State.wrI_trf (s : State) (r : Reg) (n : Nat) (v : Int) : (s.wrI r n v).trf = s.trf := rfl
@[simp] theorem State.wrI_prt (s : State) (r : Reg) (n : Nat) (v : Int) : (s.wrI r n v).prt = s.prt := rfl
@[simp] theorem State.wrI_tel (s : State) (r : Reg) (n : Nat) (v : Int) : (s.wrI r n v).tel = s.tel := rfl
@[simp] theorem State.wrI_lan (s : State) (r : Reg) (n : Nat) (v : Int) : (s.wrI r n v).lan = s.lan := rfl
@[simp] theorem State.wrI_fab (s : State) (r : Reg) (n : Nat) (v : Int) : (s.wrI r n v).fab = s.fab := rfl

/-! ## add -/

@[simp] theorem State.add_pending (s : State) (r : Reg) (n v : Nat) : (s.add r n v).pending = s.pending := rfl
@[simp] theorem State.add_out (s : State) (r : Reg) (n v : Nat) : (s.add r n v).out = s.out := rfl
@[simp] theorem State.add_freeIx (s : State) (r : Reg) (n v : Nat) : (s.add r n v).freeIx = s.freeIx := rfl
@[simp] theorem State.add_acc (s : State) (r : Reg) (n v : Nat) : (s.add r n v).acc = s.acc := rfl
@[simp] theorem State.add_remote (s : State) (r : Reg) (n v : Nat) : (s.add r n v).remote = s.remote := rfl
@[simp] theorem State.add_fns (s : State) (r : Reg) (n v : Nat) : (s.add r n v).fns = s.fns := rfl
@[simp] theorem State.add_clk (s : State) (r : Reg) (n v : Nat) : (s.add r n v).clk = s.clk := rfl
@[simp] theorem State.add_time (s : State) (r : Reg) (n v : Nat) : (s.add r n v).time = s.time := rfl
@[simp] theorem State.add_ep (s : State) (r : Reg) (n v : Nat) : (s.add r n v).ep = s.ep := rfl
@[simp] theorem State.add_coll (s : State) (r : Reg) (n v : Nat) : (s.add r n v).coll = s.coll := rfl
@[simp] theorem State.add_pwr (s : State) (r : Reg) (n v : Nat) : (s.add r n v).pwr = s.pwr := rfl
@[simp] theorem State.add_sto (s : State) (r : Reg) (n v : Nat) : (s.add r n v).sto = s.sto := rfl
@[simp] theorem State.add_bab (s : State) (r : Reg) (n v : Nat) : (s.add r n v).bab = s.bab := rfl
@[simp] theorem State.add_tab (s : State) (r : Reg) (n v : Nat) : (s.add r n v).tab = s.tab := rfl
@[simp] theorem State.add_pip (s : State) (r : Reg) (n v : Nat) : (s.add r n v).pip = s.pip := rfl
@[simp] theorem State.add_trf (s : State) (r : Reg) (n v : Nat) : (s.add r n v).trf = s.trf := rfl
@[simp] theorem State.add_prt (s : State) (r : Reg) (n v : Nat) : (s.add r n v).prt = s.prt := rfl
@[simp] theorem State.add_tel (s : State) (r : Reg) (n v : Nat) : (s.add r n v).tel = s.tel := rfl
@[simp] theorem State.add_lan (s : State) (r : Reg) (n v : Nat) : (s.add r n v).lan = s.lan := rfl
@[simp] theorem State.add_fab (s : State) (r : Reg) (n v : Nat) : (s.add r n v).fab = s.fab := rfl

/-! ## bump -/

@[simp] theorem State.bump_pending (s : State) (r : Reg) (n : Nat) : (s.bump r n).pending = s.pending := rfl
@[simp] theorem State.bump_out (s : State) (r : Reg) (n : Nat) : (s.bump r n).out = s.out := rfl
@[simp] theorem State.bump_freeIx (s : State) (r : Reg) (n : Nat) : (s.bump r n).freeIx = s.freeIx := rfl
@[simp] theorem State.bump_acc (s : State) (r : Reg) (n : Nat) : (s.bump r n).acc = s.acc := rfl
@[simp] theorem State.bump_remote (s : State) (r : Reg) (n : Nat) : (s.bump r n).remote = s.remote := rfl
@[simp] theorem State.bump_fns (s : State) (r : Reg) (n : Nat) : (s.bump r n).fns = s.fns := rfl
@[simp] theorem State.bump_clk (s : State) (r : Reg) (n : Nat) : (s.bump r n).clk = s.clk := rfl
@[simp] theorem State.bump_time (s : State) (r : Reg) (n : Nat) : (s.bump r n).time = s.time := rfl
@[simp] theorem State.bump_ep (s : State) (r : Reg) (n : Nat) : (s.bump r n).ep = s.ep := rfl
@[simp] theorem State.bump_coll (s : State) (r : Reg) (n : Nat) : (s.bump r n).coll = s.coll := rfl
@[simp] theorem State.bump_pwr (s : State) (r : Reg) (n : Nat) : (s.bump r n).pwr = s.pwr := rfl
@[simp] theorem State.bump_sto (s : State) (r : Reg) (n : Nat) : (s.bump r n).sto = s.sto := rfl
@[simp] theorem State.bump_bab (s : State) (r : Reg) (n : Nat) : (s.bump r n).bab = s.bab := rfl
@[simp] theorem State.bump_tab (s : State) (r : Reg) (n : Nat) : (s.bump r n).tab = s.tab := rfl
@[simp] theorem State.bump_pip (s : State) (r : Reg) (n : Nat) : (s.bump r n).pip = s.pip := rfl
@[simp] theorem State.bump_trf (s : State) (r : Reg) (n : Nat) : (s.bump r n).trf = s.trf := rfl
@[simp] theorem State.bump_prt (s : State) (r : Reg) (n : Nat) : (s.bump r n).prt = s.prt := rfl
@[simp] theorem State.bump_tel (s : State) (r : Reg) (n : Nat) : (s.bump r n).tel = s.tel := rfl
@[simp] theorem State.bump_lan (s : State) (r : Reg) (n : Nat) : (s.bump r n).lan = s.lan := rfl
@[simp] theorem State.bump_fab (s : State) (r : Reg) (n : Nat) : (s.bump r n).fab = s.fab := rfl

/-! ## bump32 -/

@[simp] theorem State.bump32_pending (s : State) (r : Reg) (n : Nat) : (s.bump32 r n).pending = s.pending := rfl
@[simp] theorem State.bump32_out (s : State) (r : Reg) (n : Nat) : (s.bump32 r n).out = s.out := rfl
@[simp] theorem State.bump32_freeIx (s : State) (r : Reg) (n : Nat) : (s.bump32 r n).freeIx = s.freeIx := rfl
@[simp] theorem State.bump32_acc (s : State) (r : Reg) (n : Nat) : (s.bump32 r n).acc = s.acc := rfl
@[simp] theorem State.bump32_remote (s : State) (r : Reg) (n : Nat) : (s.bump32 r n).remote = s.remote := rfl
@[simp] theorem State.bump32_fns (s : State) (r : Reg) (n : Nat) : (s.bump32 r n).fns = s.fns := rfl
@[simp] theorem State.bump32_clk (s : State) (r : Reg) (n : Nat) : (s.bump32 r n).clk = s.clk := rfl
@[simp] theorem State.bump32_time (s : State) (r : Reg) (n : Nat) : (s.bump32 r n).time = s.time := rfl
@[simp] theorem State.bump32_ep (s : State) (r : Reg) (n : Nat) : (s.bump32 r n).ep = s.ep := rfl
@[simp] theorem State.bump32_coll (s : State) (r : Reg) (n : Nat) : (s.bump32 r n).coll = s.coll := rfl
@[simp] theorem State.bump32_pwr (s : State) (r : Reg) (n : Nat) : (s.bump32 r n).pwr = s.pwr := rfl
@[simp] theorem State.bump32_sto (s : State) (r : Reg) (n : Nat) : (s.bump32 r n).sto = s.sto := rfl
@[simp] theorem State.bump32_bab (s : State) (r : Reg) (n : Nat) : (s.bump32 r n).bab = s.bab := rfl
@[simp] theorem State.bump32_tab (s : State) (r : Reg) (n : Nat) : (s.bump32 r n).tab = s.tab := rfl
@[simp] theorem State.bump32_pip (s : State) (r : Reg) (n : Nat) : (s.bump32 r n).pip = s.pip := rfl
@[simp] theorem State.bump32_trf (s : State) (r : Reg) (n : Nat) : (s.bump32 r n).trf = s.trf := rfl
@[simp] theorem State.bump32_prt (s : State) (r : Reg) (n : Nat) : (s.bump32 r n).prt = s.prt := rfl
@[simp] theorem State.bump32_tel (s : State) (r : Reg) (n : Nat) : (s.bump32 r n).tel = s.tel := rfl
@[simp] theorem State.bump32_lan (s : State) (r : Reg) (n : Nat) : (s.bump32 r n).lan = s.lan := rfl
@[simp] theorem State.bump32_fab (s : State) (r : Reg) (n : Nat) : (s.bump32 r n).fab = s.fab := rfl

/-! ## emit -/

@[simp] theorem State.emit_pending (s : State) (o : Out) : (s.emit o).pending = s.pending := rfl
@[simp] theorem State.emit_freeIx (s : State) (o : Out) : (s.emit o).freeIx = s.freeIx := rfl
@[simp] theorem State.emit_dict (s : State) (o : Out) : (s.emit o).dict = s.dict := rfl
@[simp] theorem State.emit_acc (s : State) (o : Out) : (s.emit o).acc = s.acc := rfl
@[simp] theorem State.emit_remote (s : State) (o : Out) : (s.emit o).remote = s.remote := rfl
@[simp] theorem State.emit_fns (s : State) (o : Out) : (s.emit o).fns = s.fns := rfl
@[simp] theorem State.emit_clk (s : State) (o : Out) : (s.emit o).clk = s.clk := rfl
@[simp] theorem State.emit_time (s : State) (o : Out) : (s.emit o).time = s.time := rfl
@[simp] theorem State.emit_ep (s : State) (o : Out) : (s.emit o).ep = s.ep := rfl
@[simp] theorem State.emit_coll (s : State) (o : Out) : (s.emit o).coll = s.coll := rfl
@[simp] theorem State.emit_pwr (s : State) (o : Out) : (s.emit o).pwr = s.pwr := rfl
@[simp] theorem State.emit_sto (s : State) (o : Out) : (s.emit o).sto = s.sto := rfl
@[simp] theorem State.emit_bab (s : State) (o : Out) : (s.emit o).bab = s.bab := rfl
@[simp] theorem State.emit_tab (s : State) (o : Out) : (s.emit o).tab = s.tab := rfl
@[simp] theorem State.emit_pip (s : State) (o : Out) : (s.emit o).pip = s.pip := rfl
@[simp] theorem State.emit_trf (s : State) (o : Out) : (s.emit o).trf = s.trf := rfl
@[simp] theorem State.emit_prt (s : State) (o : Out) : (s.emit o).prt = s.prt := rfl
@[simp] theorem State.emit_tel (s : State) (o : Out) : (s.emit o).tel = s.tel := rfl
@[simp] theorem State.emit_lan (s : State) (o : Out) : (s.emit o).lan = s.lan := rfl
@[simp] theorem State.emit_fab (s : State) (o : Out) : (s.emit o).fab = s.fab := rfl
@[simp] theorem State.emit_val (s : State) (o : Out) (j : Nat) : (s.emit o).val j = s.val j := rfl
@[simp] theorem State.emit_rd (s : State) (o : Out) (r' : Reg) (j : Nat) : (s.emit o).rd r' j = s.rd r' j := rfl

/-! ## setEv -/

@[simp] theorem State.setEv_pending (s : State) (p : Nat) (e : EvSt) : (s.setEv p e).pending = s.pending := rfl
@[simp] theorem State.setEv_out (s : State) (p : Nat) (e : EvSt) : (s.setEv p e).out = s.out := rfl
@[simp] theorem State.setEv_freeIx (s : State) (p : Nat) (e : EvSt) : (s.setEv p e).freeIx = s.freeIx := rfl
@[simp] theorem State.setEv_dict (s : State) (p : Nat) (e : EvSt) : (s.setEv p e).dict = s.dict := rfl
@[simp] theorem State.setEv_acc (s : State) (p : Nat) (e : EvSt) : (s.setEv p e).acc = s.acc := rfl
@[simp] theorem State.setEv_remote (s : State) (p : Nat) (e : EvSt) : (s.setEv p e).remote = s.remote := rfl
@[simp] theorem State.setEv_fns (s : State) (p : Nat) (e : EvSt) : (s.setEv p e).fns = s.fns := rfl
@[simp] theorem State.setEv_clk (s : State) (p : Nat) (e : EvSt) : (s.setEv p e).clk = s.clk := rfl
@[simp] theorem State.setEv_time (s : State) (p : Nat) (e : EvSt) : (s.setEv p e).time = s.time := rfl
@[simp] theorem State.setEv_coll (s : State) (p : Nat) (e : EvSt) : (s.setEv p e).coll = s.coll := rfl
@[simp] theorem State.setEv_pwr (s : State) (p : Nat) (e : EvSt) : (s.setEv p e).pwr = s.pwr := rfl
@[simp] theorem State.setEv_sto (s : State) (p : Nat) (e : EvSt) : (s.setEv p e).sto = s.sto := rfl
@[simp] theorem State.setEv_bab (s : State) (p : Nat) (e : EvSt) : (s.setEv p e).bab = s.bab := rfl
@[simp] theorem State.setEv_tab (s : State) (p : Nat) (e : EvSt) : (s.setEv p e).tab = s.tab := rfl
@[simp] theorem State.setEv_pip (s : State) (p : Nat) (e : EvSt) : (s.setEv p e).pip = s.pip := rfl
@[simp] theorem State.setEv_trf (s : State) (p : Nat) (e : EvSt) : (s.setEv p e).trf = s.trf := rfl
@[simp] theorem State.setEv_prt (s : State) (p : Nat) (e : EvSt) : (s.setEv p e).prt = s.prt := rfl
@[simp] theorem State.setEv_tel (s : State) (p : Nat) (e : EvSt) : (s.setEv p e).tel = s.tel := rfl
@[simp] theorem State.setEv_lan (s : State) (p : Nat) (e : EvSt) : (s.setEv p e).lan = s.lan := rfl
@[simp] theorem State.setEv_fab (s : State) (p : Nat) (e : EvSt) : (s.setEv p e).fab = s.fab := rfl
@[simp] theorem State.setEv_val (s : State) (p : Nat) (e : EvSt) (j : Nat) : (s.setEv p e).val j = s.val j := rfl
@[simp] theorem State.setEv_rd (s : State) (p : Nat) (e : EvSt) (r' : Reg) (j : Nat) : (s.setEv p e).rd r' j = s.rd r' j := rfl

/-! ## setRing -/

@[simp] theorem State.setRing_pending (s : State) (r : Nat) (x : RingSt) : (s.setRing r x).pending = s.pending := rfl
@[simp] theorem State.setRing_out (s : State) (r : Nat) (x : RingSt) : (s.setRing r x).out = s.out := rfl
@[simp] theorem State.setRing_freeIx (s : State) (r : Nat) (x : RingSt) : (s.setRing r x).freeIx = s.freeIx := rfl
@[simp] theorem State.setRing_dict (s : State) (r : Nat) (x : RingSt) : (s.setRing r x).dict = s.dict := rfl
@[simp] theorem State.setRing_acc (s : State) (r : Nat) (x : RingSt) : (s.setRing r x).acc = s.acc := rfl
@[simp] theorem State.setRing_remote (s : State) (r : Nat) (x : RingSt) : (s.setRing r x).remote = s.remote := rfl
@[simp] theorem State.setRing_fns (s : State) (r : Nat) (x : RingSt) : (s.setRing r x).fns = s.fns := rfl
@[simp] theorem State.setRing_clk (s : State) (r : Nat) (x : RingSt) : (s.setRing r x).clk = s.clk := rfl
@[simp] theorem State.setRing_time (s : State) (r : Nat) (x : RingSt) : (s.setRing r x).time = s.time := rfl
@[simp] theorem State.setRing_coll (s : State) (r : Nat) (x : RingSt) : (s.setRing r x).coll = s.coll := rfl
@[simp] theorem State.setRing_pwr (s : State) (r : Nat) (x : RingSt) : (s.setRing r x).pwr = s.pwr := rfl
@[simp] theorem State.setRing_sto (s : State) (r : Nat) (x : RingSt) : (s.setRing r x).sto = s.sto := rfl
@[simp] theorem State.setRing_bab (s : State) (r : Nat) (x : RingSt) : (s.setRing r x).bab = s.bab := rfl
@[simp] theorem State.setRing_tab (s : State) (r : Nat) (x : RingSt) : (s.setRing r x).tab = s.tab := rfl
@[simp] theorem State.setRing_pip (s : State) (r : Nat) (x : RingSt) : (s.setRing r x).pip = s.pip := rfl
@[simp] theorem State.setRing_trf (s : State) (r : Nat) (x : RingSt) : (s.setRing r x).trf = s.trf := rfl
@[simp] theorem State.setRing_prt (s : State) (r : Nat) (x : RingSt) : (s.setRing r x).prt = s.prt := rfl
@[simp] theorem State.setRing_tel (s : State) (r : Nat) (x : RingSt) : (s.setRing r x).tel = s.tel := rfl
@[simp] theorem State.setRing_lan (s : State) (r : Nat) (x : RingSt) : (s.setRing r x).lan = s.lan := rfl
@[simp] theorem State.setRing_fab (s : State) (r : Nat) (x : RingSt) : (s.setRing r x).fab = s.fab := rfl
@[simp] theorem State.setRing_val (s : State) (r : Nat) (x : RingSt) (j : Nat) : (s.setRing r x).val j = s.val j := rfl
@[simp] theorem State.setRing_rd (s : State) (r : Nat) (x : RingSt) (r' : Reg) (j : Nat) : (s.setRing r x).rd r' j = s.rd r' j := rfl

/-! ## setMb -/

@[simp] theorem State.setMb_pending (s : State) (pf : Nat) (m : Mailbox) : (s.setMb pf m).pending = s.pending := rfl
@[simp] theorem State.setMb_out (s : State) (pf : Nat) (m : Mailbox) : (s.setMb pf m).out = s.out := rfl
@[simp] theorem State.setMb_freeIx (s : State) (pf : Nat) (m : Mailbox) : (s.setMb pf m).freeIx = s.freeIx := rfl
@[simp] theorem State.setMb_dict (s : State) (pf : Nat) (m : Mailbox) : (s.setMb pf m).dict = s.dict := rfl
@[simp] theorem State.setMb_remote (s : State) (pf : Nat) (m : Mailbox) : (s.setMb pf m).remote = s.remote := rfl
@[simp] theorem State.setMb_fns (s : State) (pf : Nat) (m : Mailbox) : (s.setMb pf m).fns = s.fns := rfl
@[simp] theorem State.setMb_clk (s : State) (pf : Nat) (m : Mailbox) : (s.setMb pf m).clk = s.clk := rfl
@[simp] theorem State.setMb_time (s : State) (pf : Nat) (m : Mailbox) : (s.setMb pf m).time = s.time := rfl
@[simp] theorem State.setMb_ep (s : State) (pf : Nat) (m : Mailbox) : (s.setMb pf m).ep = s.ep := rfl
@[simp] theorem State.setMb_coll (s : State) (pf : Nat) (m : Mailbox) : (s.setMb pf m).coll = s.coll := rfl
@[simp] theorem State.setMb_pwr (s : State) (pf : Nat) (m : Mailbox) : (s.setMb pf m).pwr = s.pwr := rfl
@[simp] theorem State.setMb_sto (s : State) (pf : Nat) (m : Mailbox) : (s.setMb pf m).sto = s.sto := rfl
@[simp] theorem State.setMb_bab (s : State) (pf : Nat) (m : Mailbox) : (s.setMb pf m).bab = s.bab := rfl
@[simp] theorem State.setMb_tab (s : State) (pf : Nat) (m : Mailbox) : (s.setMb pf m).tab = s.tab := rfl
@[simp] theorem State.setMb_pip (s : State) (pf : Nat) (m : Mailbox) : (s.setMb pf m).pip = s.pip := rfl
@[simp] theorem State.setMb_trf (s : State) (pf : Nat) (m : Mailbox) : (s.setMb pf m).trf = s.trf := rfl
@[simp] theorem State.setMb_prt (s : State) (pf : Nat) (m : Mailbox) : (s.setMb pf m).prt = s.prt := rfl
@[simp] theorem State.setMb_tel (s : State) (pf : Nat) (m : Mailbox) : (s.setMb pf m).tel = s.tel := rfl
@[simp] theorem State.setMb_lan (s : State) (pf : Nat) (m : Mailbox) : (s.setMb pf m).lan = s.lan := rfl
@[simp] theorem State.setMb_fab (s : State) (pf : Nat) (m : Mailbox) : (s.setMb pf m).fab = s.fab := rfl
@[simp] theorem State.setMb_val (s : State) (pf : Nat) (m : Mailbox) (j : Nat) : (s.setMb pf m).val j = s.val j := rfl
@[simp] theorem State.setMb_rd (s : State) (pf : Nat) (m : Mailbox) (r' : Reg) (j : Nat) : (s.setMb pf m).rd r' j = s.rd r' j := rfl

/-! ## setLatch -/

@[simp] theorem State.setLatch_pending (s : State) (pf : Nat) (l : Option (Nat × Nat)) : (s.setLatch pf l).pending = s.pending := rfl
@[simp] theorem State.setLatch_out (s : State) (pf : Nat) (l : Option (Nat × Nat)) : (s.setLatch pf l).out = s.out := rfl
@[simp] theorem State.setLatch_freeIx (s : State) (pf : Nat) (l : Option (Nat × Nat)) : (s.setLatch pf l).freeIx = s.freeIx := rfl
@[simp] theorem State.setLatch_dict (s : State) (pf : Nat) (l : Option (Nat × Nat)) : (s.setLatch pf l).dict = s.dict := rfl
@[simp] theorem State.setLatch_remote (s : State) (pf : Nat) (l : Option (Nat × Nat)) : (s.setLatch pf l).remote = s.remote := rfl
@[simp] theorem State.setLatch_fns (s : State) (pf : Nat) (l : Option (Nat × Nat)) : (s.setLatch pf l).fns = s.fns := rfl
@[simp] theorem State.setLatch_clk (s : State) (pf : Nat) (l : Option (Nat × Nat)) : (s.setLatch pf l).clk = s.clk := rfl
@[simp] theorem State.setLatch_time (s : State) (pf : Nat) (l : Option (Nat × Nat)) : (s.setLatch pf l).time = s.time := rfl
@[simp] theorem State.setLatch_ep (s : State) (pf : Nat) (l : Option (Nat × Nat)) : (s.setLatch pf l).ep = s.ep := rfl
@[simp] theorem State.setLatch_coll (s : State) (pf : Nat) (l : Option (Nat × Nat)) : (s.setLatch pf l).coll = s.coll := rfl
@[simp] theorem State.setLatch_pwr (s : State) (pf : Nat) (l : Option (Nat × Nat)) : (s.setLatch pf l).pwr = s.pwr := rfl
@[simp] theorem State.setLatch_sto (s : State) (pf : Nat) (l : Option (Nat × Nat)) : (s.setLatch pf l).sto = s.sto := rfl
@[simp] theorem State.setLatch_bab (s : State) (pf : Nat) (l : Option (Nat × Nat)) : (s.setLatch pf l).bab = s.bab := rfl
@[simp] theorem State.setLatch_tab (s : State) (pf : Nat) (l : Option (Nat × Nat)) : (s.setLatch pf l).tab = s.tab := rfl
@[simp] theorem State.setLatch_pip (s : State) (pf : Nat) (l : Option (Nat × Nat)) : (s.setLatch pf l).pip = s.pip := rfl
@[simp] theorem State.setLatch_trf (s : State) (pf : Nat) (l : Option (Nat × Nat)) : (s.setLatch pf l).trf = s.trf := rfl
@[simp] theorem State.setLatch_prt (s : State) (pf : Nat) (l : Option (Nat × Nat)) : (s.setLatch pf l).prt = s.prt := rfl
@[simp] theorem State.setLatch_tel (s : State) (pf : Nat) (l : Option (Nat × Nat)) : (s.setLatch pf l).tel = s.tel := rfl
@[simp] theorem State.setLatch_lan (s : State) (pf : Nat) (l : Option (Nat × Nat)) : (s.setLatch pf l).lan = s.lan := rfl
@[simp] theorem State.setLatch_fab (s : State) (pf : Nat) (l : Option (Nat × Nat)) : (s.setLatch pf l).fab = s.fab := rfl
@[simp] theorem State.setLatch_val (s : State) (pf : Nat) (l : Option (Nat × Nat)) (j : Nat) : (s.setLatch pf l).val j = s.val j := rfl
@[simp] theorem State.setLatch_rd (s : State) (pf : Nat) (l : Option (Nat × Nat)) (r' : Reg) (j : Nat) : (s.setLatch pf l).rd r' j = s.rd r' j := rfl

/-! ## setQueue -/

@[simp] theorem State.setQueue_pending (s : State) (q : Nat) (x : Queue) : (s.setQueue q x).pending = s.pending := rfl
@[simp] theorem State.setQueue_out (s : State) (q : Nat) (x : Queue) : (s.setQueue q x).out = s.out := rfl
@[simp] theorem State.setQueue_freeIx (s : State) (q : Nat) (x : Queue) : (s.setQueue q x).freeIx = s.freeIx := rfl
@[simp] theorem State.setQueue_dict (s : State) (q : Nat) (x : Queue) : (s.setQueue q x).dict = s.dict := rfl
@[simp] theorem State.setQueue_acc (s : State) (q : Nat) (x : Queue) : (s.setQueue q x).acc = s.acc := rfl
@[simp] theorem State.setQueue_remote (s : State) (q : Nat) (x : Queue) : (s.setQueue q x).remote = s.remote := rfl
@[simp] theorem State.setQueue_fns (s : State) (q : Nat) (x : Queue) : (s.setQueue q x).fns = s.fns := rfl
@[simp] theorem State.setQueue_clk (s : State) (q : Nat) (x : Queue) : (s.setQueue q x).clk = s.clk := rfl
@[simp] theorem State.setQueue_time (s : State) (q : Nat) (x : Queue) : (s.setQueue q x).time = s.time := rfl
@[simp] theorem State.setQueue_ep (s : State) (q : Nat) (x : Queue) : (s.setQueue q x).ep = s.ep := rfl
@[simp] theorem State.setQueue_coll (s : State) (q : Nat) (x : Queue) : (s.setQueue q x).coll = s.coll := rfl
@[simp] theorem State.setQueue_pwr (s : State) (q : Nat) (x : Queue) : (s.setQueue q x).pwr = s.pwr := rfl
@[simp] theorem State.setQueue_bab (s : State) (q : Nat) (x : Queue) : (s.setQueue q x).bab = s.bab := rfl
@[simp] theorem State.setQueue_tab (s : State) (q : Nat) (x : Queue) : (s.setQueue q x).tab = s.tab := rfl
@[simp] theorem State.setQueue_pip (s : State) (q : Nat) (x : Queue) : (s.setQueue q x).pip = s.pip := rfl
@[simp] theorem State.setQueue_trf (s : State) (q : Nat) (x : Queue) : (s.setQueue q x).trf = s.trf := rfl
@[simp] theorem State.setQueue_prt (s : State) (q : Nat) (x : Queue) : (s.setQueue q x).prt = s.prt := rfl
@[simp] theorem State.setQueue_tel (s : State) (q : Nat) (x : Queue) : (s.setQueue q x).tel = s.tel := rfl
@[simp] theorem State.setQueue_lan (s : State) (q : Nat) (x : Queue) : (s.setQueue q x).lan = s.lan := rfl
@[simp] theorem State.setQueue_fab (s : State) (q : Nat) (x : Queue) : (s.setQueue q x).fab = s.fab := rfl
@[simp] theorem State.setQueue_val (s : State) (q : Nat) (x : Queue) (j : Nat) : (s.setQueue q x).val j = s.val j := rfl
@[simp] theorem State.setQueue_rd (s : State) (q : Nat) (x : Queue) (r' : Reg) (j : Nat) : (s.setQueue q x).rd r' j = s.rd r' j := rfl

/-! ## setPkt -/

@[simp] theorem State.setPkt_pending (s : State) (pid : Nat) (p : Pkt) : (s.setPkt pid p).pending = s.pending := rfl
@[simp] theorem State.setPkt_out (s : State) (pid : Nat) (p : Pkt) : (s.setPkt pid p).out = s.out := rfl
@[simp] theorem State.setPkt_freeIx (s : State) (pid : Nat) (p : Pkt) : (s.setPkt pid p).freeIx = s.freeIx := rfl
@[simp] theorem State.setPkt_dict (s : State) (pid : Nat) (p : Pkt) : (s.setPkt pid p).dict = s.dict := rfl
@[simp] theorem State.setPkt_acc (s : State) (pid : Nat) (p : Pkt) : (s.setPkt pid p).acc = s.acc := rfl
@[simp] theorem State.setPkt_remote (s : State) (pid : Nat) (p : Pkt) : (s.setPkt pid p).remote = s.remote := rfl
@[simp] theorem State.setPkt_fns (s : State) (pid : Nat) (p : Pkt) : (s.setPkt pid p).fns = s.fns := rfl
@[simp] theorem State.setPkt_clk (s : State) (pid : Nat) (p : Pkt) : (s.setPkt pid p).clk = s.clk := rfl
@[simp] theorem State.setPkt_time (s : State) (pid : Nat) (p : Pkt) : (s.setPkt pid p).time = s.time := rfl
@[simp] theorem State.setPkt_ep (s : State) (pid : Nat) (p : Pkt) : (s.setPkt pid p).ep = s.ep := rfl
@[simp] theorem State.setPkt_coll (s : State) (pid : Nat) (p : Pkt) : (s.setPkt pid p).coll = s.coll := rfl
@[simp] theorem State.setPkt_pwr (s : State) (pid : Nat) (p : Pkt) : (s.setPkt pid p).pwr = s.pwr := rfl
@[simp] theorem State.setPkt_bab (s : State) (pid : Nat) (p : Pkt) : (s.setPkt pid p).bab = s.bab := rfl
@[simp] theorem State.setPkt_tab (s : State) (pid : Nat) (p : Pkt) : (s.setPkt pid p).tab = s.tab := rfl
@[simp] theorem State.setPkt_pip (s : State) (pid : Nat) (p : Pkt) : (s.setPkt pid p).pip = s.pip := rfl
@[simp] theorem State.setPkt_trf (s : State) (pid : Nat) (p : Pkt) : (s.setPkt pid p).trf = s.trf := rfl
@[simp] theorem State.setPkt_prt (s : State) (pid : Nat) (p : Pkt) : (s.setPkt pid p).prt = s.prt := rfl
@[simp] theorem State.setPkt_tel (s : State) (pid : Nat) (p : Pkt) : (s.setPkt pid p).tel = s.tel := rfl
@[simp] theorem State.setPkt_lan (s : State) (pid : Nat) (p : Pkt) : (s.setPkt pid p).lan = s.lan := rfl
@[simp] theorem State.setPkt_fab (s : State) (pid : Nat) (p : Pkt) : (s.setPkt pid p).fab = s.fab := rfl
@[simp] theorem State.setPkt_val (s : State) (pid : Nat) (p : Pkt) (j : Nat) : (s.setPkt pid p).val j = s.val j := rfl
@[simp] theorem State.setPkt_rd (s : State) (pid : Nat) (p : Pkt) (r' : Reg) (j : Nat) : (s.setPkt pid p).rd r' j = s.rd r' j := rfl

/-! ## setChan -/

@[simp] theorem State.setChan_pending (s : State) (c : Nat) (x : Chan) : (s.setChan c x).pending = s.pending := rfl
@[simp] theorem State.setChan_out (s : State) (c : Nat) (x : Chan) : (s.setChan c x).out = s.out := rfl
@[simp] theorem State.setChan_freeIx (s : State) (c : Nat) (x : Chan) : (s.setChan c x).freeIx = s.freeIx := rfl
@[simp] theorem State.setChan_dict (s : State) (c : Nat) (x : Chan) : (s.setChan c x).dict = s.dict := rfl
@[simp] theorem State.setChan_acc (s : State) (c : Nat) (x : Chan) : (s.setChan c x).acc = s.acc := rfl
@[simp] theorem State.setChan_remote (s : State) (c : Nat) (x : Chan) : (s.setChan c x).remote = s.remote := rfl
@[simp] theorem State.setChan_fns (s : State) (c : Nat) (x : Chan) : (s.setChan c x).fns = s.fns := rfl
@[simp] theorem State.setChan_clk (s : State) (c : Nat) (x : Chan) : (s.setChan c x).clk = s.clk := rfl
@[simp] theorem State.setChan_time (s : State) (c : Nat) (x : Chan) : (s.setChan c x).time = s.time := rfl
@[simp] theorem State.setChan_ep (s : State) (c : Nat) (x : Chan) : (s.setChan c x).ep = s.ep := rfl
@[simp] theorem State.setChan_coll (s : State) (c : Nat) (x : Chan) : (s.setChan c x).coll = s.coll := rfl
@[simp] theorem State.setChan_pwr (s : State) (c : Nat) (x : Chan) : (s.setChan c x).pwr = s.pwr := rfl
@[simp] theorem State.setChan_sto (s : State) (c : Nat) (x : Chan) : (s.setChan c x).sto = s.sto := rfl
@[simp] theorem State.setChan_bab (s : State) (c : Nat) (x : Chan) : (s.setChan c x).bab = s.bab := rfl
@[simp] theorem State.setChan_pip (s : State) (c : Nat) (x : Chan) : (s.setChan c x).pip = s.pip := rfl
@[simp] theorem State.setChan_trf (s : State) (c : Nat) (x : Chan) : (s.setChan c x).trf = s.trf := rfl
@[simp] theorem State.setChan_prt (s : State) (c : Nat) (x : Chan) : (s.setChan c x).prt = s.prt := rfl
@[simp] theorem State.setChan_tel (s : State) (c : Nat) (x : Chan) : (s.setChan c x).tel = s.tel := rfl
@[simp] theorem State.setChan_lan (s : State) (c : Nat) (x : Chan) : (s.setChan c x).lan = s.lan := rfl
@[simp] theorem State.setChan_fab (s : State) (c : Nat) (x : Chan) : (s.setChan c x).fab = s.fab := rfl
@[simp] theorem State.setChan_val (s : State) (c : Nat) (x : Chan) (j : Nat) : (s.setChan c x).val j = s.val j := rfl
@[simp] theorem State.setChan_rd (s : State) (c : Nat) (x : Chan) (r' : Reg) (j : Nat) : (s.setChan c x).rd r' j = s.rd r' j := rfl

/-! ## setUpset -/

@[simp] theorem State.setUpset_pending (s : State) (k v : Nat) : (s.setUpset k v).pending = s.pending := rfl
@[simp] theorem State.setUpset_out (s : State) (k v : Nat) : (s.setUpset k v).out = s.out := rfl
@[simp] theorem State.setUpset_freeIx (s : State) (k v : Nat) : (s.setUpset k v).freeIx = s.freeIx := rfl
@[simp] theorem State.setUpset_dict (s : State) (k v : Nat) : (s.setUpset k v).dict = s.dict := rfl
@[simp] theorem State.setUpset_acc (s : State) (k v : Nat) : (s.setUpset k v).acc = s.acc := rfl
@[simp] theorem State.setUpset_remote (s : State) (k v : Nat) : (s.setUpset k v).remote = s.remote := rfl
@[simp] theorem State.setUpset_fns (s : State) (k v : Nat) : (s.setUpset k v).fns = s.fns := rfl
@[simp] theorem State.setUpset_clk (s : State) (k v : Nat) : (s.setUpset k v).clk = s.clk := rfl
@[simp] theorem State.setUpset_time (s : State) (k v : Nat) : (s.setUpset k v).time = s.time := rfl
@[simp] theorem State.setUpset_ep (s : State) (k v : Nat) : (s.setUpset k v).ep = s.ep := rfl
@[simp] theorem State.setUpset_coll (s : State) (k v : Nat) : (s.setUpset k v).coll = s.coll := rfl
@[simp] theorem State.setUpset_pwr (s : State) (k v : Nat) : (s.setUpset k v).pwr = s.pwr := rfl
@[simp] theorem State.setUpset_sto (s : State) (k v : Nat) : (s.setUpset k v).sto = s.sto := rfl
@[simp] theorem State.setUpset_bab (s : State) (k v : Nat) : (s.setUpset k v).bab = s.bab := rfl
@[simp] theorem State.setUpset_pip (s : State) (k v : Nat) : (s.setUpset k v).pip = s.pip := rfl
@[simp] theorem State.setUpset_trf (s : State) (k v : Nat) : (s.setUpset k v).trf = s.trf := rfl
@[simp] theorem State.setUpset_prt (s : State) (k v : Nat) : (s.setUpset k v).prt = s.prt := rfl
@[simp] theorem State.setUpset_tel (s : State) (k v : Nat) : (s.setUpset k v).tel = s.tel := rfl
@[simp] theorem State.setUpset_lan (s : State) (k v : Nat) : (s.setUpset k v).lan = s.lan := rfl
@[simp] theorem State.setUpset_fab (s : State) (k v : Nat) : (s.setUpset k v).fab = s.fab := rfl
@[simp] theorem State.setUpset_val (s : State) (k v : Nat) (j : Nat) : (s.setUpset k v).val j = s.val j := rfl
@[simp] theorem State.setUpset_rd (s : State) (k v : Nat) (r' : Reg) (j : Nat) : (s.setUpset k v).rd r' j = s.rd r' j := rfl

/-! ## putNear -/

@[simp] theorem State.putNear_pending (s : State) (a w : Nat) : (s.putNear a w).pending = s.pending := rfl
@[simp] theorem State.putNear_out (s : State) (a w : Nat) : (s.putNear a w).out = s.out := rfl
@[simp] theorem State.putNear_freeIx (s : State) (a w : Nat) : (s.putNear a w).freeIx = s.freeIx := rfl
@[simp] theorem State.putNear_dict (s : State) (a w : Nat) : (s.putNear a w).dict = s.dict := rfl
@[simp] theorem State.putNear_acc (s : State) (a w : Nat) : (s.putNear a w).acc = s.acc := rfl
@[simp] theorem State.putNear_remote (s : State) (a w : Nat) : (s.putNear a w).remote = s.remote := rfl
@[simp] theorem State.putNear_fns (s : State) (a w : Nat) : (s.putNear a w).fns = s.fns := rfl
@[simp] theorem State.putNear_clk (s : State) (a w : Nat) : (s.putNear a w).clk = s.clk := rfl
@[simp] theorem State.putNear_time (s : State) (a w : Nat) : (s.putNear a w).time = s.time := rfl
@[simp] theorem State.putNear_ep (s : State) (a w : Nat) : (s.putNear a w).ep = s.ep := rfl
@[simp] theorem State.putNear_coll (s : State) (a w : Nat) : (s.putNear a w).coll = s.coll := rfl
@[simp] theorem State.putNear_pwr (s : State) (a w : Nat) : (s.putNear a w).pwr = s.pwr := rfl
@[simp] theorem State.putNear_sto (s : State) (a w : Nat) : (s.putNear a w).sto = s.sto := rfl
@[simp] theorem State.putNear_bab (s : State) (a w : Nat) : (s.putNear a w).bab = s.bab := rfl
@[simp] theorem State.putNear_pip (s : State) (a w : Nat) : (s.putNear a w).pip = s.pip := rfl
@[simp] theorem State.putNear_trf (s : State) (a w : Nat) : (s.putNear a w).trf = s.trf := rfl
@[simp] theorem State.putNear_prt (s : State) (a w : Nat) : (s.putNear a w).prt = s.prt := rfl
@[simp] theorem State.putNear_tel (s : State) (a w : Nat) : (s.putNear a w).tel = s.tel := rfl
@[simp] theorem State.putNear_lan (s : State) (a w : Nat) : (s.putNear a w).lan = s.lan := rfl
@[simp] theorem State.putNear_fab (s : State) (a w : Nat) : (s.putNear a w).fab = s.fab := rfl
@[simp] theorem State.putNear_val (s : State) (a w : Nat) (j : Nat) : (s.putNear a w).val j = s.val j := rfl
@[simp] theorem State.putNear_rd (s : State) (a w : Nat) (r' : Reg) (j : Nat) : (s.putNear a w).rd r' j = s.rd r' j := rfl

/-! ## putFar -/

@[simp] theorem State.putFar_pending (s : State) (a w : Nat) : (s.putFar a w).pending = s.pending := rfl
@[simp] theorem State.putFar_out (s : State) (a w : Nat) : (s.putFar a w).out = s.out := rfl
@[simp] theorem State.putFar_freeIx (s : State) (a w : Nat) : (s.putFar a w).freeIx = s.freeIx := rfl
@[simp] theorem State.putFar_dict (s : State) (a w : Nat) : (s.putFar a w).dict = s.dict := rfl
@[simp] theorem State.putFar_acc (s : State) (a w : Nat) : (s.putFar a w).acc = s.acc := rfl
@[simp] theorem State.putFar_remote (s : State) (a w : Nat) : (s.putFar a w).remote = s.remote := rfl
@[simp] theorem State.putFar_fns (s : State) (a w : Nat) : (s.putFar a w).fns = s.fns := rfl
@[simp] theorem State.putFar_clk (s : State) (a w : Nat) : (s.putFar a w).clk = s.clk := rfl
@[simp] theorem State.putFar_time (s : State) (a w : Nat) : (s.putFar a w).time = s.time := rfl
@[simp] theorem State.putFar_ep (s : State) (a w : Nat) : (s.putFar a w).ep = s.ep := rfl
@[simp] theorem State.putFar_coll (s : State) (a w : Nat) : (s.putFar a w).coll = s.coll := rfl
@[simp] theorem State.putFar_pwr (s : State) (a w : Nat) : (s.putFar a w).pwr = s.pwr := rfl
@[simp] theorem State.putFar_sto (s : State) (a w : Nat) : (s.putFar a w).sto = s.sto := rfl
@[simp] theorem State.putFar_bab (s : State) (a w : Nat) : (s.putFar a w).bab = s.bab := rfl
@[simp] theorem State.putFar_pip (s : State) (a w : Nat) : (s.putFar a w).pip = s.pip := rfl
@[simp] theorem State.putFar_trf (s : State) (a w : Nat) : (s.putFar a w).trf = s.trf := rfl
@[simp] theorem State.putFar_prt (s : State) (a w : Nat) : (s.putFar a w).prt = s.prt := rfl
@[simp] theorem State.putFar_tel (s : State) (a w : Nat) : (s.putFar a w).tel = s.tel := rfl
@[simp] theorem State.putFar_lan (s : State) (a w : Nat) : (s.putFar a w).lan = s.lan := rfl
@[simp] theorem State.putFar_fab (s : State) (a w : Nat) : (s.putFar a w).fab = s.fab := rfl
@[simp] theorem State.putFar_val (s : State) (a w : Nat) (j : Nat) : (s.putFar a w).val j = s.val j := rfl
@[simp] theorem State.putFar_rd (s : State) (a w : Nat) (r' : Reg) (j : Nat) : (s.putFar a w).rd r' j = s.rd r' j := rfl

/-! ## setShaper -/

@[simp] theorem State.setShaper_pending (s : State) (n : Nat) (x : Shaper) : (s.setShaper n x).pending = s.pending := rfl
@[simp] theorem State.setShaper_out (s : State) (n : Nat) (x : Shaper) : (s.setShaper n x).out = s.out := rfl
@[simp] theorem State.setShaper_freeIx (s : State) (n : Nat) (x : Shaper) : (s.setShaper n x).freeIx = s.freeIx := rfl
@[simp] theorem State.setShaper_dict (s : State) (n : Nat) (x : Shaper) : (s.setShaper n x).dict = s.dict := rfl
@[simp] theorem State.setShaper_acc (s : State) (n : Nat) (x : Shaper) : (s.setShaper n x).acc = s.acc := rfl
@[simp] theorem State.setShaper_remote (s : State) (n : Nat) (x : Shaper) : (s.setShaper n x).remote = s.remote := rfl
@[simp] theorem State.setShaper_fns (s : State) (n : Nat) (x : Shaper) : (s.setShaper n x).fns = s.fns := rfl
@[simp] theorem State.setShaper_clk (s : State) (n : Nat) (x : Shaper) : (s.setShaper n x).clk = s.clk := rfl
@[simp] theorem State.setShaper_time (s : State) (n : Nat) (x : Shaper) : (s.setShaper n x).time = s.time := rfl
@[simp] theorem State.setShaper_ep (s : State) (n : Nat) (x : Shaper) : (s.setShaper n x).ep = s.ep := rfl
@[simp] theorem State.setShaper_coll (s : State) (n : Nat) (x : Shaper) : (s.setShaper n x).coll = s.coll := rfl
@[simp] theorem State.setShaper_pwr (s : State) (n : Nat) (x : Shaper) : (s.setShaper n x).pwr = s.pwr := rfl
@[simp] theorem State.setShaper_sto (s : State) (n : Nat) (x : Shaper) : (s.setShaper n x).sto = s.sto := rfl
@[simp] theorem State.setShaper_bab (s : State) (n : Nat) (x : Shaper) : (s.setShaper n x).bab = s.bab := rfl
@[simp] theorem State.setShaper_tab (s : State) (n : Nat) (x : Shaper) : (s.setShaper n x).tab = s.tab := rfl
@[simp] theorem State.setShaper_pip (s : State) (n : Nat) (x : Shaper) : (s.setShaper n x).pip = s.pip := rfl
@[simp] theorem State.setShaper_prt (s : State) (n : Nat) (x : Shaper) : (s.setShaper n x).prt = s.prt := rfl
@[simp] theorem State.setShaper_tel (s : State) (n : Nat) (x : Shaper) : (s.setShaper n x).tel = s.tel := rfl
@[simp] theorem State.setShaper_lan (s : State) (n : Nat) (x : Shaper) : (s.setShaper n x).lan = s.lan := rfl
@[simp] theorem State.setShaper_fab (s : State) (n : Nat) (x : Shaper) : (s.setShaper n x).fab = s.fab := rfl
@[simp] theorem State.setShaper_val (s : State) (n : Nat) (x : Shaper) (j : Nat) : (s.setShaper n x).val j = s.val j := rfl
@[simp] theorem State.setShaper_rd (s : State) (n : Nat) (x : Shaper) (r' : Reg) (j : Nat) : (s.setShaper n x).rd r' j = s.rd r' j := rfl

/-! ## setMac -/

@[simp] theorem State.setMac_pending (s : State) (p : Nat) (l : List MacFrame) : (s.setMac p l).pending = s.pending := rfl
@[simp] theorem State.setMac_out (s : State) (p : Nat) (l : List MacFrame) : (s.setMac p l).out = s.out := rfl
@[simp] theorem State.setMac_freeIx (s : State) (p : Nat) (l : List MacFrame) : (s.setMac p l).freeIx = s.freeIx := rfl
@[simp] theorem State.setMac_dict (s : State) (p : Nat) (l : List MacFrame) : (s.setMac p l).dict = s.dict := rfl
@[simp] theorem State.setMac_acc (s : State) (p : Nat) (l : List MacFrame) : (s.setMac p l).acc = s.acc := rfl
@[simp] theorem State.setMac_remote (s : State) (p : Nat) (l : List MacFrame) : (s.setMac p l).remote = s.remote := rfl
@[simp] theorem State.setMac_fns (s : State) (p : Nat) (l : List MacFrame) : (s.setMac p l).fns = s.fns := rfl
@[simp] theorem State.setMac_clk (s : State) (p : Nat) (l : List MacFrame) : (s.setMac p l).clk = s.clk := rfl
@[simp] theorem State.setMac_time (s : State) (p : Nat) (l : List MacFrame) : (s.setMac p l).time = s.time := rfl
@[simp] theorem State.setMac_ep (s : State) (p : Nat) (l : List MacFrame) : (s.setMac p l).ep = s.ep := rfl
@[simp] theorem State.setMac_coll (s : State) (p : Nat) (l : List MacFrame) : (s.setMac p l).coll = s.coll := rfl
@[simp] theorem State.setMac_pwr (s : State) (p : Nat) (l : List MacFrame) : (s.setMac p l).pwr = s.pwr := rfl
@[simp] theorem State.setMac_sto (s : State) (p : Nat) (l : List MacFrame) : (s.setMac p l).sto = s.sto := rfl
@[simp] theorem State.setMac_bab (s : State) (p : Nat) (l : List MacFrame) : (s.setMac p l).bab = s.bab := rfl
@[simp] theorem State.setMac_tab (s : State) (p : Nat) (l : List MacFrame) : (s.setMac p l).tab = s.tab := rfl
@[simp] theorem State.setMac_pip (s : State) (p : Nat) (l : List MacFrame) : (s.setMac p l).pip = s.pip := rfl
@[simp] theorem State.setMac_trf (s : State) (p : Nat) (l : List MacFrame) : (s.setMac p l).trf = s.trf := rfl
@[simp] theorem State.setMac_tel (s : State) (p : Nat) (l : List MacFrame) : (s.setMac p l).tel = s.tel := rfl
@[simp] theorem State.setMac_lan (s : State) (p : Nat) (l : List MacFrame) : (s.setMac p l).lan = s.lan := rfl
@[simp] theorem State.setMac_fab (s : State) (p : Nat) (l : List MacFrame) : (s.setMac p l).fab = s.fab := rfl
@[simp] theorem State.setMac_val (s : State) (p : Nat) (l : List MacFrame) (j : Nat) : (s.setMac p l).val j = s.val j := rfl
@[simp] theorem State.setMac_rd (s : State) (p : Nat) (l : List MacFrame) (r' : Reg) (j : Nat) : (s.setMac p l).rd r' j = s.rd r' j := rfl

/-! ## setInbuf -/

@[simp] theorem State.setInbuf_pending (s : State) (p : Nat) (l : List InPkt) : (s.setInbuf p l).pending = s.pending := rfl
@[simp] theorem State.setInbuf_out (s : State) (p : Nat) (l : List InPkt) : (s.setInbuf p l).out = s.out := rfl
@[simp] theorem State.setInbuf_freeIx (s : State) (p : Nat) (l : List InPkt) : (s.setInbuf p l).freeIx = s.freeIx := rfl
@[simp] theorem State.setInbuf_dict (s : State) (p : Nat) (l : List InPkt) : (s.setInbuf p l).dict = s.dict := rfl
@[simp] theorem State.setInbuf_acc (s : State) (p : Nat) (l : List InPkt) : (s.setInbuf p l).acc = s.acc := rfl
@[simp] theorem State.setInbuf_remote (s : State) (p : Nat) (l : List InPkt) : (s.setInbuf p l).remote = s.remote := rfl
@[simp] theorem State.setInbuf_fns (s : State) (p : Nat) (l : List InPkt) : (s.setInbuf p l).fns = s.fns := rfl
@[simp] theorem State.setInbuf_clk (s : State) (p : Nat) (l : List InPkt) : (s.setInbuf p l).clk = s.clk := rfl
@[simp] theorem State.setInbuf_time (s : State) (p : Nat) (l : List InPkt) : (s.setInbuf p l).time = s.time := rfl
@[simp] theorem State.setInbuf_ep (s : State) (p : Nat) (l : List InPkt) : (s.setInbuf p l).ep = s.ep := rfl
@[simp] theorem State.setInbuf_coll (s : State) (p : Nat) (l : List InPkt) : (s.setInbuf p l).coll = s.coll := rfl
@[simp] theorem State.setInbuf_pwr (s : State) (p : Nat) (l : List InPkt) : (s.setInbuf p l).pwr = s.pwr := rfl
@[simp] theorem State.setInbuf_sto (s : State) (p : Nat) (l : List InPkt) : (s.setInbuf p l).sto = s.sto := rfl
@[simp] theorem State.setInbuf_bab (s : State) (p : Nat) (l : List InPkt) : (s.setInbuf p l).bab = s.bab := rfl
@[simp] theorem State.setInbuf_tab (s : State) (p : Nat) (l : List InPkt) : (s.setInbuf p l).tab = s.tab := rfl
@[simp] theorem State.setInbuf_pip (s : State) (p : Nat) (l : List InPkt) : (s.setInbuf p l).pip = s.pip := rfl
@[simp] theorem State.setInbuf_trf (s : State) (p : Nat) (l : List InPkt) : (s.setInbuf p l).trf = s.trf := rfl
@[simp] theorem State.setInbuf_tel (s : State) (p : Nat) (l : List InPkt) : (s.setInbuf p l).tel = s.tel := rfl
@[simp] theorem State.setInbuf_lan (s : State) (p : Nat) (l : List InPkt) : (s.setInbuf p l).lan = s.lan := rfl
@[simp] theorem State.setInbuf_fab (s : State) (p : Nat) (l : List InPkt) : (s.setInbuf p l).fab = s.fab := rfl
@[simp] theorem State.setInbuf_val (s : State) (p : Nat) (l : List InPkt) (j : Nat) : (s.setInbuf p l).val j = s.val j := rfl
@[simp] theorem State.setInbuf_rd (s : State) (p : Nat) (l : List InPkt) (r' : Reg) (j : Nat) : (s.setInbuf p l).rd r' j = s.rd r' j := rfl

/-! ## setD2d -/

@[simp] theorem State.setD2d_pending (s : State) (k : Nat) (x : D2d) : (s.setD2d k x).pending = s.pending := rfl
@[simp] theorem State.setD2d_out (s : State) (k : Nat) (x : D2d) : (s.setD2d k x).out = s.out := rfl
@[simp] theorem State.setD2d_freeIx (s : State) (k : Nat) (x : D2d) : (s.setD2d k x).freeIx = s.freeIx := rfl
@[simp] theorem State.setD2d_dict (s : State) (k : Nat) (x : D2d) : (s.setD2d k x).dict = s.dict := rfl
@[simp] theorem State.setD2d_acc (s : State) (k : Nat) (x : D2d) : (s.setD2d k x).acc = s.acc := rfl
@[simp] theorem State.setD2d_remote (s : State) (k : Nat) (x : D2d) : (s.setD2d k x).remote = s.remote := rfl
@[simp] theorem State.setD2d_fns (s : State) (k : Nat) (x : D2d) : (s.setD2d k x).fns = s.fns := rfl
@[simp] theorem State.setD2d_clk (s : State) (k : Nat) (x : D2d) : (s.setD2d k x).clk = s.clk := rfl
@[simp] theorem State.setD2d_time (s : State) (k : Nat) (x : D2d) : (s.setD2d k x).time = s.time := rfl
@[simp] theorem State.setD2d_ep (s : State) (k : Nat) (x : D2d) : (s.setD2d k x).ep = s.ep := rfl
@[simp] theorem State.setD2d_coll (s : State) (k : Nat) (x : D2d) : (s.setD2d k x).coll = s.coll := rfl
@[simp] theorem State.setD2d_pwr (s : State) (k : Nat) (x : D2d) : (s.setD2d k x).pwr = s.pwr := rfl
@[simp] theorem State.setD2d_sto (s : State) (k : Nat) (x : D2d) : (s.setD2d k x).sto = s.sto := rfl
@[simp] theorem State.setD2d_bab (s : State) (k : Nat) (x : D2d) : (s.setD2d k x).bab = s.bab := rfl
@[simp] theorem State.setD2d_tab (s : State) (k : Nat) (x : D2d) : (s.setD2d k x).tab = s.tab := rfl
@[simp] theorem State.setD2d_pip (s : State) (k : Nat) (x : D2d) : (s.setD2d k x).pip = s.pip := rfl
@[simp] theorem State.setD2d_trf (s : State) (k : Nat) (x : D2d) : (s.setD2d k x).trf = s.trf := rfl
@[simp] theorem State.setD2d_prt (s : State) (k : Nat) (x : D2d) : (s.setD2d k x).prt = s.prt := rfl
@[simp] theorem State.setD2d_tel (s : State) (k : Nat) (x : D2d) : (s.setD2d k x).tel = s.tel := rfl
@[simp] theorem State.setD2d_fab (s : State) (k : Nat) (x : D2d) : (s.setD2d k x).fab = s.fab := rfl
@[simp] theorem State.setD2d_val (s : State) (k : Nat) (x : D2d) (j : Nat) : (s.setD2d k x).val j = s.val j := rfl
@[simp] theorem State.setD2d_rd (s : State) (k : Nat) (x : D2d) (r' : Reg) (j : Nat) : (s.setD2d k x).rd r' j = s.rd r' j := rfl

/-! ## setRefRun -/

@[simp] theorem State.setRefRun_pending (s : State) (i n : Nat) : (s.setRefRun i n).pending = s.pending := rfl
@[simp] theorem State.setRefRun_out (s : State) (i n : Nat) : (s.setRefRun i n).out = s.out := rfl
@[simp] theorem State.setRefRun_freeIx (s : State) (i n : Nat) : (s.setRefRun i n).freeIx = s.freeIx := rfl
@[simp] theorem State.setRefRun_dict (s : State) (i n : Nat) : (s.setRefRun i n).dict = s.dict := rfl
@[simp] theorem State.setRefRun_acc (s : State) (i n : Nat) : (s.setRefRun i n).acc = s.acc := rfl
@[simp] theorem State.setRefRun_remote (s : State) (i n : Nat) : (s.setRefRun i n).remote = s.remote := rfl
@[simp] theorem State.setRefRun_fns (s : State) (i n : Nat) : (s.setRefRun i n).fns = s.fns := rfl
@[simp] theorem State.setRefRun_clk (s : State) (i n : Nat) : (s.setRefRun i n).clk = s.clk := rfl
@[simp] theorem State.setRefRun_ep (s : State) (i n : Nat) : (s.setRefRun i n).ep = s.ep := rfl
@[simp] theorem State.setRefRun_coll (s : State) (i n : Nat) : (s.setRefRun i n).coll = s.coll := rfl
@[simp] theorem State.setRefRun_pwr (s : State) (i n : Nat) : (s.setRefRun i n).pwr = s.pwr := rfl
@[simp] theorem State.setRefRun_sto (s : State) (i n : Nat) : (s.setRefRun i n).sto = s.sto := rfl
@[simp] theorem State.setRefRun_bab (s : State) (i n : Nat) : (s.setRefRun i n).bab = s.bab := rfl
@[simp] theorem State.setRefRun_tab (s : State) (i n : Nat) : (s.setRefRun i n).tab = s.tab := rfl
@[simp] theorem State.setRefRun_pip (s : State) (i n : Nat) : (s.setRefRun i n).pip = s.pip := rfl
@[simp] theorem State.setRefRun_trf (s : State) (i n : Nat) : (s.setRefRun i n).trf = s.trf := rfl
@[simp] theorem State.setRefRun_prt (s : State) (i n : Nat) : (s.setRefRun i n).prt = s.prt := rfl
@[simp] theorem State.setRefRun_tel (s : State) (i n : Nat) : (s.setRefRun i n).tel = s.tel := rfl
@[simp] theorem State.setRefRun_lan (s : State) (i n : Nat) : (s.setRefRun i n).lan = s.lan := rfl
@[simp] theorem State.setRefRun_fab (s : State) (i n : Nat) : (s.setRefRun i n).fab = s.fab := rfl
@[simp] theorem State.setRefRun_val (s : State) (i n : Nat) (j : Nat) : (s.setRefRun i n).val j = s.val j := rfl
@[simp] theorem State.setRefRun_rd (s : State) (i n : Nat) (r' : Reg) (j : Nat) : (s.setRefRun i n).rd r' j = s.rd r' j := rfl

/-! ## setLinkSt -/

@[simp] theorem State.setLinkSt_pending (s : State) (l : Nat) (x : LinkSt) : (s.setLinkSt l x).pending = s.pending := rfl
@[simp] theorem State.setLinkSt_out (s : State) (l : Nat) (x : LinkSt) : (s.setLinkSt l x).out = s.out := rfl
@[simp] theorem State.setLinkSt_freeIx (s : State) (l : Nat) (x : LinkSt) : (s.setLinkSt l x).freeIx = s.freeIx := rfl
@[simp] theorem State.setLinkSt_dict (s : State) (l : Nat) (x : LinkSt) : (s.setLinkSt l x).dict = s.dict := rfl
@[simp] theorem State.setLinkSt_acc (s : State) (l : Nat) (x : LinkSt) : (s.setLinkSt l x).acc = s.acc := rfl
@[simp] theorem State.setLinkSt_remote (s : State) (l : Nat) (x : LinkSt) : (s.setLinkSt l x).remote = s.remote := rfl
@[simp] theorem State.setLinkSt_fns (s : State) (l : Nat) (x : LinkSt) : (s.setLinkSt l x).fns = s.fns := rfl
@[simp] theorem State.setLinkSt_clk (s : State) (l : Nat) (x : LinkSt) : (s.setLinkSt l x).clk = s.clk := rfl
@[simp] theorem State.setLinkSt_time (s : State) (l : Nat) (x : LinkSt) : (s.setLinkSt l x).time = s.time := rfl
@[simp] theorem State.setLinkSt_ep (s : State) (l : Nat) (x : LinkSt) : (s.setLinkSt l x).ep = s.ep := rfl
@[simp] theorem State.setLinkSt_coll (s : State) (l : Nat) (x : LinkSt) : (s.setLinkSt l x).coll = s.coll := rfl
@[simp] theorem State.setLinkSt_pwr (s : State) (l : Nat) (x : LinkSt) : (s.setLinkSt l x).pwr = s.pwr := rfl
@[simp] theorem State.setLinkSt_sto (s : State) (l : Nat) (x : LinkSt) : (s.setLinkSt l x).sto = s.sto := rfl
@[simp] theorem State.setLinkSt_bab (s : State) (l : Nat) (x : LinkSt) : (s.setLinkSt l x).bab = s.bab := rfl
@[simp] theorem State.setLinkSt_tab (s : State) (l : Nat) (x : LinkSt) : (s.setLinkSt l x).tab = s.tab := rfl
@[simp] theorem State.setLinkSt_pip (s : State) (l : Nat) (x : LinkSt) : (s.setLinkSt l x).pip = s.pip := rfl
@[simp] theorem State.setLinkSt_trf (s : State) (l : Nat) (x : LinkSt) : (s.setLinkSt l x).trf = s.trf := rfl
@[simp] theorem State.setLinkSt_prt (s : State) (l : Nat) (x : LinkSt) : (s.setLinkSt l x).prt = s.prt := rfl
@[simp] theorem State.setLinkSt_tel (s : State) (l : Nat) (x : LinkSt) : (s.setLinkSt l x).tel = s.tel := rfl
@[simp] theorem State.setLinkSt_lan (s : State) (l : Nat) (x : LinkSt) : (s.setLinkSt l x).lan = s.lan := rfl
@[simp] theorem State.setLinkSt_val (s : State) (l : Nat) (x : LinkSt) (j : Nat) : (s.setLinkSt l x).val j = s.val j := rfl
@[simp] theorem State.setLinkSt_rd (s : State) (l : Nat) (x : LinkSt) (r' : Reg) (j : Nat) : (s.setLinkSt l x).rd r' j = s.rd r' j := rfl

/-! ## setReasm -/

@[simp] theorem State.setReasm_pending (s : State) (k : Nat) (r : Option Reasm) : (s.setReasm k r).pending = s.pending := rfl
@[simp] theorem State.setReasm_out (s : State) (k : Nat) (r : Option Reasm) : (s.setReasm k r).out = s.out := rfl
@[simp] theorem State.setReasm_freeIx (s : State) (k : Nat) (r : Option Reasm) : (s.setReasm k r).freeIx = s.freeIx := rfl
@[simp] theorem State.setReasm_dict (s : State) (k : Nat) (r : Option Reasm) : (s.setReasm k r).dict = s.dict := rfl
@[simp] theorem State.setReasm_acc (s : State) (k : Nat) (r : Option Reasm) : (s.setReasm k r).acc = s.acc := rfl
@[simp] theorem State.setReasm_remote (s : State) (k : Nat) (r : Option Reasm) : (s.setReasm k r).remote = s.remote := rfl
@[simp] theorem State.setReasm_fns (s : State) (k : Nat) (r : Option Reasm) : (s.setReasm k r).fns = s.fns := rfl
@[simp] theorem State.setReasm_clk (s : State) (k : Nat) (r : Option Reasm) : (s.setReasm k r).clk = s.clk := rfl
@[simp] theorem State.setReasm_time (s : State) (k : Nat) (r : Option Reasm) : (s.setReasm k r).time = s.time := rfl
@[simp] theorem State.setReasm_ep (s : State) (k : Nat) (r : Option Reasm) : (s.setReasm k r).ep = s.ep := rfl
@[simp] theorem State.setReasm_coll (s : State) (k : Nat) (r : Option Reasm) : (s.setReasm k r).coll = s.coll := rfl
@[simp] theorem State.setReasm_pwr (s : State) (k : Nat) (r : Option Reasm) : (s.setReasm k r).pwr = s.pwr := rfl
@[simp] theorem State.setReasm_sto (s : State) (k : Nat) (r : Option Reasm) : (s.setReasm k r).sto = s.sto := rfl
@[simp] theorem State.setReasm_bab (s : State) (k : Nat) (r : Option Reasm) : (s.setReasm k r).bab = s.bab := rfl
@[simp] theorem State.setReasm_tab (s : State) (k : Nat) (r : Option Reasm) : (s.setReasm k r).tab = s.tab := rfl
@[simp] theorem State.setReasm_pip (s : State) (k : Nat) (r : Option Reasm) : (s.setReasm k r).pip = s.pip := rfl
@[simp] theorem State.setReasm_trf (s : State) (k : Nat) (r : Option Reasm) : (s.setReasm k r).trf = s.trf := rfl
@[simp] theorem State.setReasm_prt (s : State) (k : Nat) (r : Option Reasm) : (s.setReasm k r).prt = s.prt := rfl
@[simp] theorem State.setReasm_tel (s : State) (k : Nat) (r : Option Reasm) : (s.setReasm k r).tel = s.tel := rfl
@[simp] theorem State.setReasm_lan (s : State) (k : Nat) (r : Option Reasm) : (s.setReasm k r).lan = s.lan := rfl
@[simp] theorem State.setReasm_val (s : State) (k : Nat) (r : Option Reasm) (j : Nat) : (s.setReasm k r).val j = s.val j := rfl
@[simp] theorem State.setReasm_rd (s : State) (k : Nat) (r : Option Reasm) (r' : Reg) (j : Nat) : (s.setReasm k r).rd r' j = s.rd r' j := rfl

/-! ## setBudget -/

@[simp] theorem State.setBudget_pending (s : State) (p v : Nat) : (s.setBudget p v).pending = s.pending := rfl
@[simp] theorem State.setBudget_out (s : State) (p v : Nat) : (s.setBudget p v).out = s.out := rfl
@[simp] theorem State.setBudget_freeIx (s : State) (p v : Nat) : (s.setBudget p v).freeIx = s.freeIx := rfl
@[simp] theorem State.setBudget_dict (s : State) (p v : Nat) : (s.setBudget p v).dict = s.dict := rfl
@[simp] theorem State.setBudget_acc (s : State) (p v : Nat) : (s.setBudget p v).acc = s.acc := rfl
@[simp] theorem State.setBudget_remote (s : State) (p v : Nat) : (s.setBudget p v).remote = s.remote := rfl
@[simp] theorem State.setBudget_fns (s : State) (p v : Nat) : (s.setBudget p v).fns = s.fns := rfl
@[simp] theorem State.setBudget_clk (s : State) (p v : Nat) : (s.setBudget p v).clk = s.clk := rfl
@[simp] theorem State.setBudget_time (s : State) (p v : Nat) : (s.setBudget p v).time = s.time := rfl
@[simp] theorem State.setBudget_ep (s : State) (p v : Nat) : (s.setBudget p v).ep = s.ep := rfl
@[simp] theorem State.setBudget_coll (s : State) (p v : Nat) : (s.setBudget p v).coll = s.coll := rfl
@[simp] theorem State.setBudget_pwr (s : State) (p v : Nat) : (s.setBudget p v).pwr = s.pwr := rfl
@[simp] theorem State.setBudget_sto (s : State) (p v : Nat) : (s.setBudget p v).sto = s.sto := rfl
@[simp] theorem State.setBudget_bab (s : State) (p v : Nat) : (s.setBudget p v).bab = s.bab := rfl
@[simp] theorem State.setBudget_tab (s : State) (p v : Nat) : (s.setBudget p v).tab = s.tab := rfl
@[simp] theorem State.setBudget_pip (s : State) (p v : Nat) : (s.setBudget p v).pip = s.pip := rfl
@[simp] theorem State.setBudget_trf (s : State) (p v : Nat) : (s.setBudget p v).trf = s.trf := rfl
@[simp] theorem State.setBudget_prt (s : State) (p v : Nat) : (s.setBudget p v).prt = s.prt := rfl
@[simp] theorem State.setBudget_tel (s : State) (p v : Nat) : (s.setBudget p v).tel = s.tel := rfl
@[simp] theorem State.setBudget_lan (s : State) (p v : Nat) : (s.setBudget p v).lan = s.lan := rfl
@[simp] theorem State.setBudget_val (s : State) (p v : Nat) (j : Nat) : (s.setBudget p v).val j = s.val j := rfl
@[simp] theorem State.setBudget_rd (s : State) (p v : Nat) (r' : Reg) (j : Nat) : (s.setBudget p v).rd r' j = s.rd r' j := rfl

/-! ## setReqs -/

@[simp] theorem State.setReqs_pending (s : State) (q : Nat) (l : List ReqEnt) : (s.setReqs q l).pending = s.pending := rfl
@[simp] theorem State.setReqs_out (s : State) (q : Nat) (l : List ReqEnt) : (s.setReqs q l).out = s.out := rfl
@[simp] theorem State.setReqs_freeIx (s : State) (q : Nat) (l : List ReqEnt) : (s.setReqs q l).freeIx = s.freeIx := rfl
@[simp] theorem State.setReqs_dict (s : State) (q : Nat) (l : List ReqEnt) : (s.setReqs q l).dict = s.dict := rfl
@[simp] theorem State.setReqs_acc (s : State) (q : Nat) (l : List ReqEnt) : (s.setReqs q l).acc = s.acc := rfl
@[simp] theorem State.setReqs_remote (s : State) (q : Nat) (l : List ReqEnt) : (s.setReqs q l).remote = s.remote := rfl
@[simp] theorem State.setReqs_fns (s : State) (q : Nat) (l : List ReqEnt) : (s.setReqs q l).fns = s.fns := rfl
@[simp] theorem State.setReqs_clk (s : State) (q : Nat) (l : List ReqEnt) : (s.setReqs q l).clk = s.clk := rfl
@[simp] theorem State.setReqs_time (s : State) (q : Nat) (l : List ReqEnt) : (s.setReqs q l).time = s.time := rfl
@[simp] theorem State.setReqs_ep (s : State) (q : Nat) (l : List ReqEnt) : (s.setReqs q l).ep = s.ep := rfl
@[simp] theorem State.setReqs_coll (s : State) (q : Nat) (l : List ReqEnt) : (s.setReqs q l).coll = s.coll := rfl
@[simp] theorem State.setReqs_pwr (s : State) (q : Nat) (l : List ReqEnt) : (s.setReqs q l).pwr = s.pwr := rfl
@[simp] theorem State.setReqs_sto (s : State) (q : Nat) (l : List ReqEnt) : (s.setReqs q l).sto = s.sto := rfl
@[simp] theorem State.setReqs_bab (s : State) (q : Nat) (l : List ReqEnt) : (s.setReqs q l).bab = s.bab := rfl
@[simp] theorem State.setReqs_tab (s : State) (q : Nat) (l : List ReqEnt) : (s.setReqs q l).tab = s.tab := rfl
@[simp] theorem State.setReqs_pip (s : State) (q : Nat) (l : List ReqEnt) : (s.setReqs q l).pip = s.pip := rfl
@[simp] theorem State.setReqs_trf (s : State) (q : Nat) (l : List ReqEnt) : (s.setReqs q l).trf = s.trf := rfl
@[simp] theorem State.setReqs_prt (s : State) (q : Nat) (l : List ReqEnt) : (s.setReqs q l).prt = s.prt := rfl
@[simp] theorem State.setReqs_tel (s : State) (q : Nat) (l : List ReqEnt) : (s.setReqs q l).tel = s.tel := rfl
@[simp] theorem State.setReqs_lan (s : State) (q : Nat) (l : List ReqEnt) : (s.setReqs q l).lan = s.lan := rfl
@[simp] theorem State.setReqs_val (s : State) (q : Nat) (l : List ReqEnt) (j : Nat) : (s.setReqs q l).val j = s.val j := rfl
@[simp] theorem State.setReqs_rd (s : State) (q : Nat) (l : List ReqEnt) (r' : Reg) (j : Nat) : (s.setReqs q l).rd r' j = s.rd r' j := rfl

/-! ## setVoq -/

@[simp] theorem State.setVoq_pending (s : State) (v : Nat) (x : VoqSt) : (s.setVoq v x).pending = s.pending := rfl
@[simp] theorem State.setVoq_out (s : State) (v : Nat) (x : VoqSt) : (s.setVoq v x).out = s.out := rfl
@[simp] theorem State.setVoq_freeIx (s : State) (v : Nat) (x : VoqSt) : (s.setVoq v x).freeIx = s.freeIx := rfl
@[simp] theorem State.setVoq_dict (s : State) (v : Nat) (x : VoqSt) : (s.setVoq v x).dict = s.dict := rfl
@[simp] theorem State.setVoq_acc (s : State) (v : Nat) (x : VoqSt) : (s.setVoq v x).acc = s.acc := rfl
@[simp] theorem State.setVoq_remote (s : State) (v : Nat) (x : VoqSt) : (s.setVoq v x).remote = s.remote := rfl
@[simp] theorem State.setVoq_fns (s : State) (v : Nat) (x : VoqSt) : (s.setVoq v x).fns = s.fns := rfl
@[simp] theorem State.setVoq_clk (s : State) (v : Nat) (x : VoqSt) : (s.setVoq v x).clk = s.clk := rfl
@[simp] theorem State.setVoq_time (s : State) (v : Nat) (x : VoqSt) : (s.setVoq v x).time = s.time := rfl
@[simp] theorem State.setVoq_ep (s : State) (v : Nat) (x : VoqSt) : (s.setVoq v x).ep = s.ep := rfl
@[simp] theorem State.setVoq_coll (s : State) (v : Nat) (x : VoqSt) : (s.setVoq v x).coll = s.coll := rfl
@[simp] theorem State.setVoq_pwr (s : State) (v : Nat) (x : VoqSt) : (s.setVoq v x).pwr = s.pwr := rfl
@[simp] theorem State.setVoq_sto (s : State) (v : Nat) (x : VoqSt) : (s.setVoq v x).sto = s.sto := rfl
@[simp] theorem State.setVoq_bab (s : State) (v : Nat) (x : VoqSt) : (s.setVoq v x).bab = s.bab := rfl
@[simp] theorem State.setVoq_tab (s : State) (v : Nat) (x : VoqSt) : (s.setVoq v x).tab = s.tab := rfl
@[simp] theorem State.setVoq_pip (s : State) (v : Nat) (x : VoqSt) : (s.setVoq v x).pip = s.pip := rfl
@[simp] theorem State.setVoq_trf (s : State) (v : Nat) (x : VoqSt) : (s.setVoq v x).trf = s.trf := rfl
@[simp] theorem State.setVoq_prt (s : State) (v : Nat) (x : VoqSt) : (s.setVoq v x).prt = s.prt := rfl
@[simp] theorem State.setVoq_tel (s : State) (v : Nat) (x : VoqSt) : (s.setVoq v x).tel = s.tel := rfl
@[simp] theorem State.setVoq_lan (s : State) (v : Nat) (x : VoqSt) : (s.setVoq v x).lan = s.lan := rfl
@[simp] theorem State.setVoq_val (s : State) (v : Nat) (x : VoqSt) (j : Nat) : (s.setVoq v x).val j = s.val j := rfl
@[simp] theorem State.setVoq_rd (s : State) (v : Nat) (x : VoqSt) (r' : Reg) (j : Nat) : (s.setVoq v x).rd r' j = s.rd r' j := rfl

end Sys2Proof.Machine
end

