-- ==== Sys2Proof/Laws/Registers.lean ====
section
/-! SUPPORT. Reading a dictionary value after a write, and which keys differ. -/

namespace Sys2Proof.Machine

/-! ## Values -/

@[simp] theorem State.val_setVal_same (s : State) (k v : Nat) : (s.setVal k v).val k = v := mget_mput_same ..

theorem State.val_setVal_ne (s : State) {k j : Nat} (v : Nat) (h : j ≠ k) : (s.setVal k v).val j = s.val j := mget_mput_ne _ _ _ _ h

theorem State.val_setVal (s : State) (k j v : Nat) : (s.setVal k v).val j = if j = k then v else s.val j := by
  by_cases h : j = k
  · simp [h]
  · simp [h, State.val_setVal_ne]

theorem State.val_wr (s : State) (r : Reg) (n v j : Nat) : (s.wr r n v).val j = if j = key r n then v else s.val j :=
  s.val_setVal (key r n) j v

@[simp] theorem State.rd_wr_same (s : State) (r : Reg) (n v : Nat) : (s.wr r n v).rd r n = v := s.val_setVal_same (key r n) v

theorem State.rd_wr_ne (s : State) {r r' : Reg} {n n' : Nat} (v : Nat) (h : key r' n' ≠ key r n) :
    (s.wr r n v).rd r' n' = s.rd r' n' := s.val_setVal_ne v h

theorem State.rd_wr (s : State) (r r' : Reg) (n n' v : Nat) :
    (s.wr r n v).rd r' n' = if key r' n' = key r n then v else s.rd r' n' := s.val_setVal (key r n) (key r' n') v

/-! ## Keys -/

/-- Two keys are one only where object, instance and sub-index are. -/
theorem keyOf_inj {o n b o' n' b' : Nat} (hn : n < 65536) (hb : b < 256) (hn' : n' < 65536) (hb' : b' < 256) :
    keyOf o n b = keyOf o' n' b' ↔ o = o' ∧ n = n' ∧ b = b' := by
  unfold keyOf; omega

@[simp] theorem keySub_keyOf (o n b : Nat) (hb : b < 256) : keySub (keyOf o n b) = b := by
  unfold keySub keyOf; omega

@[simp] theorem keyInst_keyOf (o n b : Nat) (hn : n < 65536) (hb : b < 256) : keyInst (keyOf o n b) = n := by
  unfold keyInst keyOf; omega

@[simp] theorem keyIndex_keyOf (o n b : Nat) (hn : n < 65536) (hb : b < 256) : keyIndex (keyOf o n b) = o := by
  unfold keyIndex keyOf; omega

/-! ## Free values -/

@[simp] theorem State.free_val (s : State) (w k : Nat) : (s.free w).2.val k = s.val k := rfl
@[simp] theorem State.free_rd (s : State) (w : Nat) (r : Reg) (n : Nat) : (s.free w).2.rd r n = s.rd r n := rfl

/-! ## Canonical form -/

/-- Every update of a dictionary value keeps the dictionary's keys rising. -/
theorem State.setVal_sorted (s : State) (k v : Nat) (h : msorted s.dict = true) : msorted (s.setVal k v).dict = true :=
  msorted_mput _ _ _ _ h

/-- Every write of a word keeps the near and far memories canonical. -/
theorem State.putNear_sorted (s : State) (a w : Nat) (h : msorted s.tab.near = true) : msorted (s.putNear a w).tab.near = true :=
  msorted_mput _ _ _ _ h

theorem State.putFar_sorted (s : State) (a w : Nat) (h : msorted s.tab.far = true) : msorted (s.putFar a w).tab.far = true :=
  msorted_mput _ _ _ _ h

end Sys2Proof.Machine
end

