-- ==== Sys2Proof/Laws/Outcome.lean ====
section
/-! SUPPORT. How a command ends: its outcome, and the two lines that follow the state (R543, R569). -/

namespace Sys2Proof.Machine

@[simp] theorem outcome_true (s t : State) : outcome true s t = .next t.settleOutputs := rfl
@[simp] theorem outcome_false (s t : State) : outcome false s t = .next s.settleOutputs := rfl

theorem outcome_of {c : Bool} (h : c = true) (s t : State) : outcome c s t = .next t.settleOutputs := by subst h; rfl

theorem completes_eq (s : State) : completes s = .next s.settleOutputs := rfl

/-- A next state of an outcome is a settled state of what the command made. -/
theorem outcome_next {c : Bool} {s t u : State} (h : outcome c s t = .next u) : u = if c then t.settleOutputs else s.settleOutputs := by
  cases c <;> simpa using h.symm

/-! ## What the lines leave alone -/

/-- INTA's driver changes the line and the log of outputs only. -/
theorem State.interruptA_eq (s : State) :
    s.interruptA = s ∨ ∃ w, s.interruptA = ({ s with ep := { s.ep with inta := w } } : State).emit (.inta w) := by
  unfold State.interruptA
  simp only
  split
  · exact .inl rfl
  · exact .inr ⟨_, rfl⟩

/-- ALIVE_OUT's driver changes the line and the log of outputs only. -/
theorem State.aliveUpdate_eq (s : State) :
    s.aliveUpdate = s ∨ s.aliveUpdate = ({ s with coll := { s.coll with alive := false } } : State).emit (.pin 0 0) := by
  unfold State.aliveUpdate
  split
  · exact .inr rfl
  · exact .inl rfl

theorem State.interruptA_aliveNow (s : State) : s.interruptA.aliveNow = s.aliveNow := by
  rcases s.interruptA_eq with h | ⟨w, h⟩ <;> rw [h] <;> rfl

theorem State.aliveUpdate_aliveNow (s : State) : s.aliveUpdate.aliveNow = s.aliveNow := by
  rcases s.aliveUpdate_eq with h | h <;> rw [h] <;> rfl

@[simp] theorem State.settle_pending (s : State) : s.settleOutputs.pending = s.pending := by
  unfold State.settleOutputs
  rcases s.interruptA.aliveUpdate_eq with h | h <;> rcases s.interruptA_eq with h' | ⟨w, h'⟩ <;> rw [h, h'] <;> rfl

@[simp] theorem State.settle_val (s : State) (k : Nat) : s.settleOutputs.val k = s.val k := by
  unfold State.settleOutputs
  rcases s.interruptA.aliveUpdate_eq with h | h <;> rcases s.interruptA_eq with h' | ⟨w, h'⟩ <;> rw [h, h'] <;> rfl

/-! ## The lines are right -/

theorem State.interruptA_right (s : State) : IntaRight s.interruptA := by
  unfold State.interruptA
  simp only
  split
  · rename_i h; exact h.symm
  · rfl

theorem State.aliveUpdate_right (s : State) : AliveRight s.aliveUpdate := by
  intro h
  rw [State.aliveUpdate_aliveNow] at h
  unfold State.aliveUpdate
  split
  · rfl
  · rename_i hn
    simpa [h] using hn

theorem State.aliveUpdate_inta {s : State} (h : IntaRight s) : IntaRight s.aliveUpdate := by
  rcases s.aliveUpdate_eq with h' | h' <;> rw [h'] <;> exact h

/-- Whatever a command made, the lines are right after it. -/
theorem State.settled (s : State) : Settled s.settleOutputs :=
  ⟨State.aliveUpdate_inta s.interruptA_right, s.interruptA.aliveUpdate_right⟩

/-! ## Saying what a command does -/

theorem does_of {i : Instr} {s u : State} {P : State → Prop} (h : exec i s = .next u.settleOutputs) (hu : P u) : Does i s P := ⟨u, h, hu⟩

theorem only_refl (ps : List Part) (ks : List Nat) (s : State) : Only ps ks s s :=
  ⟨rfl, fun p _ => by cases p <;> rfl, fun _ _ => rfl⟩

theorem only_trans {ps : List Part} {ks : List Nat} {s t u : State} (h : Only ps ks s t) (h' : Only ps ks t u) : Only ps ks s u :=
  ⟨h'.1.trans h.1, fun p hp => by
    have a := h.2.1 p hp; have b := h'.2.1 p hp
    cases p <;> exact Eq.trans b a, fun k hk => (h'.2.2 k hk).trans (h.2.2 k hk)⟩

theorem only_mono {ps ps' : List Part} {ks ks' : List Nat} {s t : State} (hp : ∀ p ∈ ps, p ∈ ps') (hk : ∀ k ∈ ks, k ∈ ks')
    (h : Only ps ks s t) : Only ps' ks' s t :=
  ⟨h.1, fun p hn => h.2.1 p (fun hm => hn (hp p hm)), fun k hn => h.2.2 k (fun hm => hn (hk k hm))⟩

theorem only_setVal (s : State) (k v : Nat) : Only [] [k] s (s.setVal k v) :=
  ⟨rfl, fun p _ => by cases p <;> rfl, fun j hj => s.val_setVal_ne v (by simpa using hj)⟩

theorem only_wr (s : State) (r : Reg) (n v : Nat) : Only [] [key r n] s (s.wr r n v) := only_setVal s (key r n) v

theorem only_add (s : State) (r : Reg) (n v : Nat) : Only [] [key r n] s (s.add r n v) := only_setVal s (key r n) _

theorem only_bump (s : State) (r : Reg) (n : Nat) : Only [] [key r n] s (s.bump r n) := only_setVal s (key r n) _

theorem only_bump32 (s : State) (r : Reg) (n : Nat) : Only [] [key r n] s (s.bump32 r n) := only_setVal s (key r n) _

theorem only_emit (s : State) (o : Out) : Only [.out] [] s (s.emit o) :=
  ⟨rfl, fun p hp => by cases p <;> first | rfl | simp at hp, fun _ _ => rfl⟩

theorem only_setEv (s : State) (p : Nat) (e : EvSt) : Only [.ep] [] s (s.setEv p e) :=
  ⟨rfl, fun p hp => by cases p <;> first | rfl | simp at hp, fun _ _ => rfl⟩

theorem only_interruptA (s : State) : Only [.ep, .out] [] s s.interruptA := by
  rcases s.interruptA_eq with h | ⟨w, h⟩ <;> rw [h]
  · exact only_refl ..
  · exact ⟨rfl, fun p hp => by cases p <;> first | rfl | simp at hp, fun _ _ => rfl⟩

theorem only_fold {ps ps' : List Part} {ks ks' : List Nat} {s t u : State} (h : Only ps ks s t) (h' : Only ps' ks' t u)
    (hp : ∀ p ∈ ps', p ∈ ps := by simp) (hk : ∀ k ∈ ks', k ∈ ks := by simp) : Only ps ks s u :=
  only_trans h (only_mono hp hk h')

theorem only_ite {ps : List Part} {ks : List Nat} {s a b : State} {c : Prop} [Decidable c] (h : c → Only ps ks s a)
    (h' : ¬c → Only ps ks s b) : Only ps ks s (if c then a else b) := by
  by_cases hc : c
  · rw [if_pos hc]; exact h hc
  · rw [if_neg hc]; exact h' hc

theorem only_free (s : State) (w : Nat) : Only [.freeIx] [] s (s.free w).2 :=
  ⟨rfl, fun p hp => by cases p <;> first | rfl | simp at hp, fun _ _ => rfl⟩

theorem only_clk (s : State) (c : Clock) : Only [.clk] [] s { s with clk := c } :=
  ⟨rfl, fun p hp => by cases p <;> first | rfl | simp at hp, fun _ _ => rfl⟩

theorem only_time (s : State) (c : TimeSt) : Only [.time] [] s { s with time := c } :=
  ⟨rfl, fun p hp => by cases p <;> first | rfl | simp at hp, fun _ _ => rfl⟩

theorem only_time_clk (s : State) (a : TimeSt) (c : Clock) : Only [.time, .clk] [] s { s with time := a, clk := c } :=
  ⟨rfl, fun p hp => by cases p <;> first | rfl | simp at hp, fun _ _ => rfl⟩

theorem only_ep (s : State) (c : Endpoint) : Only [.ep] [] s { s with ep := c } :=
  ⟨rfl, fun p hp => by cases p <;> first | rfl | simp at hp, fun _ _ => rfl⟩

theorem only_coll (s : State) (c : Coll) : Only [.coll] [] s { s with coll := c } :=
  ⟨rfl, fun p hp => by cases p <;> first | rfl | simp at hp, fun _ _ => rfl⟩

theorem only_pwr (s : State) (c : Power) : Only [.pwr] [] s { s with pwr := c } :=
  ⟨rfl, fun p hp => by cases p <;> first | rfl | simp at hp, fun _ _ => rfl⟩

theorem only_acc (s : State) (c : Access) : Only [.acc] [] s { s with acc := c } :=
  ⟨rfl, fun p hp => by cases p <;> first | rfl | simp at hp, fun _ _ => rfl⟩

theorem only_sto (s : State) (c : Store) : Only [.sto] [] s { s with sto := c } :=
  ⟨rfl, fun p hp => by cases p <;> first | rfl | simp at hp, fun _ _ => rfl⟩

theorem only_tab (s : State) (c : Tables) : Only [.tab] [] s { s with tab := c } :=
  ⟨rfl, fun p hp => by cases p <;> first | rfl | simp at hp, fun _ _ => rfl⟩

theorem only_trf (s : State) (c : Traffic) : Only [.trf] [] s { s with trf := c } :=
  ⟨rfl, fun p hp => by cases p <;> first | rfl | simp at hp, fun _ _ => rfl⟩

theorem only_prt (s : State) (c : Ports) : Only [.prt] [] s { s with prt := c } :=
  ⟨rfl, fun p hp => by cases p <;> first | rfl | simp at hp, fun _ _ => rfl⟩

theorem only_tel (s : State) (c : Telem) : Only [.tel] [] s { s with tel := c } :=
  ⟨rfl, fun p hp => by cases p <;> first | rfl | simp at hp, fun _ _ => rfl⟩

theorem only_lan (s : State) (c : Lanes) : Only [.lan] [] s { s with lan := c } :=
  ⟨rfl, fun p hp => by cases p <;> first | rfl | simp at hp, fun _ _ => rfl⟩

theorem only_fab (s : State) (c : Fabric) : Only [.fab] [] s { s with fab := c } :=
  ⟨rfl, fun p hp => by cases p <;> first | rfl | simp at hp, fun _ _ => rfl⟩

theorem only_fns (s : State) (c : Funcs) : Only [.fns] [] s { s with fns := c } :=
  ⟨rfl, fun p hp => by cases p <;> first | rfl | simp at hp, fun _ _ => rfl⟩

/-! ## What the shared operations can do -/

/-- A message of a vector goes out or sets its pending bit: the endpoint and the outputs. -/
theorem only_sendMsix (s : State) (fn v : Nat) : Only [.ep, .out] [] s (s.sendMsix fn v) := by
  unfold State.sendMsix
  split
  · exact only_mono (by simp) (by simp) (only_ep ..)
  · exact only_mono (by simp) (by simp) (only_emit ..)

/-- Writing an event record touches the endpoint and the outputs only. -/
theorem only_putEvent (s : State) (p code : Nat) (pl : List Nat) : Only [.ep, .out] [] s (s.putEvent p code pl) := by
  unfold State.putEvent
  simp only
  have m1 : ∀ {a b : State}, Only [.out] [] a b → Only [.ep, .out] [] a b :=
    only_mono (by simp) (by simp)
  have m2 : ∀ {a b : State}, Only [.ep] [] a b → Only [.ep, .out] [] a b :=
    only_mono (by simp) (by simp)
  refine only_trans ?_ (only_interruptA _)
  have h (a b : Out) (e : EvSt) : Only [.ep, .out] [] s (((s.emit a).emit b).setEv p e) :=
    only_trans (only_trans (m1 (only_emit ..)) (m1 (only_emit ..))) (m2 (only_setEv ..))
  split
  · exact only_trans (h ..) (only_sendMsix ..)
  · exact h ..

/-- Discarding an event counts it, and touches the endpoint beside. -/
theorem only_dropEvent (s : State) (p : Nat) : Only [.ep, .out] [key R.ering_EVENTS_DISCARDED p] s (s.dropEvent p) :=
  only_trans (only_mono (by simp) (by simp) (only_bump ..)) (only_mono (by simp) (by simp) (only_setEv ..))

/-- Posting an event changes no dictionary value but the ring's EVENTS_DISCARDED, and no part but the endpoint and the outputs. -/
theorem only_event (s : State) (p code : Nat) (pl : List Nat) :
    Only [.ep, .out] [key R.ering_EVENTS_DISCARDED p] s (s.event p code pl) := by
  have ho : Only [.ep, .out] [key R.ering_EVENTS_DISCARDED p] s (s.overflow p) := by
    unfold State.overflow
    simp only
    split
    · exact only_trans (only_mono (fun _ h => h) (by simp) (only_putEvent ..)) (only_mono (by simp) (by simp) (only_setEv ..))
    · exact only_refl ..
  unfold State.event
  simp only
  split
  · exact only_trans ho (only_dropEvent ..)
  · exact only_trans ho (only_mono (fun _ h => h) (by simp) (only_putEvent ..))

/-- A fault message changes the messages held, or counts one lost at its source. -/
theorem only_fault (s : State) (src kind addr : Nat) : Only [.coll] [key R.src_LOST src] s (s.fault src kind addr) := by
  unfold State.fault
  simp only
  split
  · split
    · exact ⟨rfl, fun p hp => by cases p <;> first | rfl | simp at hp, fun _ _ => rfl⟩
    · exact only_mono (by simp) (by simp) (only_bump32 ..)
  · exact only_refl ..

/-- The lines change INTA, ALIVE_OUT and the outputs only. -/
theorem only_settle (s : State) : Only [.ep, .coll, .out] [] s s.settleOutputs := by
  refine only_trans (only_mono (by simp) (by simp) (only_interruptA s)) ?_
  rcases s.interruptA.aliveUpdate_eq with h | h <;> unfold State.settleOutputs <;> rw [h]
  · exact only_refl ..
  · exact ⟨rfl, fun p hp => by cases p <;> first | rfl | simp at hp, fun _ _ => rfl⟩

/-- A fold of steps that each touch only some parts and keys touches only those. -/
theorem only_each {α : Type} {ps : List Part} {ks : List Nat} (l : List α) (f : State → α → State)
    (h : ∀ s, ∀ a ∈ l, Only ps ks s (f s a)) (s : State) : Only ps ks s (s.each l f) := by
  unfold State.each
  induction l generalizing s with
  | nil => exact only_refl ..
  | cons a t ih => exact only_trans (h s a (List.mem_cons_self ..)) (ih (fun s b hb => h s b (List.mem_cons_of_mem _ hb)) (f s a))

end Sys2Proof.Machine
end

