-- ==== Sys2Proof/Laws/Time.lean ====
section
/-! SUPPORT. What the operations of Invar can do: each touches the parts and the dictionary values listed, and no other. -/

namespace Sys2Proof.Machine

/-- Dictionary values that a change of TIME_STATE may touch. -/
def timeKeys : List Nat :=
  [key R.invar_TIME_STATE 0, key R.invar_HOLDOVER_SINCE 0, key R.invar_HOLD_CAUSE 0, key R.ering_EVENTS_DISCARDED 0, key R.src_LOST 0x12]

/-- Dictionary values that a change of the alignment may touch. -/
def alignKeys : List Nat :=
  [key R.sync_ALIGN_STATE 0, key R.sync_ALIGN_CHANGES 0, key R.sync_ALIGN_ERROR 0, key R.fsch_SCHED_STATE 0, key R.ering_EVENTS_DISCARDED 0,
   key R.src_LOST 0x12]

theorem only_retime (s : State) : Only [.ep, .out, .coll] timeKeys s s.retime := by
  unfold State.retime
  simp only
  have h1 : Only [.ep, .out, .coll] timeKeys s (s.wr R.invar_TIME_STATE 0 s.timeStateNow) :=
    only_fold (only_refl ..) (only_wr ..) (by simp) (by simp [timeKeys])
  split
  · exact only_fold (only_fold (only_fold h1 (only_wr ..) (by simp) (by simp [timeKeys])) (only_event ..) (by simp) (by simp [timeKeys]))
      (only_fault ..) (by simp) (by simp [timeKeys])
  · split
    · exact only_fold h1 (only_event ..) (by simp) (by simp [timeKeys])
    · exact h1

/-- A value that an operation cannot touch reads as before. -/
theorem only_rd {ps : List Part} {ks : List Nat} {s t : State} (h : Only ps ks s t) (r : Reg) (n : Nat) (hk : key r n ∉ ks := by decide) :
    t.rd r n = s.rd r n := h.2.2 _ hk

theorem retime_timeState (s : State) : s.retime.rd R.invar_TIME_STATE 0 = s.timeStateNow := by
  unfold State.retime
  simp only
  split
  · rw [only_rd (only_fault ..) R.invar_TIME_STATE 0, only_rd (only_event ..) R.invar_TIME_STATE 0, State.rd_wr_ne _ _ (by decide), State.rd_wr_same]
  · split
    · rw [only_rd (only_event ..) R.invar_TIME_STATE 0, State.rd_wr_same]
    · exact State.rd_wr_same ..

theorem retime_holdCause (s : State) : s.retime.rd R.invar_HOLD_CAUSE 0 = s.rd R.invar_HOLD_CAUSE 0 := by
  unfold State.retime
  simp only
  split
  · rw [only_rd (only_fault ..) R.invar_HOLD_CAUSE 0, only_rd (only_event ..) R.invar_HOLD_CAUSE 0, State.rd_wr_ne _ _ (by decide),
      State.rd_wr_ne _ _ (by decide)]
  · split
    · rw [only_rd (only_event ..) R.invar_HOLD_CAUSE 0, State.rd_wr_ne _ _ (by decide)]
    · exact State.rd_wr_ne _ _ (by decide)

theorem retime_since (s : State) (h : s.rd R.invar_TIME_STATE 0 ≠ 3) (h' : s.timeStateNow = 3) :
    s.retime.rd R.invar_HOLDOVER_SINCE 0 = s.slotNo := by
  unfold State.retime
  simp only
  rw [if_pos ⟨h, h'⟩, only_rd (only_fault ..) R.invar_HOLDOVER_SINCE 0, only_rd (only_event ..) R.invar_HOLDOVER_SINCE 0, State.rd_wr_same]

/-- A cause that is set shows in HOLD_CAUSE, and the time is in HOLDOVER. -/
theorem setCause_held (s : State) (i : Nat) :
    bit ((s.setCause i true).rd R.invar_HOLD_CAUSE 0) i = true ∧ (s.setCause i true).rd R.invar_TIME_STATE 0 = 3 ∧
    (s.rd R.invar_TIME_STATE 0 ≠ 3 → (s.setCause i true).rd R.invar_HOLDOVER_SINCE 0 = s.slotNo) := by
  unfold State.setCause
  have hb := bit_setBit (s.rd R.invar_HOLD_CAUSE 0) i true
  have h3 : (s.wr R.invar_HOLD_CAUSE 0 (setBit (s.rd R.invar_HOLD_CAUSE 0) i true)).timeStateNow = 3 := by
    unfold State.timeStateNow
    rw [State.rd_wr_same, if_pos (ne_zero_of_bit hb)]
  refine ⟨?_, ?_, fun h => ?_⟩
  · rw [retime_holdCause, State.rd_wr_same]; exact hb
  · rw [retime_timeState]; exact h3
  · rw [retime_since _ (by rw [State.rd_wr_ne _ _ (by decide)]; exact h) h3]; rfl

theorem setCause_bit (s : State) (i : Nat) (b : Bool) : bit ((s.setCause i b).rd R.invar_HOLD_CAUSE 0) i = b := by
  unfold State.setCause
  rw [retime_holdCause, State.rd_wr_same]
  exact bit_setBit ..

theorem only_setCause (s : State) (i : Nat) (b : Bool) : Only [.ep, .out, .coll] timeKeys s (s.setCause i b) :=
  only_fold (only_fold (only_refl ..) (only_wr ..) (by simp) (by simp [timeKeys])) (only_retime _) (by simp) (by simp)

theorem only_setAlign (s : State) (new : Nat) : Only [.ep, .out, .coll, .time] alignKeys s (s.setAlign new) := by
  unfold State.setAlign State.reSched
  simp only
  have h1 : Only [.ep, .out, .coll, .time] alignKeys s ((s.wr R.sync_ALIGN_STATE 0 new).bump32 R.sync_ALIGN_CHANGES 0) :=
    only_fold (only_fold (only_refl ..) (only_wr ..) (by simp) (by simp [alignKeys])) (only_bump32 ..) (by simp) (by simp [alignKeys])
  refine only_fold ?_ (only_wr ..) (by simp) (by simp [alignKeys])
  split
  · refine only_fold ?_ (only_fault ..) (by simp) (by simp [alignKeys])
    split
    · exact h1
    · exact only_fold h1 (only_event ..) (by simp) (by simp [alignKeys])
  · split
    · exact h1
    · exact only_fold h1 (only_event ..) (by simp) (by simp [alignKeys])

theorem only_judgeAlign (s : State) (ps : Int) : Only [.ep, .out, .coll, .time] alignKeys s (s.judgeAlign ps) := by
  unfold State.judgeAlign State.wrI
  simp only
  have h1 (x : TimeSt) : Only [.ep, .out, .coll, .time] alignKeys s { s.wr R.sync_ALIGN_ERROR 0 (toWord 32 ps) with time := x } :=
    only_fold (only_fold (only_refl ..) (only_wr ..) (by simp) (by simp [alignKeys])) (only_time ..) (by simp) (by simp)
  exact only_ite (fun _ => only_trans (h1 _) (only_setAlign ..)) fun _ => only_ite (fun _ => only_trans (h1 _) (only_setAlign ..)) fun _ =>
    only_ite (fun _ => only_trans (h1 _) (only_setAlign ..)) fun _ => only_ite (fun _ => only_trans (h1 _) (only_setAlign ..)) fun _ => h1 _

theorem only_divFree (s : State) (a : Int) (b : Nat) : Only [.freeIx] [] s (s.divFree a b).2 := by
  unfold State.divFree
  split
  · exact only_refl ..
  · exact only_free s 1

theorem only_stepFor (s : State) (ps : Int) : Only [.freeIx] [] s (s.stepFor ps).2 := by
  unfold State.stepFor
  simp only
  split
  · exact only_refl ..
  · split
    · exact only_refl ..
    · exact only_free s 1

end Sys2Proof.Machine
end

