-- ==== Sys2Proof/Tests/Slice0.lean ====
section
/-! SUPPORT. Tests of the model on small states, and for every statement states that meet its hypotheses. -/

namespace Sys2Proof.Tests

open Sys2Proof.Machine

set_option Elab.async false

/-- A powered device whose slots run: every domain on, firmware served, both functions reachable, slot 100. -/
def live : State :=
  let s := State.reset.each (List.range 29) (fun t d => t.wr R.dom_DOMAIN_STATE d 1)
  let s := ((s.wr R.svc_SERVICE_STATE 0 1).wr R.invar_RATE 0 rateNominal).wr R.prst_HALT_CAUSE 0 0
  { s with clk := { s.clk with running := true, count := 8000, slot := 100, slotCount := 8000, ticks := 1000000000 }
           ep := { s.ep with linkUp := true, accepting := true, conf0 := { s.ep.conf0 with busMaster := true } }
           pwr := { s.pwr with bootDue := false } }

/-- PF0's principal, on its own route. -/
def host : Accessor := ⟨0, 0⟩

/-- The state a command answers, when it answers one. -/
def after (i : Instr) (s : State) : Option State := match exec i s with
  | .next t => some t
  | _ => none

/-! ## Invar -/

/-- Link 5 RUNNING and ALIGNING, with no exchange. -/
def tsyncLive : State := (live.wr R.link_STATE 5 3).wr R.link_LINK_STATE 5 3
/-- Link 5 with exchange 0 open, its RX_STAMP received. -/
def tsyncHalf : State := { tsyncLive with time := { tsyncLive.time with exch := [(80, ⟨6400, some 6742, 1000000000⟩)] } }
/-- Link 5 UP and the active sync link of a device under FABRIC. -/
def tsyncActive : State := ((tsyncHalf.wr R.link_LINK_STATE 5 7).wr R.sync_SYNC_LINK0 0 5).wr R.invar_SYNC_SOURCE 0 1

theorem test_TsyncExchange_send : tsyncLive.tsyncOpen 5 = true ∧
    tsyncLive.past (mget 0 tsyncLive.time.reqSent 5) (ticksUs (tsyncLive.rd R.sync_TSYNC_INTERVAL 0)) = true := by decide +kernel
theorem test_TsyncExchange_stamps : tsyncHalf.tsyncOpen 5 = true ∧
    mfind tsyncHalf.time.exch (5 * 16 + 0) = some ⟨6400, some 6742, 1000000000⟩ ∧ tsyncHalf.past 1000000000 (ticksUs 4 + 1) = false ∧
    ¬(tsyncHalf.rd R.link_LINK_STATE 5 = 7 ∧ 5 = tsyncHalf.activeSync) := by decide +kernel
theorem test_TsyncExchange_active : tsyncActive.tsyncOpen 5 = true ∧ tsyncActive.rd R.link_LINK_STATE 5 = 7 ∧ 5 = tsyncActive.activeSync ∧
    tsyncActive.rd R.invar_SYNC_SOURCE 0 = 1 := by decide +kernel
theorem test_TsyncExchange_late : mfind tsyncHalf.time.exch (5 * 16 + 0) = some ⟨6400, some 6742, 1000000000⟩ ∧
    ({ tsyncHalf with clk := { tsyncHalf.clk with ticks := 1000005001 } } : State).past 1000000000 (ticksUs 4 + 1) = true ∧
    tsyncHalf.past 1000000000 (ticksUs 4 + 1) = false := by decide +kernel

/-- A device under HOST whose servo has claimed lock and applied nothing since power-on. -/
def servoStale : State := { live.wr R.invar_SERVO_LOCKED 0 1 with clk := { live.clk with ticks := 10 ^ 12 } }
/-- A device under FABRIC with no sync link. -/
def syncGone : State := live.wr R.invar_SYNC_SOURCE 0 1
/-- A time PLL that relocks to a healthy reference. -/
def relocking : State :=
  { ((live.wr R.refm_REF_STATE 0 0).wr R.invar_TIME_REF_IN_USE 0 0).wr R.invar_HOLD_CAUSE 0 1 with time := { live.time with pllRelocking := true } }

theorem test_HoldoverCauses_servo : servoStale.rd R.invar_SYNC_SOURCE 0 = 0 ∧ servoStale.on R.invar_SERVO_LOCKED 0 = true ∧
    bit (servoStale.rd R.invar_HOLD_CAUSE 0) 1 = false ∧
    servoStale.past servoStale.time.lastChange (ticksMs (servoStale.rd R.invar_SERVO_TIMEOUT 0)) = true := by decide +kernel
theorem test_HoldoverCauses_sync : syncGone.rd R.invar_SYNC_SOURCE 0 = 1 ∧ bit (syncGone.rd R.invar_HOLD_CAUSE 0) 2 = false ∧
    syncGone.activeSync = 0xFFFF := by decide +kernel
theorem test_HoldoverCauses_relock : relocking.time.pllRelocking = true ∧
    relocking.refHealthy (relocking.rd R.invar_TIME_REF_IN_USE 0) = true := by decide +kernel
theorem test_AlignHoldExpires : let s := (live.wr R.invar_HOLD_CAUSE 0 4).wr R.invar_SYNC_SOURCE 0 1
    bit (s.rd R.invar_HOLD_CAUSE 0) 2 = true ∧ s.rd R.sync_ALIGN_STATE 0 ≠ 2 ∧ s.isRoot = false ∧
    s.past s.time.syncCauseSince (ticksMs (s.rd R.sync_ALIGN_HOLD 0)) = true ∧
    s.past s.clk.ticks (ticksMs (s.rd R.sync_ALIGN_HOLD 0)) = false := by decide +kernel

/-- Reference 1 HEALTHY and in use, 2 failed, 3 the standby with a switch pending at an epoch boundary. -/
def refsLive : State :=
  let s := (((live.wr R.refm_REF_STATE 1 0).wr R.invar_TIME_REF_IN_USE 0 1).wr R.refm_REF_STATE 2 2).wr R.refm_REF_STATE 3 0
  { s.wr R.invar_TIME_REF_STANDBY 0 3 with clk := { s.clk with epochAt := true }, time := { s.time with pllPending := true } }

theorem test_ReferenceLossAndSwitch_loss : refsLive.rd R.refm_REF_STATE 1 ≠ 2 ∧ refsLive.rd R.refm_REF_STATE 2 = 2 ∧
    refsLive.rd R.invar_TIME_REF_IN_USE 0 = 1 := by decide +kernel
theorem test_ReferenceLossAndSwitch_switch : refsLive.time.pllPending = true ∧ refsLive.atEpoch = true ∧
    refsLive.refHealthy refsLive.timeStandby = true ∧ (refsLive.wr R.refm_REF_STATE 3 1).refHealthy refsLive.timeStandby = false ∧
    live.time.pllPending = false := by decide +kernel

theorem test_PulsePerSecond_in : (live.wr R.tsvc_PPS_IN_EN 0 1).on R.tsvc_PPS_IN_EN 0 = true ∧ live.on R.tsvc_PPS_IN_EN 0 = false := by
  decide +kernel
theorem test_PulsePerSecond_out :
    let s := ((live.wr R.tsvc_PPS_OUT_EN 0 1).wr R.invar_TIME_STATE 0 1).wrI R.tsvc_PPS_OUT_OFFSET 0 6400
    s.on R.tsvc_PPS_OUT_EN 0 = true ∧ s.rd R.invar_TIME_STATE 0 ≠ 0 ∧ s.time.ppsOut = false ∧ s.ppsTarget / 64 = (s.clk.slot : Int) ∧
    s.past s.time.ppsRise (ticksNs (s.rd R.tsvc_PPS_OUT_WIDTH 0)) = true := by decide +kernel

theorem test_HoldoverCauses_else : live.time.pllRelocking = false ∧ bit (live.rd R.invar_HOLD_CAUSE 0) 2 = false ∧
    ((live.wr R.invar_SYNC_SOURCE 0 1).rd R.invar_SYNC_SOURCE 0 ≠ 0) ∧ ((live.wr R.invar_SYNC_SOURCE 0 0).rd R.invar_SYNC_SOURCE 0 ≠ 1) := by
  decide +kernel

/-! ## Boundaries -/

/-- Slots run with a staged VOQ weight and a commit armed for the next boundary. -/
def armedLive : State :=
  { live with acc := { live.acc with staged := [(key R.srcw_WEIGHT 7, 5)], armed := some ⟨2 ^ 6, none⟩ } }
/-- A change armed for a count that the next boundary reaches. -/
def changeLive : State := { live with clk := { live.clk with change := some ⟨rateNominal, 64, 0, 8010⟩ } }

theorem test_SlotBoundaryOrder : live.clk.running = true ∧ live.endSlot.clk.running = true ∧ live.endSlot.snapshot.clk.change = none ∧
    State.reset.clk.running = false := by decide +kernel
theorem test_LaterWriteWins :
    lastWrites [⟨0, key R.tsvc_PPS_IN_EN 0, 1, []⟩, ⟨0, key R.commit_TRIGGER 0, 1, []⟩, ⟨1, key R.tsvc_PPS_IN_EN 0, 0, []⟩]
      = [⟨0, key R.commit_TRIGGER 0, 1, []⟩, ⟨1, key R.tsvc_PPS_IN_EN 0, 0, []⟩] := by decide +kernel
theorem test_CommitAtItsBoundary : armedLive.clk.running = true ∧ armedLive.atNext.acc.armed = some ⟨2 ^ 6, none⟩ ∧
    commitConflict { armedLive with acc := { armedLive.acc with armed := none } } (2 ^ 6) true = none ∧
    ({ armedLive with acc := { armedLive.acc with armed := none } } : State).advances (2 ^ 6) = false ∧
    msorted armedLive.acc.staged = true ∧ (∀ e ∈ armedLive.acc.staged, keyIndex e.1 = 0x1010 → inScope (2 ^ 6) e.1 = false) ∧
    live.acc.armed = none := by decide +kernel
theorem test_TimeChangeAtItsBoundary : changeLive.clk.running = true ∧ changeLive.clk.change = some ⟨rateNominal, 64, 0, 8010⟩ ∧
    changeLive.atNext.clk.change = none ∧ (⟨rateNominal, 64, 0, 8010⟩ : TimeChange).due changeLive (changeLive.nextCount % 2 ^ 64) = true ∧
    live.clk.change = none := by decide +kernel
theorem test_EpochBoundaryActions : ({ live with clk := { live.clk with epochDue := true } } : State).clk.epochDue = true ∧
    live.clk.epochDue = false := by decide +kernel
theorem test_CommitAtItsBoundary_conflict : ∃ k,
    commitConflict { live with acc := { live.acc with staged := [(key R.qprof_FILL_LEVEL 1, 60000)] } } (2 ^ 5) true = some k :=
  ⟨key R.qprof_FILL_LEVEL 1, by decide +kernel⟩
theorem test_CommitAtItsBoundary_later : ∃ w, (⟨1, some (10 ^ 12)⟩ : Armed).at? = some w ∧ live.now < w := ⟨10 ^ 12, rfl, by decide +kernel⟩
theorem test_Boundary_runs_on : armedLive.endSlot.clk.running = true ∧ changeLive.endSlot.clk.running = true ∧
    ¬(live.clk.running = false) ∧ live.acc.armed = none := by decide +kernel
/-- The next generation staged: its commit advances. -/
theorem test_CommitAtItsBoundary_advances :
    let l := ((live.wr R.gen_CURRENT 0 8).wr R.gen_NEXT 0 8).wr R.gen_GEN_STATE 0 1
    let s : State := { l with acc := { l.acc with staged := [(key R.gen_NEXT 0, 9)], armed := some ⟨1022, some 0⟩ } }
    ({ s with acc := { s.acc with armed := none } } : State).advances 1022 = true ∧
    commitConflict { s with acc := { s.acc with armed := none } } 1022 false = none := by decide +kernel

/-! ## Fabric scheduling -/

/-- A packet of one cell in the store, bound for a fabric port address. -/
def smallPkt (dest : Nat) : Pkt :=
  { frame := List.replicate 64 0, words := [], tc := 1, gen := 0, hash := 0, dest, launch := none, bad := false, tailIn := true
    rate := 0, cells := 1, pool := 5, inPt := none, tenant := none, refs := [1], links := 1, source := 0, direct := false, punt := none
    hops := 0, fid := 0, mark := false, recircs := 0, born := 1, marked := [] }

/-- Link 5 UP, on the route to device 9; a packet for its port 3 heads the VOQ of that port and TC 1. -/
def fabLive : State :=
  let s := (((live.wr R.link_STATE 5 3).wr R.link_LINK_STATE 5 7).wr R.rt_MEMBER0 9 (2 ^ 31 + 2 ^ 26 + 5 * 2 ^ 16)).wr R.gen_GEN_STATE 0 1
  { s with sto := { s.sto with
      pkts := [(1, smallPkt (9 * 1024 + 3))]
      queues := [(voqKey (9 * 8192 + 3 * 8 + 1), { Queue.empty with ents := [⟨1, 0, 1, false, 0, false, 0, 9 * 1024 + 3, []⟩], head := [0] })] } }

/-- The same with a scheduler message from device 9 that falls due at the next boundary. -/
def fabMsg (w : Nat) : State := { fabLive with fab := { fabLive.fab with msgs := [⟨9, w, 101⟩] } }

/-- The same with a grant of 4 cells toward egress queue 25 outstanding, due in a slot. -/
def fabOut (due : Nat) (acc : Option Nat) : State := { fabLive with fab := { fabLive.fab with outs := [⟨7, 9, 25, 4, 1, due, acc, 0, false⟩] } }

/-- The same with a standing grant held. -/
def fabStand : State := { fabLive with fab := { fabLive.fab with standSrc := [⟨9, 3, 1, 100, 8, 16, 0, 90, 10⟩] } }

theorem test_RequestJoinsPending : fabLive.clk.running = true ∧ (fabMsg (requestWord 3 1 4 false 101)).clk.running = true ∧
    (fabMsg (requestWord 3 1 4 false 101)).atNext.dueMsgs 1 ≠ [] ∧ fabLive.atNext.dueMsgs 1 = [] ∧
    msgPort (requestWord 3 1 4 false 101) < 768 ∧ bits (requestWord 3 1 4 false 101) 46 43 ≠ 0 ∧ fabLive.reqCount < 262144 ∧
    (fabLive.actRequest 9 (requestWord 3 1 4 false 101)).reqs 25 = [⟨9, 8, 0, 0, 0, true⟩] := by decide +kernel
/-- A request table of n entries of queue 0. -/
def fabReqs (n : Nat) : State := { fabLive with fab := { fabLive.fab with requests := [(0, List.replicate n ⟨8, 1, 0, 0, 0, true⟩)] } }

theorem fabReqs_count (n : Nat) : (fabReqs n).reqCount = n := by
  simp [State.reqCount, fabReqs, ReqEnt.pending]

theorem test_RequestJoinsPending_full : ((fabReqs 262144).reqs 25).any (fun e => e.src == 9 && e.pending != 0) = false ∧
    262144 ≤ (fabReqs 262144).reqCount := ⟨rfl, Nat.le_of_eq (fabReqs_count _).symm⟩

theorem test_AcceptOrDecline : (fabMsg (acceptWord 3 1 1 4 7 101)).atNext.dueMsgs 3 ≠ [] ∧ fabLive.atNext.dueMsgs 3 = [] ∧
    (fabOut 90 none).fab.outs.find? (fun o => o.src == 9 && o.id == bits (acceptWord 3 1 1 4 7 101) 36 25 && o.q == 25)
      = some ⟨7, 9, 25, 4, 1, 90, none, 0, false⟩ ∧ bits (acceptWord 3 1 1 4 7 101) 44 37 ≠ 0 ∧ bits (acceptWord 3 1 1 0 7 101) 44 37 = 0 := by
  decide +kernel
theorem test_GrantAtTheSource : (fabMsg (grantWord 3 1 1 4 7 101)).atNext.dueMsgs 2 ≠ [] ∧ fabLive.atNext.dueMsgs 2 = [] ∧
    fabLive.grantedVoq 9 (msgPort (grantWord 3 1 1 4 7 101)) (msgTc (grantWord 3 1 1 4 7 101)) = some (9 * 8192 + 25) ∧
    fabLive.rd R.gen_GEN_STATE 0 ≠ 0 ∧ live.rd R.gen_GEN_STATE 0 = 0 := by decide +kernel
theorem test_GrantAtTheSource_accept : let v := 9 * 8192 + 25
    let s0 := fabLive.setVoq v { fabLive.voq v with granted := fabLive.slotNo }
    s0.voqOpen v = true ∧ (coverPkts 4 (s0.nearAhead v) none (s0.voqPkts v) 0).1 ≠ 0 ∧ (match s0.voqPkts v with
      | (_, k) :: _ => s0.fits k true
      | [] => false) = true ∧ (∀ h ∈ fabLive.fab.held, h.voq ≠ v) := by decide +kernel
theorem test_GrantAtTheSource_decline : let v := 9 * 8192 + 25
    ((fabLive.wr R.reach_DEST_STATE 9 1).setVoq v ⟨0, 0, false, 0⟩).voqOpen v = false := by decide +kernel
theorem test_StandingAtTheSource : (fabMsg (standingWord 3 1 3 8 16)).atNext.dueMsgs 4 ≠ [] ∧ fabLive.atNext.dueMsgs 4 = [] ∧
    bits (standingWord 3 1 3 0 16) 42 35 = 0 ∧ bits (standingWord 3 1 3 8 16) 42 35 ≠ 0 ∧ fabLive.reachable 9 = true ∧
    fabLive.fab.standSrc.find? (fun x => x.is 9 3 1) = none ∧ (fabLive.wr R.reach_DEST_STATE 9 1).reachable 9 = false ∧
    fabStand.fab.standSrc.find? (fun x => x.is 9 3 1) = some ⟨9, 3, 1, 100, 8, 16, 0, 90, 10⟩ ∧
    codeRate (bits (standingWord 3 1 3 8 16) 46 43) = 100 ∧ codeRate (bits (standingWord 3 1 2 8 16) 46 43) = 50 := by decide +kernel
theorem test_GrantsFallDue : (fabOut 80 none).atNext.unanswered ≠ [] ∧ (fabOut 80 none).unanswered = [⟨7, 9, 25, 4, 1, 80, none, 0, false⟩] ∧
    (fabOut 40 (some 4)).atNext.overdue ≠ [] ∧ (fabOut 40 (some 4)).overdue = [⟨7, 9, 25, 4, 1, 40, some 4, 0, false⟩] ∧
    (∃ h ∈ ({ fabLive with fab := { fabLive.fab with held := [⟨3, 97, 1⟩] } } : State).atNext.fab.held,
      h.due + 3 ≤ fabLive.atNext.slotNo) ∧ fabLive.unreachable (fabLive.voqDest (9 * 8192 + 25)) = 0 ∧
    fabLive.reachable (fabLive.voqDest (9 * 8192 + 25)) = true ∧ fabLive.unreachable (fabLive.voqDest 3) ≠ 0 := by decide +kernel
theorem test_StandingOverTime : (∃ x ∈ fabStand.atNext.fab.standSrc, x.is 9 3 1 = true ∧ x.next ≤ fabStand.atNext.slotNo) ∧
    (fabStand.setVoq 3 ⟨4, 0, false, 0⟩).voq 3 = ⟨4, 0, false, 0⟩ ∧
    (0 + fabStand.rd R.fsch_REQ_STALE 0 ≤ 5000 ∧ (fabLive.voq 3).rq = 0) := by decide +kernel
theorem test_ReachStates : fabLive.coreOn = true ∧ State.reset.coreOn = false ∧ fabLive.unreachable 9 = 0 ∧ fabLive.unreachable 8 ≠ 0 ∧ fabLive.rd R.reach_DEST_STATE 8 = 0 := by decide +kernel
theorem test_ReachStates_lost : let s := fabLive.wr R.reach_DEST_STATE 8 1
    let t : State := { s with clk := { s.clk with slot := 10 ^ 9 } }
    t.rd R.reach_DEST_STATE 8 = 1 ∧ t.rd R.fsch_HOLD_TIME 0 * 1000 ≤ (t.slotNo - t.rd R.reach_HOLD_SINCE 8) * 64 ∧
    (t.wr R.reach_DEST_STATE 8 2).voqsTo 8 = [] ∧ (s.slotNo - s.rd R.reach_HOLD_SINCE 8) * 64 < s.rd R.fsch_HOLD_TIME 0 * 1000 := by
  decide +kernel
theorem test_Sched_boundary : (fabMsg (requestWord 3 1 4 false 101)).endSlot.clk.running = true ∧
    (fabMsg (requestWord 3 1 4 false 101)).atNext.dueMsgs 1 = [⟨9, requestWord 3 1 4 false 101, 101⟩] ∧
    (fabMsg (acceptWord 3 1 1 4 7 101)).atNext.dueMsgs 3 = [⟨9, acceptWord 3 1 1 4 7 101, 101⟩] ∧
    (fabMsg (standingWord 3 1 3 8 16)).atNext.dueMsgs 4 = [⟨9, standingWord 3 1 3 8 16, 101⟩] ∧
    fabLive.grantedVoq 200 3 1 = none ∧ bits (requestWord 3 1 0 false 101) 46 43 = 0 := by decide +kernel
theorem test_GrantsFallDue_window :
    let s : State := { fabLive with fab := { fabLive.fab with msgs := [⟨9, grantWord 3 1 1 4 7 90, 90⟩] } }
    ∃ m ∈ s.atNext.dueMsgs 2, m.due + 3 < s.atNext.slotNo := by decide +kernel

/-! ## Writes -/

/-- The write of a register's value passes every check. -/
def passes (s : State) (r : Reg) (n v : Nat) : Bool :=
  s.checkWrite (s.overlay (key r n) v) host (key r n) (typeLen (key r n)) v == daOk

/-- A device in which every trigger may be written: references 1 and 3 HEALTHY, a reaction pending, Pewter A ACTIVE and B STANDBY, group 0
STOPPED, chiplet 0 and port 0 RUNNING, link 5 with a neighbour to be assigned, a generation to retire. -/
def trigLive : State := ({ refsLive with coll := { refsLive.coll with countdown := [(0, 5)] } }).each
  [(R.src_REACT_STATE, 0, 1), (R.src_FORCE_KIND, 0x12, 0x1D), (R.pewter_STATE, 0, 3), (R.pewter_STATE, 1, 2), (R.grp_STATE, 0, 1),
   (R.chip_STATE, 0, 3), (R.port_STATE, 0, 3), (R.lane_OWNER, 0, portOwner 0), (R.link_LINK_STATE, 5, 4), (R.gen_PREV_STATE, 0, 1),
   (R.gen_CURRENT, 0, 7), (R.commit_COMMIT_AT, 0, 2 ^ 80), (R.chip_REF_STANDBY, 0, 3), (R.chip_REF_IN_USE, 0, 1), (R.link_STATE, 5, 1),
   (R.link_ASSIGN_ID, 5, 9), (R.idn_VALID, 9, 1)]
  (fun t e => t.wr e.1 e.2.1 e.2.2)

theorem test_TriggersWait_functions : trigLive.clk.running = true ∧ host.ok = true ∧
    passes trigLive R.port_REQUEST 0 1 = true ∧ passes trigLive R.port_REQUEST 0 2 = true ∧ passes trigLive R.grp_REQUEST 0 3 = true ∧
    passes trigLive R.ring_ENABLE 3 1 = true ∧ passes trigLive R.ering_ENABLE 2 0 = true ∧ passes trigLive R.ring_ENABLE 3 2 = true := by
  decide +kernel
theorem test_TriggersWait_time_faults : passes trigLive R.invar_TIME_SWITCH_NOW 0 1 = true ∧ passes trigLive R.coll_PAIR_TEST 0 3 = true ∧
    passes trigLive R.src_ACK 0 0 = true ∧ passes trigLive R.src_FORCE 0x12 1 = true ∧ passes trigLive R.pewter_RESTART 1 1 = true ∧
    passes trigLive R.pewter_SWITCHOVER 1 1 = true ∧ passes trigLive R.dom_POWER_REQUEST 3 1 = true ∧
    passes trigLive R.dom_POWER_REQUEST 21 2 = true ∧ passes trigLive R.prst_DEVICE_RESET 0 1 = true := by decide +kernel
theorem test_TriggersWait_flash_tables : passes trigLive R.flash_CMD 0 1 = true ∧ passes trigLive R.flash_CMD 0 2 = true ∧
    passes trigLive R.flash_CMD 0 3 = true ∧ passes trigLive R.retire_CLEAR 2 1 = true ∧ passes trigLive R.img_LOAD 0 1 = true ∧
    passes trigLive R.chip_SWITCH_NOW 0 1 = true ∧ passes trigLive R.tmnt_LOCK 4 1 = true ∧ passes trigLive R.board_LOAD 0 1 = true := by
  decide +kernel
theorem test_TriggersWait_lanes_fabric : passes trigLive R.lane_RETRAIN 0 1 = true ∧ passes trigLive R.ltest_INJECT 0 9 = true ∧
    passes trigLive R.ltest_CLEAR 0 1 = true ∧ passes trigLive R.fec_CLEAR 0 1 = true ∧ passes trigLive R.pcnt_CLEAR 0 1 = true ∧
    passes trigLive R.link_ASSIGN 5 1 = true ∧ passes trigLive R.fab_FENCE 0 1 = true ∧
    Accepted trigLive host (key R.link_PROXY_REQUEST 5) 3 (domOf [1, 2, 3]) := by
  refine ⟨?_, ?_, ?_, ?_, ?_, ?_, ?_, ?_⟩ <;> first | (unfold Accepted; decide +kernel) | decide +kernel
theorem test_TriggersWait_rest : passes trigLive R.idn_VALID 9 1 = true ∧ passes trigLive R.idn_SERIAL 9 77 = true ∧
    passes trigLive R.idn_INCARNATION 9 1 = true ∧ passes trigLive R.gen_RETIRE 0 6 = true ∧ passes live R.gen_ADOPT 0 9 = true ∧
    passes trigLive R.dump_TRIGGER 3 1 = true ∧ passes trigLive R.gtel_TRACE_SEED 1 5 = true := by decide +kernel
theorem test_RegisterWrite_codes :
    (Instr.registerWrite host 0x7028 0 (key R.tsvc_PPS_IN_EN 0 % 256) 1 1).wf = true ∧ passes live R.tsvc_PPS_IN_EN 0 1 = true ∧
    passes live R.srcw_WEIGHT 7 5 = true ∧ passes (live.wr R.port_STATE 4 1) R.port_FEC_MODE 4 1 = true ∧
    ((live.wr R.port_STATE 4 1).stpOwner (key R.port_FEC_MODE 4)).isSome = true ∧ actsNow (key R.tsvc_PPS_IN_EN 0) = false := by decide +kernel
theorem test_RefusedWrite : (Instr.registerWrite host 0x7028 0 1 1 9).wf = true ∧
    live.checkWrite (live.overlay (keyOf 0x7028 0 1) 9) host (keyOf 0x7028 0 1) 1 9 ≠ daOk := by decide +kernel
theorem test_WriteChecks_order : live.checkTo10 ⟨40, 0⟩ (keyOf 0 0 1) 1 1 = daPrincipal ∧
    live.checkTo10 host (keyOf 0x0FFF 0 1) 1 1 = daNoObject ∧ live.checkTo10 host (keyOf 0x7028 0 0xFF) 1 1 = daNoSub ∧
    live.checkTo10 host (key R.ident_PART_CODE 0) 16 1 = daAccess ∧ live.checkTo10 host (key R.tsvc_PPS_IN_EN 0) 2 1 = daLength ∧
    live.checkTo10 host (key R.tsvc_PPS_IN_EN 0) 1 2 = daRange ∧ live.checkTo10 host (key R.tsvc_PPS_IN_EN 0) 1 1 = daOk ∧
    (live.wr R.dom_DOMAIN_STATE 4 0).checkTo10 host (key R.tsvc_PPS_IN_EN 0) 1 1 = daBusy := by decide +kernel
theorem test_WriteRequest : ∃ st ∈ (live.writeAll host [⟨key R.tsvc_PPS_IN_EN 0, 1, 1⟩, ⟨key R.tsvc_PPS_IN_EN 0, 1, 7⟩]).1, st ≠ daOk :=
  ⟨daRange, by decide +kernel, by decide⟩
theorem test_CommitAndTime : passes trigLive R.commit_TRIGGER 0 1 = true ∧ passes trigLive R.commit_TRIGGER 0 2 = true ∧
    passes trigLive R.commit_TRIGGER 0 3 = true ∧ passes trigLive R.commit_TRIGGER 0 4 = true ∧ trigLive.acc.armed = none ∧
    passes armedLive R.commit_TRIGGER 0 3 = true ∧ armedLive.acc.armed.isSome = true ∧ passes live R.tchg_ARM 0 1 = true ∧
    passes changeLive R.tchg_ARM 0 2 = true ∧ changeLive.clk.change.isSome = true ∧ passes live R.tchg_ARM 0 2 = true ∧
    live.clk.change = none := by decide +kernel

theorem test_Discard_while_armed : passes { armedLive with acc := { armedLive.acc with armed := none } } R.commit_TRIGGER 0 4 = true ∧
    (match exec (.discard host) armedLive with
      | .next t => t.acc.lastStatus == daState
      | _ => false) = true := by decide +kernel
theorem test_RegisterWrite_unowned : live.stpOwner (key R.lane_TX_OVERRIDE 5) = none ∧ passes live R.lane_TX_OVERRIDE 5 0 = true ∧
    ((live.wr R.port_STATE 0 1).stpOwner (key R.port_PORT_MODE 0)).isSome = true ∧
    passes (live.wr R.port_STATE 0 1) R.port_PORT_MODE 0 3 = true := by decide +kernel

/-! ## Functions -/

/-- The carve RUNNING; tenant 2 STOPPED with nothing written, tenant 3 RUNNING, tenant 4 FAULTED, port 4 OFF, table 4 STOPPED. -/
def fnLive : State := live.each
  [(R.store_STATE, 0, 3), (R.tenant_STATE, 2, 1), (R.tenant_STATE, 3, 3), (R.tenant_STATE, 4, 5), (R.tbl_STATE, 4, 1), (R.port_STATE, 9, 2),
   (R.port_LINK_STATE, 9, 3), (R.tenant_STATE, 6, 4), (R.chip_STATE, 2, 3), (R.d2d_LINK_STATE, 2, 1)]
  (fun t e => t.wr e.1 e.2.1 e.2.2)

theorem test_RequestsMoveFunctions : fnLive.fnState .tenant 2 = stStopped ∧ fnLive.fnState .tenant 3 = stRunning ∧
    fnLive.fnState .tenant 4 = stFaulted ∧ fnDomain .tenant 4 = none ∧ fnDomain .port 4 = none ∧
    fnLive.startNeeds .tenant 2 = true ∧ fnLive.startOk .tenant 2 = true ∧ fnLive.fns.powering.contains (fnKey .tenant 2) = false ∧
    (fnLive.takeStp .tenant 2).fnState .tenant 2 = stStopped ∧ msorted fnLive.acc.stp = true ∧ fnLive.fnState .port 4 = stOff ∧
    fnLive.acc.kept.all (fun e => keyIndex e.1 != 0x2040) = true := by decide +kernel
theorem test_RequestsMoveFunctions_start :
    let s : State := { fnLive with acc := { fnLive.acc with stp := [(key R.port_PORT_MODE 11, 3)] } }
    let t := (s.wr R.port_STATE 11 1).wr R.chip_STATE 0 3
    t.fnState .port 11 = stStopped ∧ t.startNeeds .port 11 = true ∧ t.stpOwner (key R.port_PORT_MODE 11) = some (.port, 11) := by
  decide +kernel
theorem test_FunctionsComplete : fnLive.fnState .port 9 = stStarting ∧ fnLive.rd R.port_LINK_STATE 9 = 3 ∧
    fnLive.fnState .tenant 6 = stStopping ∧ fnLive.drained .tenant 6 = true ∧ fnLive.activeMembers .tenant 6 = [] ∧
    fnLive.past (mget 0 fnLive.fns.stopTick (fnKey .tenant 6) - 1) (ticksMs 100) = true ∧
    ({ fnLive with fns := { fnLive.fns with powering := [fnKey .table 4] } } : State).fns.powering.contains (fnKey .table 4) = true ∧
    fnLive.rd R.d2d_LINK_STATE 2 = 1 ∧ fnLive.fnState .chiplet 2 = stRunning ∧ (fnLive.d2d 2).failed + 1 < 3 := by decide +kernel
theorem test_FunctionsComplete_more : (live.wr R.store_STATE 0 4).fnState .carve 0 = stStopping ∧
    (live.wr R.store_STATE 0 4).drained .carve 0 = true ∧ 3 ≤ ((fnLive.setD2d 2 { D2d.idle with failed := 2 }).d2d 2).failed + 1 := by
  decide +kernel
/-- A chiplet and a port of it, both past their 100 ms in STOPPING, and a link of it that still runs. -/
theorem test_FunctionsComplete_members :
    let s := ((fnLive.wr R.chip_STATE 2 4).wr R.port_STATE 200 4).wr R.link_STATE 201 3
    s.fnState .chiplet 2 = stStopping ∧ s.past (mget 0 s.fns.stopTick (fnKey .chiplet 2) - 1) (ticksMs 100) = true ∧
    s.activeMembers .chiplet 2 = [(.port, 200), (.link, 201)] ∧ s.fnState .port 200 = stStopping ∧ s.drained .chiplet 2 = false ∧
    s.past (mget 0 s.fns.stopTick (fnKey .port 200) - 1) (ticksMs 100) = true ∧ s.fnState .link 201 ≠ stStopping := by decide +kernel
theorem test_FunctionsComplete_waits : (fnLive.wr R.port_LINK_STATE 9 1).fnState .port 9 = stStarting ∧
    (fnLive.wr R.port_LINK_STATE 9 1).rd R.port_LINK_STATE 9 ≠ 3 ∧ fnLive.rd R.d2d_LINK_STATE 3 ≠ 1 := by decide +kernel

/-! ## The host endpoint -/

/-- Transmit ring 7 of PF0, RUNNING with one read outstanding and a fetch under way; receive ring 8 armed with completions waiting. -/
def ringLive : State :=
  let s := (((live.wr R.ring_RING_STATE 7 1).wr R.ring_TX_MODE 7 0).wr R.ring_RING_STATE 8 1).wr R.ring_DIRECTION 8 1
  let s := ((s.setRing 7 { RingSt.idle with prod := 4, fetching := true }).setRing 8
    { RingSt.idle with prod := 4, armed := true, waiting := true, buf := some ⟨2, 64, 1, 0⟩ })
  { s with ep := { s.ep with reads := [⟨0, 7, 1000⟩], conf0 := { s.ep.conf0 with busMaster := true } } }

/-- One descriptor of a packet of 64 octets: SOP, EOP, to port 3. -/
def txDesc (flags : Nat) : List Nat := [0x1000, 64 * 2 ^ 50 + flags * 2 ^ 48 + 3 * 2 ^ 34, 0, 0]

theorem test_Doorbells_ring : ringLive.rd R.ring_FUNCTION 8 = 0 ∧ ringLive.rd R.ring_RING_STATE 8 ≠ 0 ∧ ringLive.barServed = true ∧
    ringLive.rd R.ring_ENTRIES 8 < (2 ^ 31 % 2 ^ 32 + 2 ^ 32 - (ringLive.ring 8).head) % 2 ^ 32 ∧
    ((2 ^ 63 + 4) % 2 ^ 32 + 2 ^ 32 - (ringLive.ring 8).head) % 2 ^ 32 ≤ ringLive.rd R.ring_ENTRIES 8 ∧ ringLive.rd R.ring_RING_STATE 9 = 0 := by
  decide +kernel
theorem test_Doorbells_event : let s := live.wr R.ering_STATE 0 1
    s.rd R.ering_LOCATION 0 = 0 ∧ s.rd R.ering_STATE 0 ≠ 0 ∧ s.barServed = true ∧ live.rd R.ering_STATE 0 = 0 := by decide +kernel

theorem test_RingRequestsMoveRings : ringLive.rd R.ring_RING_STATE 9 = 0 ∧ ringLive.rd R.ring_RING_STATE 7 ≠ 0 ∧
    (ringLive.wr R.ring_RING_STATE 7 3).rd R.ring_RING_STATE 7 = 3 ∧ ringLive.masters 0 = true ∧ ringLive.masters 1 = false ∧ (ringLive.ring 7).progress = 0 ∧
    live.rd R.ering_STATE 3 = 0 ∧ (live.wr R.ering_STATE 3 2).rd R.ering_STATE 3 = 2 := by decide +kernel

theorem test_RingsCarryPackets_fetch : ringLive.ringRuns 7 = true ∧ (ringLive.ring 7).fetching = true ∧
    (∃ r ∈ ringLive.ep.reads, r.engine = 7) ∧ [txDesc 3].length ≤ ringLive.ringLeft 7 ∧ packetDescs [txDesc 3] = [txDesc 3] ∧ txCheck [txDesc 3] = 0 ∧ txTotal [txDesc 3] = 64 ∧
    txCheck [txDesc 2] = 2 ∧ txCheck [txDesc 1] = 1 ∧ ringLive.rd R.ring_TX_MODE 7 ≠ 1 ∧
    bits (([txDesc 3].headD []).getD 1 0) 43 34 = 3 := by decide +kernel
theorem test_RingsCarryPackets_direct : let s := (ringLive.wr R.ring_TX_MODE 7 1).wr R.grp_STATE 0 3
    s.rd R.ring_TX_MODE 7 = 1 ∧ s.grpRuns (portGroup 3) = true := by decide +kernel

/-- A ready receive ring with 32-octet buffers, 64 octets of whose front packet it has already delivered. -/
def rxLive : State :=
  let s := (ringLive.setRing 8 { RingSt.idle with prod := 4, progress := 64 }).wr R.ring_BUF_SIZE 8 32
  let p : Pkt := { (s.directPkt (List.replicate 200 0) 0 0 0 none) with tailIn := true }
  let q : QEnt := ⟨1, 0, 0, false, 0, false, 0, 0, []⟩
  { s with sto := { s.sto with pkts := [(1, p)], queues := [(hostKey 8, { s.queue (hostKey 8) with ents := [q] })] } }

theorem test_RingsCarryPackets_deliver : rxLive.rxReady 8 = true ∧ (rxLive.ring 8).buf = none ∧
    (rxLive.queue (hostKey 8)).ents.head? = some ⟨1, 0, 0, false, 0, false, 0, 0, []⟩ ∧ (rxLive.pkt? 1).isSome = true ∧
    (rxLive.ring 8).progress ≠ 0 := by decide +kernel
theorem test_RingsCarryPackets_hold : (ringLive.ring 8).buf = some ⟨2, 64, 1, 0⟩ ∧ ringLive.ringRuns 8 = true ∧
    ringLive.past 0 (ticksUs (ringLive.rd R.ring_RX_HOLD 8)) = true ∧ (ringLive.ring 8).armed = true ∧ (ringLive.ring 8).waiting = true ∧
    (ringLive.ring 8).holdUntil ≤ ringLive.clk.ticks := by decide +kernel

theorem test_EndpointFails_reads : ringLive.ep.reads.find? (fun r => r.tag == 0) = some ⟨0, 7, 1000⟩ ∧ (ringLive.readConf ⟨0, 7, 1000⟩).cplTimeoutOff = false ∧
    ringLive.past 1000 (ticksUs (ringLive.readConf ⟨0, 7, 1000⟩).cplTimeout) = true ∧
    ({ ringLive with clk := { ringLive.clk with ticks := 1001 } } : State).past 1000 (ticksUs (ringLive.readConf ⟨0, 7, 1000⟩).cplTimeout) = false := by decide +kernel
theorem test_EndpointFails_load : let s := { ringLive with ep := { ringLive.ep with reads := [⟨3, 257, 0⟩, ⟨4, 264, 0⟩] } }
    s.ep.reads.find? (fun r => r.tag == 3) = some ⟨3, 257, 0⟩ ∧ s.ep.reads.find? (fun r => r.tag == 4) = some ⟨4, 264, 0⟩ ∧
    (∀ r ∈ s.ep.reads, r.tag ≠ 5) := by decide +kernel
theorem test_EndpointReturns : let s := { live with ep := { live.ep with linkUp := false } }
    s.domOn 3 = true ∧ s.ep.perstLow = false ∧ s.ep.linkUp = false ∧ (⟨5, 16⟩ : LinkConfig).ok = true ∧
    (LinkEvent.configured FnConf.reset FnConf.reset).ok = true ∧
    ringLive.rd R.ring_RING_STATE 7 = 1 ∧ ringLive.rd R.ring_FUNCTION 7 = 0 ∧ ringLive.rd R.ring_FUNCTION 7 ≠ 1 := by decide +kernel

/-- Window 2 of PF0 over the first 4 KiB of far ring 1, writable, and window 3 over table 5 in DIRECT mode. -/
def winLive : State :=
  let s := (((live.wr R.win_ENABLE 2 1).wr R.win_SIZE 2 4096).wr R.win_TARGET_KIND 2 1).wr R.win_WRITE_EN 2 1
  let s := (((s.wr R.win_TARGET 2 1).wr R.win_ENABLE 3 1).wr R.win_SIZE 3 4096).wr R.win_WRITE_EN 3 1
  (s.wr R.win_TARGET 3 5).wr R.tbl_ACCESS_MODE 5 1

theorem test_Windows_read : winLive.ep.accepting = true ∧ winLive.winServes 0 (2 * 2 ^ 28) 8 = true ∧ winLive.winServes 0 (2 * 2 ^ 28 + 4096) 8 = false ∧
    winLive.winServes 0 (3 * 2 ^ 28) 8 = true ∧ winLive.winFar 3 (winLive.winOffset (3 * 2 ^ 28)) 8 = [] := by decide +kernel
theorem test_Windows_stacks : let up := winLive.each (List.range 8) (fun s k => s.wr R.slots_STACK_UP k 1)
    (∀ x ∈ up.winFar 2 (up.winOffset (2 * 2 ^ 28)) 8, up.stackUp (farStack x) = true) ∧
    (∃ x ∈ winLive.winFar 2 (winLive.winOffset (2 * 2 ^ 28)) 8, winLive.stackUp (farStack x) = false) ∧ winLive.coreOn = true := by decide +kernel
theorem test_Windows_write : winLive.on R.win_WRITE_EN 3 = true ∧ winLive.rd R.win_TARGET_KIND 2 = 1 ∧ winLive.rd R.win_TARGET_KIND 3 ≠ 1 ∧
    (winLive.wr R.tbl_STATE 5 3).takesDirect 5 = true ∧ (winLive.wr R.tbl_STATE 5 0).takesDirect 5 = false ∧
    (∀ o ∈ alignedOffsets 0x10000000000 8, winLive.apWord 5 o = .none) := by decide +kernel
theorem test_RingsCarryPackets_more : (ringLive.wr R.ring_TX_MODE 7 1).grpRuns (portGroup 3) = false ∧
    (let s := rxLive.setRing 8 { rxLive.ring 8 with progress := 0, buf := some ⟨2, 64, 1, 0⟩ }
     s.rxReady 8 = true ∧ (s.ring 8).buf = some ⟨2, 64, 1, 0⟩ ∧ (s.closeBuf 8).ringLeft 8 ≠ 0) := by decide +kernel

/-! ## Routes to the dictionary -/

/-- Word 0 of a request: OPCODE, COUNT, REMOTE and TARGET (R62). -/
def reqWord (op count remote target : Nat) : Nat := op * 2 ^ 56 + count * 2 ^ 48 + remote * 2 ^ 31 + target * 2 ^ 16
/-- An entry word of a request: INDEX, INSTANCE, SUB and LENGTH (R62). -/
def entWord (index inst sub len : Nat) : Nat := index * 2 ^ 48 + inst * 2 ^ 32 + sub * 2 ^ 24 + len

theorem test_Mailbox_local : live.barServed = true ∧ (live.mb 0).busy = false ∧ mbOperandsOk 0 9 [reqWord 1 1 0 0, 0, entWord 0x1000 0 1 0] = true ∧
    hostEntries false 1 ((wordsLE ([reqWord 1 1 0 0, 0, entWord 0x1000 0 1 0] ++ List.replicate 2 0)).drop 16)
      = some [(entWord 0x1000 0 1 0, ⟨keyOf 0x1000 0 1, false, 0, []⟩)] := by decide +kernel
theorem test_Mailbox_cut : hostEntries true 2 (toLE 8 (entWord 0x1000 0 1 4) ++ [1, 2, 3, 4, 0, 0, 0, 0]) = none ∧
    mbCount (reqWord 2 32 0 0) = 32 ∧ mbOp (reqWord 2 32 0 0) = 2 ∧ mbRemote (reqWord 1 1 1 7) = true ∧ mbTarget (reqWord 1 1 1 7) = 7 := by
  decide +kernel
theorem test_Mailbox_read_identity : (match exec (.read 0 9 [reqWord 1 1 0 0, 0, entWord 0x1000 0 0 0]) live with
    | .next u => decide ((u.mb 0).status = 9 * 2 ^ 48 + 2) && decide ((u.mb 0).response.headD 1 = reqWord 1 1 0 0)
    | _ => false) = true := by decide +kernel

/-- A remote request of one entry for the device at the head of the responder's queue, from device 0x123. -/
def remoteLive (op inc : Nat) : State :=
  let p := netHeader op 0 77 inc 0x123 1 ++ toBE 2 0x1000 ++ toBE 2 0 ++ [1, 0, 0, 0]
  { live with remote := { live.remote with queue := [⟨0x123, p, none⟩] } }

theorem test_Remote_responder : let s := remoteLive 1 0xFFFFFFFF
    s.coreOn = true ∧ (s.remote.queue.map (fun q => (q.payload.headD 0, q.payload.getD 10 0))) = [(1, 1)] ∧
    (s.remote.queue.map (fun q => readNetEntries false 1 (q.payload.drop 12))) = [some [⟨keyOf 0x1000 0 1, false, 0, []⟩]] ∧
    ((remoteLive 2 5).remote.queue.map (fun q => fieldAt q.payload 4 4)) = [5] ∧ live.rd R.ident_INCARNATION 0 ≠ 5 ∧ live.remote.queue = [] := by
  decide +kernel

/-- Operation 77 of PF1's mailbox toward device 0x123, and operation 3 of link 5's proxy, whose waits have ended; a response to the first. -/
def remoteOps : State :=
  { live with remote := { live.remote with
      ops := [⟨0x123, 77, [], 1, 500, 0, .mailbox 1 9 (reqWord 1 1 1 0x123)⟩, ⟨proxyTarget 5, 3, [], 0, 500, 0, .proxy 5⟩,
        ⟨0x124, 78, [], 0, 500, 0, .mailbox 0 9 (reqWord 1 1 1 0x124)⟩]
      arrived := [(0x123, netHeader 0x81 0 77 1 0x123 0)] } }

theorem test_Remote_initiator : remoteOps.remote.arrived = [(0x123, netHeader 0x81 0 77 1 0x123 0)] ∧
    mgmtTxn (netHeader 0x81 0 77 1 0x123 0) = 77 ∧
    (remoteOps.remote.ops.find? (fun o => o.target == 0x123 && o.txn == 77)).map RemoteOp.retriesLeft = some 1 ∧
    (remoteOps.remote.ops.find? (fun o => o.target == proxyTarget 5 && o.txn == 3)).map RemoteOp.owner = some (.proxy 5) ∧
    (remoteOps.remote.ops.find? (fun o => o.target == 0x124 && o.txn == 78)).map RemoteOp.retriesLeft = some 0 ∧
    (0 : Nat) ≤ remoteOps.clk.ticks ∧ remoteOps.remote.ops.find? (fun o => o.target == 0x125 && o.txn == 78) = none := by decide +kernel

/-- The fast block of 0x7000: its sub-index `b`, low word. -/
def fast7000 (b : Nat) : Nat := 0x101000 + b * 16

theorem test_Fast_slots : fastKey (fast7000 (R.invar_TIME.sub)) = some (key R.invar_TIME 0) ∧ timeUpper (fast7000 R.invar_TIME.sub + 8) = true ∧
    fastKey 0x108000 = none ∧ live.barServed = true ∧ live.checkRead ⟨0, 0⟩ (key R.invar_TIME 0) false = daOk ∧
    (live.wr R.princ_ENABLE 0 0).checkRead ⟨0, 0⟩ (key R.invar_TIME 0) false ≠ daOk ∧ fastKey (fast7000 R.invar_TIME_STATE.sub) = some (key R.invar_TIME_STATE 0) ∧
    live.checkRead ⟨0, 0⟩ (key R.invar_TIME_STATE 0) false = daOk := by decide +kernel
theorem test_Fast_latch : (live.setLatch 0 (some (key R.invar_TIME 0, 5))).latch 0 = some (key R.invar_TIME 0, 5) ∧ live.latch 0 = none := by
  decide +kernel
theorem test_Fast_write : (live.singleWrite ⟨0, 0⟩ (key R.invar_SERVO_TIMEOUT 0) 4 9000).acc.lastStatus = daOk ∧
    fastKey (fast7000 R.invar_SERVO_TIMEOUT.sub) = some (key R.invar_SERVO_TIMEOUT 0) ∧
    (live.singleWrite ⟨0, 0⟩ (key R.invar_SERVO_TIMEOUT 0) (2 ^ 16) 9000).acc.lastStatus = daLength := by decide +kernel
theorem test_Smbus : live.setting 544 538 = 0x4C ∧ live.acc.smbHeld = none ∧ ({ live with acc := { live.acc with smbHeld := some 3 } } : State).acc.smbHeld = some 3 ∧
    (match exec (.statusSummary ⟨0x4C, true⟩) (live.wr R.coll_FATAL_LATCHED 0 1) with
      | .next u => u.out.headD (.pin 9 9) == Out.smbus [2] true || u.out.any (fun o => o == Out.smbus [2] true)
      | _ => false) = true := by decide +kernel

/-! ## Faults -/

/-- A source that holds one message of a kind, of a class. -/
def msgLive (kind cls : Nat) : State :=
  let s := (live.wr R.kind_CLASS kind cls).wr R.src_PROMOTE_EN 0x12 0
  { s with coll := { s.coll with held := [(0x12, [⟨kind, 5, false, 1000⟩])] } }

theorem test_Collector_message : (msgLive 0x1D 2).nextSource = some 0x12 ∧
    mget [] (msgLive 0x1D 2).coll.held 0x12 = ⟨0x1D, 5, false, 1000⟩ :: [] ∧ (msgLive 0x1D 2).rd R.kind_CLASS 0x1D = 2 ∧
    (msgLive 0x1D 2).rd R.src_REACT_STATE 0x12 ≠ 1 ∧ (msgLive 0x1D 3).rd R.kind_CLASS 0x1D = 3 ∧ live.nextSource = none := by decide +kernel
theorem test_Collector_promotes : let s := ((msgLive 0x1D 1).wr R.src_PROMOTE_EN 0x12 1).wr R.src_N_LIMIT 0x12 1
    s.rd R.kind_CLASS 0x1D = 1 ∧ s.on R.src_PROMOTE_EN 0x12 = true ∧ s.rd R.src_N_LIMIT 0x12 ≤ 1 := by decide +kernel
theorem test_Collector_pair : (live.takeEffect ⟨0, key R.coll_PAIR_TEST 0, 3, [1]⟩).rd R.coll_PAIR_TEST_RESULT 0 = 1 ∧
    (live.takeEffect ⟨0, key R.coll_PAIR_TEST 0, 3, [0]⟩).coll.badPairs = [] ∧ (live.pairFails 3).coll.badPairs = [3] := by decide +kernel

/-- Source 0x12 with a reaction pending whose countdown has run out. -/
def reactLive (act : Nat) : State := ((live.wr R.src_REACT_STATE 0x12 1).wr R.src_PENDING_SEQ 0x12 4).wr R.src_ESCALATION 0x12 act

theorem test_ReactionsEnd : (reactLive 0).reactionsDue.head? = some 0x12 ∧ sourceListed 0x12 = true ∧
    (reactLive 3).rd R.src_ESCALATION 0x12 = 3 ∧ (reactLive 0).reactionsDue.filter (· != 0x12) = [] ∧
    ((reactLive 0).wr R.src_REACT_STATE 0x20 1).reactionsDue = [0x12, 0x20] ∧ live.reactionsDue = [] ∧
    ((reactLive 0).takeEffect ⟨0, key R.src_ACK 0x12, 4, []⟩).rd R.src_REACT_STATE 0x12 = 0 := by decide +kernel

/-- Pewter A ACTIVE and silent, B STANDBY and heard. -/
def pewLive : State :=
  let s := ((live.wr R.pewter_STATE 0 3).wr R.pewter_STATE 1 2).wr R.svc_ACTIVE_PEWTER 0 1
  { s with coll := { s.coll with started := true, pewterA := ⟨some 0, false, none, true, 0, 1, 1⟩, pewterB := ⟨some s.clk.ticks, false, none, true, 1, 2, 1⟩ } }

theorem test_Pewters_beat : pewLive.domOn 1 = true ∧ (pewLive.pewter 0).held = false ∧ pewLive.rd R.pewter_STATE 0 ≠ 0 ∧
    pewLive.rd R.svc_ACTIVE_PEWTER 0 ≠ 0 ∧ (pewLive.wr R.svc_ACTIVE_PEWTER 0 0).rd R.svc_ACTIVE_PEWTER 0 = 0 ∧
    live.rd R.pewter_STATE 0 = 0 := by decide +kernel
theorem test_Pewters_missing : ((let s := ((pewLive.wr R.pewter_STATE 0 1).wr R.pewter_STATE 1 4).setPewter 1 (pewLive.pewter 0)
    s.beatPresent (s.pewter 0) = false ∧ s.beatPresent (s.pewter 1) = false ∧ s.coll.started = true ∧ s.coll.mgmtLost = false)) ∧
    pewLive.beatPresent (pewLive.pewter 0) = false ∧ pewLive.beatPresent (pewLive.pewter 1) = true ∧
    (pewLive.wr R.pewter_STATE 1 4).rd R.pewter_STATE 1 ≠ 2 ∧ pewLive.rd R.svc_ACTIVE_PEWTER 0 = 0 + 1 := by decide +kernel
theorem test_Pewters_boot : let s := (pewLive.wr R.pewter_STATE 1 1).setPewter 1 ⟨none, false, some 0, true, 0, 1, 1⟩
    let s := { s with clk := { s.clk with ticks := 10 ^ 15 } }
    (s.pewter 1).released = some 0 ∧ s.rd R.pewter_STATE 1 = 1 ∧ s.past 0 (ticksMs (s.rd R.coll_BOOT_TIMEOUT 0)) = true := by decide +kernel
theorem test_Pewters_alive : pewLive.aliveNow = 0 ∧ pewLive.past pewLive.coll.aliveSince (1250 * 50) = true ∧ live.aliveNow ≠ 0 := by
  decide +kernel
theorem test_Pewters_requests : pewLive.domOn 2 = true ∧ pewLive.rd R.pewter_STATE 1 ≠ 3 ∧
    (pewLive.takeEffect ⟨0, key R.pewter_SWITCHOVER 1, 1, []⟩).rd R.svc_ACTIVE_PEWTER 0 = 2 := by decide +kernel

/-! ## Power, reset, boot -/

/-- The sequencer with domain 13 switching on. -/
def switchLive (on : Bool) : State := { live with pwr := { live.pwr with switching := some ⟨13, on, 1⟩ } }

theorem test_DomainsSwitch : live.domTarget 13 = true ∧ live.pwr.switching = none ∧ live.pwr.queue = [] ∧
    (switchLive true).domTarget 14 ≠ false ∧ (switchLive false).domTarget 13 = false ∧
    (live.takeEffect ⟨0, key R.dom_POWER_REQUEST 13, 2, []⟩).rd R.dom_DOMAIN_STATE 13 = 2 ∧ live.domOn 21 = true ∧ live.stackUp 0 = false := by
  decide +kernel
theorem test_DomainsSwitch_on : (match exec .domainSwitched (switchLive true) with
    | .next u => u.fnState .group 0 == 1 && u.rd R.dom_ON_SINCE 13 == 100
    | _ => false) = true := by decide +kernel

theorem test_Monitors_rail : (live.railBand 2) = (485000, 515000) ∧ live.railNominal 2 * 5 / 100 = 25000 ∧ (2 : Nat) ∉ live.pwr.railSent := by
  decide +kernel
theorem test_Monitors_temp : live.rdI R.temp_HIGH_LIMIT 3 = 100000 ∧ tempCrit 3 = 110000 ∧ tempTrip 3 = 120000 ∧ tempTrip 9 = 105000 ∧
    (3 : Nat) ∉ live.pwr.hotSent := by decide +kernel
theorem test_Monitors_recover : let s := { live with pwr := { live.pwr with thermalHold := true, pinLow := false, internal := none, gasp := none } }
    (s.pwr.thermalHold = true ∧ ∀ t ∈ List.replicate 17 (60000 : Int), t ≤ 85000) ∧ (List.replicate 17 (60000 : Int)).length = 17 ∧
    ¬(s.pwr.pinLow = true ∨ s.pwr.internal ≠ none) := by decide +kernel
theorem test_Monitors_avs : let s := live.wr R.prst_AVS_ENABLE 0 1
    s.coreOn = true ∧ s.past s.pwr.coreOnTick (ticksMs 10) = true ∧ s.past s.pwr.avsTick (ticksUs 100) = true ∧
    s.on R.prst_AVS_ENABLE 0 = true ∧ min 60 (s.rd R.prst_AVS_CODE 0 + 1) ≠ s.rd R.prst_AVS_CODE 0 ∧ s.pwr.inReset = false := by decide +kernel

theorem test_Resets : live.pwr.gasp = none ∧ live.pwr.inReset = false ∧ live.pwr.dropping = false ∧ live.pwr.internal = none ∧
    (live.takeEffect ⟨0, key R.prst_DEVICE_RESET 0, 1, []⟩).pwr.dropping = true ∧
    (live.takeEffect ⟨0, key R.prst_DEVICE_RESET 0, 1, []⟩).pwr.cause = 4 := by decide +kernel
theorem test_Resets_release : let s := { live with pwr := { live.pwr with pinLow := true, inReset := true } }
    (s.pwr.pinLow = true ∧ s.pwr.inReset = true ∧ s.pwr.internal = none ∧ s.pwr.thermalHold = false ∧ s.pwr.gasp = none) ∧
    live.past 5 (ticksMs 1) = true := by decide +kernel
theorem test_Gasp : ({ live with pwr := { live.pwr with gasp := some live.stageGasp } } : State).pwr.gasp = some live.stageGasp ∧
    live.stageGasp.seq = 1 := by decide +kernel

/-- A settings record whose octets are all 0x20, with its CRC. -/
def otpRecord : Nat := recordBits (List.replicate 252 0x20)

/-- A device before its first boot with that record in generation 0. -/
def otpLive : State := { State.reset with pwr := { State.reset.pwr with otp := [otpRecord, 0, 0, 0] } }

theorem test_Boot_settings : otpLive.liveGen = some 0 := by decide +kernel
/-- A device with no settings record. -/
def otpBlank : State := { State.reset with pwr := { State.reset.pwr with otp := [0, 0, 0, 0] } }
theorem test_Boot_none : otpBlank.liveGen = none ∧ otpBlank.pwr.bootDue = true ∧ State.reset.liveGen = some 0 := by decide +kernel
theorem test_Boot_due : otpLive.pwr.bootDue = true ∧ live.pwr.bootDue = false ∧ live.bootRetries = false := by decide +kernel
theorem test_Boot_steps : otpLive.bootNow = 1 ∧ live.bootNow = 0 ∧ otpLive.railsGood = true ∧
    ({ (otpLive.wr R.rail_IN_BAND 1 0) with pwr := { otpLive.pwr with measured := [1] } } : State).railsGood = false ∧
    ((live.wr R.pewter_STATE 0 4).wr R.pewter_STATE 1 4).rd R.pewter_STATE 1 = 4 ∧ live.rd R.pewter_STATE 0 ≠ 4 ∧
    otpLive.rd R.svc_ACTIVE_PEWTER 0 = 0 := by decide +kernel
theorem test_Boot_retries : let s := (live.wr R.prst_HALT_CAUSE 0 2).wr R.pewter_STATE 0 1
    s.pwr.bootDue = false ∧ s.bootRetries = true := by decide +kernel
theorem test_Boot_life : nextIncarnation (keepSections State.reset.pwr.mram) = (1, true, { State.reset.pwr.mram with incA := some 1 }) ∧
    nextIncarnation { State.reset.pwr.mram with incA := some 7, incB := some 6 } = (8, false, { State.reset.pwr.mram with incA := some 7, incB := some 8 }) := by
  decide +kernel

theorem test_Flash : live.rd R.flash_STATUS 0 ≠ 1 ∧ (live.wr R.flash_STATUS 0 1).rd R.flash_STATUS 0 = 1 ∧ live.pwr.flashCmd = none ∧
    (live.takeEffect ⟨0, key R.flash_CMD 0, 3, [65536, 1]⟩).pwr.flashCmd = some (3, 65536, List.replicate 256 0xFF) := by decide +kernel
theorem test_Flash_program : (match exec (.flashDone true) { live with pwr := { live.pwr with flashCmd := some (2, 256, [7, 8]) } } with
    | .next u => mget 0xFF u.pwr.flash 257 == 8 && mget 0xFF u.pwr.flash 258 == 0xFF && u.rd R.flash_STATUS 0 == 2
    | _ => false) = true := by decide +kernel
theorem test_Records : passes live R.prst_OTP_UNLOCK 0 0x4F54 = true ∧ live.pwr.programming = none ∧
    (let s := { live with pwr := { live.pwr with unlock := some live.clk.ticks, otp := [0, 0, 0, 0] } }
     s.checkWrite (s.overlay (key R.settings_RECORD 1) (domOf (List.replicate 252 0))) host (key R.settings_RECORD 1) 252
       (domOf (List.replicate 252 0))) = daOk := by decide +kernel

/-! ## The far tier, the store, tables -/

/-- Every stack up; a scanner's read of two transfers waits at stack 0. -/
def farLive : State :=
  let s := live.each (List.range 8) (fun t k => t.wr R.slots_STACK_UP k 1)
  (s.farAccess (.scan 2) clsUpdate 0 0 2 false).2
/-- A transfer of access 4, the last of its access, has been taken on channel 0 of stack 0 and has ended. -/
def takenLive (owner : Acc2) (left : Nat) : State :=
  let x : Xfer := ⟨0, true, 0, 0, 4, 1, false⟩
  { farLive with bab := { farLive.bab with taken := [⟨x, 0, 0, 50⟩], accs := [(4, ⟨owner, 0, left⟩)] } }

theorem test_Transfer_slot : farLive.stackUp 0 = true ∧ mget 0 farLive.bab.next 0 ≤ farLive.clk.slot * 100 + 99 ∧
    (farLive.arbitrate 0 0 (farLive.clk.slot * 100 + 99)).isSome = true ∧ farLive.arbitrate 0 5 (farLive.clk.slot * 100 + 99) = none ∧
    live.stackUp 0 = false := by decide +kernel
theorem test_Transfer_complete : (takenLive (.scan 2) 1).nextTaken 0 0 = some ⟨⟨0, true, 0, 0, 4, 1, false⟩, 0, 0, 50⟩ ∧
    (⟨⟨0, true, 0, 0, 4, 1, false⟩, 0, 0, 50⟩ : Taken).endsAt ≤ live.now ∧ mfind (takenLive (.scan 2) 1).bab.accs 4 = some ⟨.scan 2, 0, 1⟩ ∧
    mfind (takenLive (.chan 0) 2).bab.accs 4 = some ⟨.chan 0, 0, 2⟩ ∧ live.nextTaken 0 0 = none := by decide +kernel

/-- Egress queue 1 with 40 written cells in its head, over its levels. -/
def cellsLive : State :=
  let s := farLive.each [(R.qprof_SPILL_EN, 0, 1), (R.qprof_SPILL_AHEAD, 0, 4), (R.qprof_HEAD_KEEP, 0, 8), (R.store_FAR_FREE, 0, 1000)] (fun t e => t.wr e.1 e.2.1 e.2.2)
  let p : Pkt := { (s.directPkt (List.replicate 10240 0) 0 0 0 none) with tailIn := true, cells := 40, pool := 4 }
  let x : Queue := { Queue.empty with ents := [⟨1, 0, 0, false, 0, false, 0, 0, []⟩], head := List.replicate 40 0 }
  { s with sto := { s.sto with pkts := [(1, p)], queues := [(egKey 1, x)] } }
/-- The same queue with page 5 of stack 0 in a state, and its access done. -/
def pagesLive (st : Nat) (owner : Acc2) : State :=
  let x : Queue := { Queue.empty with pages := [⟨5, st, List.replicate 16 0, [], false, false, false⟩], ents := [⟨1, 0, 0, false, 0, false, 0, 0, []⟩] }
  { cellsLive with sto := { cellsLive.sto with queues := [(egKey 1, x)] }, bab := { cellsLive.bab with accs := [(4, ⟨owner, 0, 0⟩)] } }

theorem test_Spill_issue : queueExists (egKey 1) = true ∧ qKind (egKey 1) ≠ 2 ∧ cellsLive.coreOn = true ∧
    cellsLive.on R.qprof_SPILL_EN (cellsLive.profile (egKey 1)) = true ∧
    cellsLive.spillsOut (egKey 1) < cellsLive.rd R.qprof_SPILL_AHEAD (cellsLive.profile (egKey 1)) ∧
    cellsLive.nextStack (egKey 1) = some 0 ∧ (cellsLive.queue (egKey 1)).abandoned = none ∧ cellsLive.spillStart (egKey 1) = some 8 ∧ cellsLive.spillOn (egKey 1) < cellsLive.sharedCount (egKey 1) ∧
    cellsLive.pageCount (egKey 1) < cellsLive.farLimit (egKey 1) ∧
    ((pagesLive 4 .scrub).queue (egKey 1)).abandoned = some 0 := by decide +kernel
theorem test_Spill_complete : let s := pagesLive 0 (.spill (egKey 1) 5)
    s.pageAcc (.spill (egKey 1) 5) = some 4 ∧ s.accDone 4 = true ∧ (s.queue (egKey 1)).pages[0]? = some ⟨5, 0, List.replicate 16 0, [], false, false, false⟩ := by
  decide +kernel
theorem test_Fill_waits : let s := pagesLive 1 .scrub
    (((s.queue (egKey 1)).pages[0]?).map (fun p => (p.state, p.lost, p.waited))) = some (1, false, false) ∧
    (((s.setQueue (egKey 1) { s.queue (egKey 1) with pages := lmodify (s.queue (egKey 1)).pages 0 (fun p => { p with waited := true }) }).wr R.store_FILL_RESERVE 0 8).fillFreeNow) < 16 := by decide +kernel
theorem test_Fill : (pagesLive 2 (.fill (egKey 1) 5)).pageAcc (.fill (egKey 1) 5) = some 4 ∧
    (pagesLive 1 .scrub).rd R.qprof_FILL_LEVEL ((pagesLive 1 .scrub).profile (egKey 1)) > 0 ∧ 16 ≤ (pagesLive 1 .scrub).fillFreeNow ∧
    ((pagesLive 1 .scrub).wr R.store_FILL_RESERVE 0 8).fillFreeNow < 16 ∧ (pagesLive 1 .scrub).stackUp (5 / 2 ^ 22) = true ∧
    (pagesLive 1 .scrub).rd R.qprof_FILL_LEVEL 0 ≠ 0 := by decide +kernel
theorem test_Retire_clear :
    let s : State := { live with pwr := { live.pwr with mram := { live.pwr.mram with retired := [3, 2 ^ 22 + 3] } } }
    (s.takeEffect ⟨0, key R.retire_CLEAR 0, 1, []⟩).pwr.mram.retired = [2 ^ 22 + 3] := by decide +kernel

/-- A command word: OPCODE, table and SEQ. -/
def cmdWord (op t seq : Nat) : Nat := op * 2 ^ 56 + t * 2 ^ 48 + seq
/-- A command of channel 3 in a phase, on table 4 at entry 2. -/
def chanLive (op t phase : Nat) : State := (farLive.wr R.tbl_STATE t 3).setChan 3 ⟨cmdWord op t 9, 0, 2, 0, [5, 0], phase, 2, 0, [], 0, 0, 0, []⟩

theorem test_Commands_accept : passes live R.chan_CMD 3 (cmdWord 1 4 9) = true ∧ passes live R.chan_CMD 3 (cmdWord 2 4 9) = true ∧
    passes live R.chan_CMD 3 (cmdWord 3 2 9) = true ∧ passes live R.chan_CMD 3 (cmdWord 4 4 9) = true ∧
    passes live R.chan_CMD 3 (cmdWord 5 2 9) = true ∧ passes live R.chan_CMD 3 (cmdWord 6 18 9) = true := by decide +kernel
theorem test_Commands_phase0 : (chanLive 1 4 0).chan? 3 = some ⟨cmdWord 1 4 9, 0, 2, 0, [5, 0], 0, 2, 0, [], 0, 0, 0, []⟩ ∧
    (chanLive 3 4 0).cmdRefusal ⟨cmdWord 3 4 9, 0, 2, 0, [5, 0], 0, 2, 0, [], 0, 0, 0, []⟩ = csBadOp ∧
    (chanLive 1 4 0).cmdRefusal ⟨cmdWord 1 4 9, 0, 2, 0, [5, 0], 0, 2, 0, [], 0, 0, 0, []⟩ = csOk ∧ live.chan? 3 = none := by decide +kernel
theorem test_Commands_write : (match exec (.commandComplete 3 []) (chanLive 2 4 1) with
    | .next u => u.rd R.chan_STATUS 3 == 2 ^ 62 + 9 * 2 ^ 32 + 2 && w (u.entry 4 2) 0 == 5
    | _ => false) = true := by decide +kernel
theorem test_Commands_far : let s := (chanLive 4 2 1)
    (s.cmdWork 3 ⟨cmdWord 4 2 9 + 2 ^ 29, 0, 2, 0, [5, 0], 1, 2, 0, [], 0, 0, 0, []⟩).writes.isEmpty = false := by decide +kernel

theorem test_Locked : (live.wr R.tmnt_LOCK 2 1).on R.tmnt_LOCK 2 = true ∧ (live.wr R.tmnt_LOCK 2 1).writersOf 2 = [] ∧
    (farLive.wr R.tmnt_LOCK 2 1).writersOf 2 ≠ [] ∧ (live.takeEffect ⟨0, key R.tmnt_LOCK 2, 0, []⟩).rd R.tmnt_LOCKED 2 = 0 := by decide +kernel
theorem test_Scrub : (farLive.wr R.scrub_ENABLE 0 1).on R.scrub_ENABLE 0 = true ∧ farLive.stackUp (farStack 64) = true ∧
    farLive.farTable (2 ^ 33) = none ∧ farLive.stackUp (farStack (2 ^ 33)) = true ∧ live.stackUp 0 = false ∧ farLive.coreOn = true ∧
    (((farLive.wr R.region_TABLE 0 3).wr R.region_SIZE_MIB 0 1).farTable 64) = some 3 := by decide +kernel
theorem test_Ageing : let s : State := { live with clk := { live.clk with scans := [2] } }
    (2 : Nat) ∈ s.clk.scans ∧ (9 : Nat) ∉ s.clk.scans ∧ s.rd R.tbl_STATE 2 ≠ 3 := by decide +kernel
theorem test_Wheels : live.trf.wheelM ≤ live.m ∧ live.trf.coarseM ≤ live.m / 4096 ∧
    live.m < ({ live with trf := { live.trf with wheelM := 10 ^ 9 } } : State).trf.wheelM := by decide +kernel

/-! ## The packet pipeline -/

/-- Port 3, one lane at 200G, runs with its link up, and so does its group. -/
def portLive : State :=
  (((live.wr R.grp_STATE 0 3).wr R.port_STATE 3 3).wr R.port_LINK_STATE 3 3).wr R.port_PORT_MODE 3 6
/-- A good frame of `n + 4` octets. -/
def good (n : Nat) : Octets := List.replicate n 0 ++ toLE 4 (crc32 0xFFFFFFFF (List.replicate n 0))
/-- The head of a frame for the MAC, and a good frame of 64 octets behind it. -/
def controlFrame : Octets :=
  let body := List.replicate 12 0 ++ [0x88, 0x08] ++ List.replicate 46 0
  body ++ toLE 4 (crc32 0xFFFFFFFF body)
/-- A frame of port 3 in its input buffer. -/
def waiting (tailIn : Bool) (fid err : Nat) : InPkt := ⟨[1, 2], 0, 3, 0, true, tailIn, false, 200, [], fid, err, none, 0, 300⟩
def arrivedLive (f : InPkt) : State := portLive.setInbuf 3 [f]
/-- A frame of port 3, number 7, has taken its ingress slot and its tail is still arriving. -/
def tailLive (err : Nat) : State :=
  let p : Pkt := { (portLive.directPkt (good 296) 5 0 3 none) with tailIn := false, fid := 7 }
  { portLive with prt := { portLive.prt with arriving := [(3, 7, 300, err)] }, sto := { portLive.sto with pkts := [(1, p)] } }

theorem test_Rx_good : portLive.portUp 3 = true ∧ portLive.rxBusy 3 = false ∧ portLive.grpRuns (3 / 96) = true ∧
    portLive.rxCheck 3 0 (good 60) = 0 ∧ portLive.inOctets 3 + 64 ≤ 32768 * portLive.lanesOf 3 ∧ (good 60).all (· < 256) = true := by
  decide +kernel
theorem test_Rx_errors : portLive.rxCheck 3 1 (good 60) = 1 ∧ portLive.rxCheck 3 2 (good 60) = 2 ∧ portLive.rxCheck 3 0 (good 59) = 3 ∧
    (portLive.wr R.port_MAX_FRAME 3 63).rxCheck 3 0 (good 60) = 4 ∧ portLive.rxCheck 3 0 (List.replicate 64 1) = 5 := by decide +kernel
theorem test_Rx_control : fieldAt controlFrame 12 2 = 0x8808 ∧ 14 ≤ controlFrame.length ∧ portLive.rxCheck 3 0 controlFrame = 0 ∧
    portLive.rxCheck 3 1 controlFrame ≠ 0 := by decide +kernel
theorem test_Rx_overrun : (portLive.wr R.port_PORT_MODE 3 0).portUp 3 = true ∧
    32768 * (portLive.wr R.port_PORT_MODE 3 0).lanesOf 3 < (portLive.wr R.port_PORT_MODE 3 0).inOctets 3 + 64 ∧
    (portLive.wr R.grp_STATE 0 1).grpRuns 0 = false ∧ live.portUp 3 = false := by decide +kernel
theorem test_Tail_past : ((tailLive 5).prt.arriving.find? (fun x => x.1 == 3)) = some (3, 7, 300, 5) ∧
    ((tailLive 5).pkt? 1).isSome = true ∧ ((after (.frameTail 3) (tailLive 5)).bind (·.pkt? 1)).map (·.bad) = some true ∧
    ((after (.frameTail 3) (tailLive 0)).bind (·.pkt? 1)).map (·.bad) = some false := by decide +kernel
theorem test_Tail_waiting : ((arrivedLive (waiting false 4 0)).inbuf 3).find? (fun f => !f.tailIn) = some (waiting false 4 0) ∧
    (arrivedLive (waiting false 4 5)).prt.arriving = [] ∧ (portLive.inbuf 3).find? (fun f => !f.tailIn) = none := by decide +kernel

/-- Port 3 under a FLOW_MODE, TC 2 in XOFF. -/
def flowLive (mode : Nat) : State := ((portLive.wr R.psch_FLOW_MODE 3 mode).wr R.ptc_XOFF 26 1).wr R.psch_PFC_QUANTA 3 0x1234
def dueLive (mode : Nat) : State := { flowLive mode with trf := { (flowLive mode).trf with pauseDue := [3] } }
def heldLive : State := ((flowLive 2).wr R.grp_STATE 0 1).wr R.grp_STOP_ACTION 0 1

theorem test_Pause_frame : fieldAt ((flowLive 2).pauseFrame 3 1 (fun _ => 7)) 14 4 = 0x00010007 ∧
    fieldAt ((flowLive 1).pauseFrame 3 4 (fun _ => 7)) 14 4 = 0x01010004 ∧ fieldAt ((flowLive 1).pauseFrame 3 4 (fun _ => 7)) 22 2 = 7 := by
  decide +kernel
theorem test_Pause_due : (dueLive 1).trf.pauseDue.contains 3 = true ∧ (dueLive 1).mayPause 3 = true ∧ (dueLive 1).grpRuns (3 / 96) = true ∧
    (dueLive 2).mayPause 3 = true ∧ (flowLive 1).trf.pauseDue.contains 3 = false := by decide +kernel
theorem test_Pause_refresh : (flowLive 1).xoffVector 3 ≠ 0 ∧ (flowLive 1).mayPause 3 = true ∧
    (flowLive 1).past (mget 0 (flowLive 1).trf.pauseSent 3) ((flowLive 1).quantaTicks 3 0x1234 / 2) = true ∧ portLive.xoffVector 3 = 0 := by
  decide +kernel
theorem test_Pause_hold : heldLive.grpRuns (3 / 96) = false ∧ heldLive.rd R.grp_STOP_ACTION (3 / 96) = 1 ∧ heldLive.mayPause 3 = true ∧
    heldLive.holdVector 3 ≠ 0 ∧ mfind heldLive.prt.holdSent 3 = none := by decide +kernel

/-- A pause of priority 2 of port 3 that ends at a tick. -/
def pausedLive (at_ : Nat) : State := { flowLive 1 with trf := { (flowLive 1).trf with paused := [(3 * 16 + 2, ⟨at_⟩)] } }
theorem test_Paused : (mfind (pausedLive 1000000000).trf.paused (3 * 16 + 2)) = some ⟨1000000000⟩ ∧ (pausedLive 1).clk.ticks = 1000000000 ∧
    (flowLive 1).rd R.psch_FLOW_MODE 3 = 1 ∧ (flowLive 2).rd R.psch_FLOW_MODE 3 = 2 ∧ (flowLive 2).grpRuns 0 = true ∧
    heldLive.portUp 3 = true := by decide +kernel
theorem test_Paused_overlap : let s : State := { flowLive 2 with prt := { (flowLive 2).prt with spoilt := [(3, 2)] } }
    s.portUp 3 = true ∧ mget 0 s.prt.spoilt 3 ≠ 0 ∧ (after (.rxPause 3 100) s).map (fun t =>
      (t.rd R.psch_PAUSED 3, t.rd R.pcnt_RX_CTRL_DISCARD 3, mget 0 t.prt.spoilt 3)) = some (0, 1, 1) := by decide +kernel
theorem test_Paused_tc : ((after (.rxPause 3 100) (flowLive 2)).map (·.rd R.psch_PAUSED 3)) = some 255 ∧
    ((after (.rxPfc 3 4 [0, 0, 9, 0, 0, 0, 0, 0]) (flowLive 1)).map (·.rd R.psch_PAUSED 3)) = some 4 := by decide +kernel

/-- A pipeline with packets that wait for a slot. -/
def slotLive (recirc : List InPkt) (hosts : List (Nat × InPkt)) : State :=
  portLive.setPipe 0 { PipeSt.idle with recirc, host := hosts }
/-- A packet parked in pipeline 0 of group 0. -/
def parkedPkt (kind eligible : Nat) : Parked :=
  { pipe := 0, seq := 9, pkt := waiting true 0 0, hv := [], orig := [], kind, detail := 0, stage := 4, pc := 8, traps := 0, stamp := 0, colour := 0
    meterDone := false, fence := false, addr := 0, walk := none, handle := 0, crcC := 0, crcR := 0, assists := [5, 6], assistDone := false
    ended := none, since := 0, eligible, trace := [] }
def parkLive (kind eligible : Nat) : State := portLive.setParked 0 [parkedPkt kind eligible]
/-- Walk 5 of group 0 for tag 0. -/
def walkLive (x : TagWalk) (waiters : List Waiter) : State :=
  portLive.setWalk 0 5 ⟨2, 2, [], 64, some x, none, waiters⟩

theorem test_Slot_sources : (slotLive [waiting true 0 0] []).grpRuns 0 = true ∧ (slotLive [waiting true 0 0] []).reinjects 0 = false ∧
    ((slotLive [waiting true 0 0] []).pipe 0).usedRec < (slotLive [waiting true 0 0] []).rd R.ipipe_RECIRC_SHARE 0 ∧
    ((slotLive [] [(1, waiting true 0 0)]).pipe 0).usedHost < (slotLive [] [(1, waiting true 0 0)]).rd R.ipipe_HOST_SHARE 0 := by decide +kernel
theorem test_Slot_port : (arrivedLive (waiting true 4 0)).portTurn 0 = some (3, 0) ∧
    (arrivedLive (waiting true 4 0)).inbuf 3 = [waiting true 4 0] ∧ portLive.portTurn 0 = none ∧ ((arrivedLive (waiting true 4 0)).pipe 0).host = [] ∧
    live.grpRuns 0 = false := by decide +kernel
theorem test_Reinject : (parkLive 3 1).reinjects 0 = true ∧ (parkLive 3 1).nextReinject 0 = some (parkedPkt 3 1) ∧
    (parkLive 1 1).nextReinject 0 = some (parkedPkt 1 1) ∧ (parkLive 3 1).grpRuns 0 = true := by decide +kernel
theorem test_Walks : (walkLive ⟨0, 0, 0, [], some (.miss none), false, false⟩ []).walk? 0 5 =
      some ⟨2, 2, [], 64, some ⟨0, 0, 0, [], some (.miss none), false, false⟩, none, []⟩ ∧
    (walkLive ⟨0, 0, 0, [], none, false, false⟩ [⟨0, 9, 0⟩]).past 0 (ticksUs (portLive.rd R.trap_WALK_TIMEOUT 0)) = true ∧
    portLive.past 1000000000 (ticksUs (portLive.rd R.trap_WALK_TIMEOUT 0)) = false ∧ portLive.walk? 0 5 = none := by decide +kernel
theorem test_Walk_waiters : (((walkLive ⟨0, 0, 0, [], some (.miss none), false, false⟩ [⟨0, 9, 0⟩]).setParked 0 [parkedPkt 0 0]).parkedOf 0).any
    (fun p => p.kind == 0 && hvTag p.hv == 0) = true := by decide +kernel
theorem test_Assist : ((parkLive 4 0).parkedOf 0).find? (fun p => p.kind == 4 && !p.assistDone) = some (parkedPkt 4 0) ∧
    ((parkLive 3 0).parkedOf 0).find? (fun p => p.kind == 4 && !p.assistDone) = none := by decide +kernel

/-- Queue 24 of port 3 holds one packet, written to the store. -/
def queuedLive (launch : Option Nat) : State :=
  let p : Pkt := { portLive.directPkt (good 60) 3 0 0 launch with refs := [0], links := 1 }
  let x : Queue := { Queue.empty with ents := [⟨1, 0, 0, false, 0, false, 0, 0, []⟩], head := [0] }
  { portLive with sto := { portLive.sto with pkts := [(1, p)], queues := [(egKey 24, x)] } }
/-- A frame in the MAC of port 3. -/
def macFrame (tailIn fabric : Bool) : MacFrame := ⟨0, good 60, false, tailIn, 0, none, [], 0, 1, 0, fabric, [], 0⟩
def macLive (f : MacFrame) : State := portLive.setMac 3 [f]
/-- A packet has left queue 24 toward the egress pipeline. -/
def leavingLive : State :=
  let l : Leaving := ⟨⟨1, 0, 0, false, 0, false, 0, 0, []⟩, portLive.directPkt (good 60) 3 0 0 none, [], false⟩
  { portLive with pip := { portLive.pip with atEgress := [(3, [l])] } }
/-- A packet waits for replication by group 0 to multicast group 2, whose run has one valid entry toward port 3. -/
def replLive (valid : Nat) : State :=
  let s := (((((queuedLive none).wr R.store_REPL_GROUPS 0 4096).wr R.mgrp_VALID 2 1).wr R.mgrp_FIRST 2 0).wr R.mgrp_COUNT 2 2).wr
    R.rlist_ENTRY0 0 (valid * 2 ^ 31 + 3)
  { s with sto := { s.sto with repl := [(0, [⟨1, 3, 0, 2, false, []⟩])] } }
/-- A replica for each of two entries. -/
def replTwo : State := (replLive 1).wr (R.rlist_ENTRY0.at 1) 0 (2 ^ 31 + 4)
theorem test_Replicate_two : (replTwo.runEntries 2).length = 2 ∧ replTwo.runOk 2 = true ∧
    (after (.replicate 0) replTwo).map (fun t => (mget [] t.sto.repl 0).map (fun r => r.left.length)) = some [1] := by decide +kernel
/-- A mirror copy of session 1 waits in group 0. -/
def copyLive (enable rate exp : Nat) : State :=
  let s := ((portLive.wr R.mirr_ENABLE 1 enable).wr R.mirr_RATE 1 rate).wr R.mirr_SAMPLE_EXP 1 exp
  (s.setMirror 1 ⟨3, 0, 1000000000⟩).mirrorCopy 0 ⟨1, false, good 60, [], 64, 0⟩

theorem test_Select : (queuedLive none).rd R.port_STATE 3 = 3 ∧ (queuedLive none).txOpen 3 = true ∧ (queuedLive none).shaperOk 3 = true ∧
    (queuedLive none).egEligible 24 = true ∧ (queuedLive none).rd R.tcsch_PRIO_GROUP 24 < 4 ∧ 0 < ((queuedLive none).queue (egKey 24)).ents.length ∧
    portLive.egEligible 24 = false ∧ live.rd R.port_STATE 3 ≠ 3 := by decide +kernel
theorem test_Launch : let s := queuedLive (some (stamp48 live.now))
    s.txOpen 3 = true ∧ s.shaperOk 3 = true ∧ s.egEligible 24 = true ∧ s.launchFar 3 (stamp48 live.now) = false ∧ (s.pkt? 1).isSome = true ∧
    (queuedLive none).launchFar 3 (stamp48 live.now + 2 ^ 40) = true := by decide +kernel
theorem test_Egress_pass : leavingLive.egressTurn 0 = some (3, leavingLive.lanesOf 3 - 1) ∧ leavingLive.grpSends 0 = true ∧ live.fnState .group 7 ≠ 4 ∧
    (mget [] leavingLive.pip.atEgress 3).length = 1 ∧ mget [] portLive.pip.atEgress 3 = [] := by decide +kernel
theorem test_Transmit : (macLive (macFrame true false)).portUp 3 = true ∧ mget 0 (macLive (macFrame true false)).prt.txEnd 3 ≤ portLive.clk.ticks ∧
    (macLive (macFrame true false)).mac 3 = [macFrame true false] ∧ portLive.macReady 3 (macFrame true false) = true ∧
    (macLive (macFrame true false)).guardAllows 3 (macFrame true false) = true ∧
    (macLive (macFrame false true)).guardAllows 3 (macFrame false true) = true ∧ (portLive.mac 3).find? (portLive.macReady 3) = none := by
  decide +kernel
theorem test_Replicate : mget [] (replLive 1).sto.repl 0 = [⟨1, 3, 0, 2, false, []⟩] ∧ (replLive 1).runOk 2 = true ∧
    bit ((replLive 1).listEntry 0) 31 = true ∧ bit ((replLive 1).listEntry 1) 31 = false ∧ ((replLive 1).wr R.mgrp_VALID 2 0).runOk 2 = false ∧
    bit ((replLive 0).listEntry 0) 31 = false := by decide +kernel
theorem test_Mirror : mget [] (copyLive 1 0 0).tel.copies 0 = [⟨1, false, good 60, [], 64, 0⟩] ∧ (copyLive 1 0 0).on R.mirr_ENABLE 1 = true ∧
    (copyLive 0 0 0).on R.mirr_ENABLE 1 = false ∧ (copyLive 1 5 0).rd R.mirr_RATE 1 ≠ 0 ∧
    ((copyLive 1 5 0).mirror 1).tokens + (live.clk.ticks - ((copyLive 1 5 0).mirror 1).last) * 5 < 1250000000 := by decide +kernel

/-! ## Loads, lanes, ports' links, I2C -/

/-- Port 3 owns lane 3, which is in a training state; the chiplet runs. -/
def laneLive (st : Nat) : State :=
  ((((portLive.wr R.lane_OWNER 3 (2 ^ 14 + 3)).wr R.lane_TRAIN_STATE 3 st).wr R.lane_LANE_MODE 3 1).wr R.chip_STATE 0 3).wr R.port_LINK_TRAINING 3 1

theorem test_Lane_ready : (laneLive 3).rd R.lane_TRAIN_STATE 3 = 3 ∧ ownerFn ((laneLive 3).rd R.lane_OWNER 3) = some (.port, 3) ∧
    (laneLive 3).on R.port_LINK_TRAINING 3 = true ∧ (laneLive 3).ownerLanes (2 ^ 14 + 3) = [3] ∧ (laneLive 3).ownerState 3 = 3 := by
  decide +kernel
theorem test_Lane_retrain : (laneLive 5).rd R.lane_TRAIN_STATE 3 = 5 ∧
    ((laneLive 3).retrainOwner (2 ^ 14 + 3) 0 false false).rd R.lane_TRAIN_STATE 3 = 3 ∧
    ((laneLive 3).retrainOwner (2 ^ 14 + 3) 0 false false).rd R.lane_RETRAINS 3 = 1 := by decide +kernel
/-- Lane 3 under test in N26 with PRBS7, looped back to itself; generator and checker on. -/
def testLive : State :=
  let s := ((((laneLive 6).wr R.ltest_PATTERN 3 1).wr R.ltest_GEN_EN 3 1).wr R.ltest_CHK_EN 3 1).wr R.lane_LANE_MODE 3 4
  (s.wr R.ltest_LOOPBACK 3 1).setLaneTest 3 ⟨1, 0, 0, 1, 7, 250, 0, 0⟩
-- seeded, with 250 bits in a row: the sixth more locks it, and the next are counted
theorem test_Checker : (after (.checkerLock 3 5 0 0) testLive).map (·.rd R.ltest_LOCKED 3) = some 0 ∧
    (after (.checkerLock 3 16 0 0) testLive).map (fun t => (t.rd R.ltest_LOCKED 3, t.rd R.ltest_BITS 3, t.rd R.ltest_ERRORS 3, t.out))
      = some (1, 10, 0, []) := by decide +kernel
theorem test_Checker_lost : (after (.checkerLock 3 4 0 6) (((testLive.wr R.ltest_LOOPBACK 3 0).wr R.ltest_LOCKED 3 1).setLaneTest 3
      ⟨1, 0, 0, 1, 7, 0, 0, 62⟩)).map (fun t => (t.rd R.ltest_LOCKED 3, t.rd R.ltest_ERRORS 3, t.rd R.ltest_RESYNCS 3)) = some (0, 2, 1) ∧
    symbolBits true 2 = [1, 1] ∧ symbolBits true 3 = [1, 0] ∧ symbolOf 1 1 = 2 ∧ symbolOf 1 0 = 3 := by decide +kernel
theorem test_Codeword : (laneLive 5).fecCorrects (2 ^ 14 + 3) = some 15 ∧ (2 ^ 14 + 3) % 1024 = 3 ∧ (laneLive 5).fecCorrects 0 = none ∧
    (after (.fecCodeword 3 [2] none) (laneLive 5)).map (fun t => (t.rd R.fec_CODEWORDS 3, t.rd (Reg.at R.fec_BIN0 2) 3, t.rd R.fec_UNCORRECTABLE 3))
      = some (1, 1, 0) := by decide +kernel
theorem test_Lane_effects : ((((laneLive 6).wr R.ltest_GEN_EN 3 1).takeEffect ⟨0, key R.ltest_INJECT 3, 4, []⟩).laneTest 3).inject = 4096 ∧
    (((laneLive 5).wr R.fec_UNCORRECTABLE 3 9).takeEffect ⟨0, key R.fec_CLEAR 3, 1, []⟩).rd R.fec_UNCORRECTABLE 3 = 0 ∧
    (((laneLive 5).wr R.pcnt_TX_FRAMES 3 9).takeEffect ⟨0, key R.pcnt_CLEAR 3, 1, []⟩).rd R.pcnt_TX_FRAMES 3 = 0 ∧
    (((laneLive 6).wr R.ltest_BITS 3 9).takeEffect ⟨0, key R.ltest_CLEAR 3, 1, []⟩).rd R.ltest_BITS 3 = 0 := by decide +kernel

def startingLive : State := (((laneLive 3).wr R.port_STATE 3 2).wr R.port_TRAIN_TIMEOUT 3 1).wr R.port_LINK_STATE 3 0
theorem test_Train_timeout : startingLive.rd R.port_STATE 3 = 2 ∧ startingLive.rd R.port_TRAIN_TIMEOUT 3 ≠ 0 ∧
    1000000 ≤ ({ startingLive with clk := { startingLive.clk with slot := 8000000 } }.slotNo - startingLive.rd R.port_STATE_SINCE 3) * 64 := by
  decide +kernel
theorem test_Link_state : (laneLive 5).lanesReady (2 ^ 14 + 3) = true ∧ (laneLive 3).lanesReady (2 ^ 14 + 3) = false ∧
    (after (.linkStateChange 3 true 1) (laneLive 5)).map (·.rd R.port_LINK_STATE 3) = some 1 ∧
    (after (.linkStateChange 3 true 0) ((startingLive.wr R.lane_TRAIN_STATE 3 5))).map (·.rd R.port_STATE 3) = some 3 := by decide +kernel
def flitLive (fails : Nat) : State := (live.wr R.d2d_LINK_STATE 1 2).setD2d 1 { D2d.idle with fails0 := fails, next0 := 4095 }
def goodFlit (seq : Nat) : Octets := let b := toBE 2 seq ++ List.replicate 250 0; b ++ toBE 4 (crc32c 0xFFFFFFFF b)
def badFlit : Octets := List.replicate 256 0
theorem test_Flits : (flitLive 15).rd R.d2d_LINK_STATE 1 = 2 ∧ ((flitLive 15).d2d 1).next0 = 4095 ∧
    (after (.flitReceived 1 true 4095 badFlit) (flitLive 15)).map (·.rd R.d2d_LINK_STATE 1) = some 1 ∧
    (after (.flitReceived 1 true 4095 badFlit) (flitLive 14)).map (·.rd R.d2d_LINK_STATE 1) = some 2 ∧
    (after (.flitReceived 1 true 4095 (goodFlit 4095)) (flitLive 3)).map (fun t => (t.d2d 1).next0) = some 0 ∧
    (after (.flitReceived 1 true 1 badFlit) (flitLive 3)).map (fun t => (t.d2d 1).held0) = some 3 := by decide +kernel
/-- Chiplet 2's switch is pending, both its references healthy, at an epoch boundary. -/
def switching : State :=
  let s := ((((live.wr R.refm_REF_STATE 1 0).wr R.chip_STATE 2 3).wr R.chip_REF_PRIMARY 2 0).wr R.chip_REF_STANDBY 2 1).wr R.chip_REF_IN_USE 2 0
  { s.pendSwitch 2 2 with clk := { s.clk with slot := 16384 * 5, epochAt := true, epochDue := false } }
theorem test_Ref_switch : switching.atEpoch = true ∧ (switching.settleSwitch.lan.pendingSw.map (·.1)).find? (fun k =>
      switching.settleSwitch.refHealthy (switching.settleSwitch.chipStandby k)) = some 2 ∧ switching.settleSwitch.lan.switching = none ∧
    (after (.refSwitch 2) switching).map (·.rd R.chip_REF_IN_USE 2) = some 1 := by decide +kernel

/-- An image with one section, and a board table with one record. -/
def imageOctets : Octets :=
  patch (patch (patch (patch (patch (List.replicate 528 0) 0 (toBE 4 0x4D4C5655)) 4 (toBE 2 1 ++ toBE 2 1)) 8 (toBE 4 528)) 88 [0x80, 0x81])
    256 (toBE 2 7 ++ toBE 2 0 ++ toBE 4 272)
def boardOctets : Octets :=
  let b := toBE 4 0x4D4C5642 ++ toBE 2 1 ++ toBE 2 1 ++ List.replicate 56 0 ++ toBE 8 (2 ^ 51 + 64 * 2 ^ 20) ++ toBE 8 (31 * 2 ^ 45)
  b ++ toBE 4 (crc32c 0xFFFFFFFF b)
/-- A load from the host is busy. -/
def loadLive (g : Nat) (bs : Octets) : State :=
  let s := (live.wr R.img_STATUS g 1).wr R.board_STATUS 0 1
  { s with pip := { s.pip with loading := [(g, (bs.length, 0, 0))] } }

theorem test_Load_starts : (live.takeEffect ⟨0, key R.img_LOAD 2, 1, [1, 64, 528]⟩).rd R.img_STATUS 2 = 1 ∧
    (live.takeEffect ⟨0, key R.board_LOAD 0, 1, [1, 64, 528]⟩).rd R.board_STATUS 0 = 1 ∧
    (({ live with ep := { live.ep with linkUp := false } } : State).takeEffect ⟨0, key R.board_LOAD 0, 1, [0, 64, 528]⟩).rd R.board_STATUS 0 = 7 := by
  decide +kernel
theorem test_Image_fetched : (loadLive 2 imageOctets).rd R.img_STATUS 2 = 1 ∧ ((loadLive 2 imageOctets).fetched 2 imageOctets).2 = true ∧
    (loadLive 2 imageOctets).imageStatus [] false = 8 ∧ (loadLive 2 imageOctets).imageStatus (patch imageOctets 5 [9]) true = 3 := by
  decide +kernel
-- With a key and a signature that the device accepts the image passes every check.
theorem test_Image_passes (h : keyOk (loadLive 2 imageOctets) (imageOctets.drop (imageOctets.length - 256)) = true)
    (h' : sigOk (imageOctets.take (imageOctets.length - 256)) (imageOctets.drop (imageOctets.length - 256)) = true) :
    (loadLive 2 imageOctets).imageStatus imageOctets true = 2 := by
  have a : fieldAt imageOctets 8 4 = imageOctets.length := by decide +kernel
  have b : formatOk imageOctets = true := by decide +kernel
  have c : (imageSections imageOctets).all (fun x => x.crcOk imageOctets) = true := by decide +kernel
  have d : (loadLive 2 imageOctets).imageFits imageOctets = true := by decide +kernel
  simp [State.imageStatus, a, b, c, d, h, h']
theorem test_Board_fetched : (loadLive 8 boardOctets).boardStatus boardOctets true = 2 ∧ (loadLive 8 boardOctets).boardStatus [] true = 3 ∧
    ((loadLive 8 boardOctets).fetched 8 boardOctets).2 = true ∧ (loadLive 8 boardOctets).boardDigest = 0 := by decide +kernel

/-- Bus 1 runs a command of one byte since tick 0, its bus stuck before it or not. -/
def busLive (op : Nat) (stuck : Bool) : State :=
  let c : I2cCmd := ⟨op, 7, 0x50 * 2 ^ 33 + (if op = 3 then 0 else 1), [0xAB], 0, stuck⟩
  { live with prt := { live.prt with i2c := [(1, c)] } }
theorem test_I2c_ends : (mfind (busLive 1 false).prt.i2c 1).map (fun c => c.canEnd 0 3 1) = some true ∧
    (mfind (busLive 2 true).prt.i2c 1).map (fun c => (c.canEnd 2 1 0, c.canEnd 3 3 0, c.canEnd 3 3 1, c.canEnd 2 3 0)) = some (true, true, false, false) ∧
    (mfind (busLive 3 false).prt.i2c 1).map (fun c => (c.canEnd 0 1 0, c.canEnd 5 1 0)) = some (true, false) ∧ mfind live.prt.i2c 1 = none := by decide +kernel
theorem test_I2c_read : (after (.i2cRead 1 0 ⟨0, 3⟩ 1 [0x5A]) (busLive 1 false)).map (fun t => (t.i2cData 1).take 2) = some [0x5A, 0] ∧
    (after (.i2cRead 1 0 ⟨0, 3⟩ 1 [0x5A]) (busLive 1 false)).map (·.out) = some [.i2c 1 1 [0xA0, 0, 0xA1]] ∧
    (after (.i2cWrite 1 10 ⟨0, 3⟩ 1) (busLive 2 true)).map (·.rd R.i2c_BUS_STATE 1) = some 2 := by decide +kernel
theorem test_I2c_reset : passes live R.i2c_RESET 1 1 = true ∧ (busLive 1 false).past 0 (ticksUs (live.rd R.i2c_STRETCH_LIMIT 1)) = true := by
  decide +kernel

/-! ## Xanla Links -/

/-- Link 8 of two lanes runs in a LINK_STATE, in a class (0 CR, 1 IR), with what it holds. -/
def linkLive (st cls : Nat) (x : LinkSt) : State :=
  ((((live.wr (Reg.at ⟨fnIndex .link, 1⟩ 0) 8 3).wr R.link_LINK_STATE 8 st).wr R.link_CLASS 8 cls).wr R.link_WIDTH 8 2).setLinkSt 8 x

/-- The octets of a SCHED cell toward another device with no message, and its payload. -/
def cellHead : Octets :=
  let h := toBE 12 (2 * 2 ^ 94 + 5 * 2 ^ 82 + 3 * 2 ^ 67)
  h ++ toBE 4 1828193273

theorem test_Cell_good : (linkLive 7 0 LinkSt.idle).rd R.link_LINK_STATE 8 = 7 ∧ cellHead.length = 16 ∧
    (linkLive 7 0 LinkSt.idle).cellPasses 8 (parseCell cellHead (List.replicate 256 0)) = true ∧ ((linkLive 7 0 LinkSt.idle).link 8).rxSeq = 0 ∧
    (linkLive 3 0 LinkSt.idle).cellPasses 8 (parseCell cellHead (List.replicate 256 0)) = false := by decide +kernel
theorem test_Cell_crc_64 (a b c d : Nat) (h : (List.replicate 64 0).foldl (crcOctet 0x82F63B78) a = b)
    (h' : (List.replicate 64 0).foldl (crcOctet 0x82F63B78) b = c) (h'' : (List.replicate 64 0).foldl (crcOctet 0x82F63B78) c = d) :
    (List.replicate 192 0).foldl (crcOctet 0x82F63B78) a = d := by
  have e : List.replicate 192 0 = List.replicate 64 0 ++ (List.replicate 64 0 ++ List.replicate 64 (0 : Nat)) := by
    simp
  rw [e, List.foldl_append, List.foldl_append, h, h', h'']
theorem test_Cell_crc : cellCrc cellHead (List.replicate 256 0) = fieldAt cellHead 12 4 := by
  have e : List.replicate 256 0 = List.replicate 192 0 ++ List.replicate 64 (0 : Nat) := (List.replicate_append_replicate (n := 192) (m := 64)).symm
  have a : (cellHead.take 12).foldl (crcOctet 0x82F63B78) 0xFFFFFFFF = 3676726525 := by decide +kernel
  have b := test_Cell_crc_64 3676726525 2064657356 1828626011 3248385003 (by decide +kernel) (by decide +kernel) (by decide +kernel)
  have c : (List.replicate 64 0).foldl (crcOctet 0x82F63B78) 3248385003 = 2466774022 := by decide +kernel
  have d : fieldAt cellHead 12 4 = 1828193273 := by decide +kernel
  rw [cellCrc, crc32c, crc32With, List.foldl_append, e, List.foldl_append, a, b, c, d]
  decide
theorem test_Cell_crc_bad : fieldAt (cellHead.take 15 ++ [0]) 12 4 ≠ 1828193273 ∧ (cellHead.take 15 ++ [0]).take 12 = cellHead.take 12 := by
  decide +kernel
theorem test_Cell_seq : (7 + 4096 - ((linkLive 7 0 { LinkSt.idle with rxSeq := 5 }).link 8).rxSeq) % 4096 < 2048 ∧
    2048 ≤ (3 + 4096 - ((linkLive 7 0 { LinkSt.idle with rxSeq := 5 }).link 8).rxSeq) % 4096 := by decide +kernel

/-- A DATA cell of VL `vl` toward device 5. -/
def dataCell (vl hops : Nat) : FabCell :=
  { kind := 0, dest := 5, port := 1, tc := 0, vl, gen := 0, sop := true, eop := true, badTail := false, ecn := false, hash := 0, src := 2, tag := 1
    index := 0, count := 64, hops, payload := [] }
theorem test_Cell_taken : (dataCell 3 0).vlOk = false ∧ (dataCell 2 3).vlOk = true ∧ (dataCell 2 3).dest ≠ live.myId ∧ (3 + 1) % 8 = 4 ∧
    2 < ((linkLive 7 0 LinkSt.idle).link 8).returned.length := by decide +kernel

/-- A link with two cells outstanding, the first to be resent for the n-th time. -/
def replaying (resend : List Nat) (n : Nat) : LinkSt :=
  { LinkSt.idle with txSeq := 2, replay := [(0, ⟨dataCell 0 0, .built, 0, n, 0⟩), (1, ⟨dataCell 0 0, .built, 0, 0, 0⟩)], resend }
theorem test_Ack : ((linkLive 7 0 (replaying [] 0)).link 8).replay.filter (fun e => decide (2048 ≤ (0 + 4096 - e.1) % 4096)) =
      [(1, ⟨dataCell 0 0, .built, 0, 0, 0⟩)] ∧
    (after (.ackReceived 8 (toBE 2 8) [0, 0, 0, 0, 0]) (linkLive 7 0 (replaying [] 0))).map (fun t => (t.link 8).resend) = some [1] := by decide +kernel
theorem test_Credit : (linkLive 7 0 LinkSt.idle).past (LinkSt.idle.creditAt) (ticksUs 1) = true ∧ (linkLive 7 0 LinkSt.idle).linkIsUp 8 = true ∧
    (linkLive 1 0 LinkSt.idle).creditDue 8 = true := by decide +kernel
theorem test_Blocks : (linkLive 2 1 LinkSt.idle).linkReceives 8 = true ∧ (linkLive 2 1 LinkSt.idle).rd R.link_CLASS 8 = 1 ∧
    (linkLive 2 0 LinkSt.idle).rd R.link_CLASS 8 = 0 ∧ (linkLive 1 1 LinkSt.idle).linkReceives 8 = false ∧
    (after (.elasticSlip 8) (linkLive 2 0 LinkSt.idle)).map (·.rd R.link_REASON 8) = some 7 := by decide +kernel
theorem test_Repeat : ((linkLive 7 0 { LinkSt.idle with nakAt := some 5 }).link 8).nakAt = some 5 ∧ live.past 5 (ticksUs 5) = true ∧
    live.past 1000000000 (ticksUs 5) = false ∧ ((linkLive 7 0 (replaying [] 0)).link 8).replay ≠ [] := by decide +kernel
theorem test_Cell_send : (replaying [0] 15).replay.find? (fun e => e.1 == 0) = some (0, ⟨dataCell 0 0, .built, 0, 15, 0⟩) ∧
    (replaying [7] 15).replay.find? (fun e => e.1 == 7) = none ∧ (linkLive 7 0 (replaying [0] 15)).cellPasses 8 (dataCell 0 0) = true ∧
    (linkLive 6 0 (replaying [0] 15)).cellPasses 8 (dataCell 0 0) = false := by decide +kernel
theorem test_Cell_send_new : let x := { LinkSt.idle with queues := [[⟨dataCell 0 0, .built, 0, 0, 0⟩], [], [], []], granted := [4, 0, 0, 0] }
    (linkLive 7 0 x).nextVl 8 = some 0 ∧ x.replay.length + 1 < 256 * (linkLive 7 0 x).rd R.link_WIDTH 8 ∧ (linkLive 7 0 LinkSt.idle).nextVl 8 = none := by
  decide +kernel
/-- A reassembly context of device 2. -/
def reasmLive (fid : Nat) : State :=
  { live with fab := { live.fab with reasm := [(2 * 4096 + 1, ⟨dataCell 0 0, 1, [], false, false, 0, 0, fid, false⟩)] } }
theorem test_Reasm : (reasmLive 0).past 0 (ticksUs ((reasmLive 0).rd R.fab_REASM_TIMEOUT 0)) = true ∧
    mfind (reasmLive 9).fab.reasm (2 * 4096 + 1) = some ⟨dataCell 0 0, 1, [], false, false, 0, 0, 9, false⟩ ∧
    live.past 1000000000 (ticksUs (live.rd R.fab_REASM_TIMEOUT 0)) = false := by decide +kernel

/-- The lanes of link 8 are READY. -/
def alignLive : State := (linkLive 1 0 LinkSt.idle).each [8, 9] (fun t l => (t.wr R.lane_OWNER l (2 ^ 15 + 8)).wr R.lane_TRAIN_STATE l 5)
theorem test_Align : alignLive.fnState .link 8 = 3 ∧ alignLive.rd R.link_LINK_STATE 8 = 1 ∧ alignLive.lanesReady (2 ^ 15 + 8) = true := by
  decide +kernel
/-- A hello of device 5. -/
def helloOf (cls flags : Nat) : Hello := ⟨77, 3, 5, 2, 1, 4, cls, 0, flags, 8, 0⟩
def knownLive (st : Nat) (x : LinkSt) : State :=
  ((((linkLive st 0 x).wr R.idn_VALID 5 1).wr R.idn_SERIAL 5 77).wr R.idn_INCARNATION 5 3).wr R.fab_VERSION_MAX 0 2
theorem test_Hello : (linkLive 3 0 LinkSt.idle).fnState .link 8 = 3 ∧ ((knownLive 3 LinkSt.idle).solder 8 (helloOf 0 32)) = (7, 0, 2, 0) ∧
    ((knownLive 3 LinkSt.idle).solder 8 (helloOf 1 32)).1 = 5 ∧ ((linkLive 3 0 LinkSt.idle).solder 8 (helloOf 0 32)).1 = 4 ∧
    (after (.helloReceived 8 (helloOf 1 32)) (knownLive 2 LinkSt.idle)).map (fun t => (t.rd R.link_LINK_STATE 8, t.rd R.link_REASON 8)) = some (5, 2) := by
  decide +kernel
theorem test_Hello_send : (linkLive 2 0 LinkSt.idle).past LinkSt.idle.helloSent (ticksUs (live.rd R.fab_HELLO_INTERVAL 0)) = true ∧
    ((linkLive 2 0 LinkSt.idle).wr R.link_ASSIGN_STATUS 8 1).rd R.link_ASSIGN_STATUS 8 = 1 ∧
    (linkLive 3 0 LinkSt.idle).past LinkSt.idle.helloAt (ticksUs (live.rd R.fab_DEAD_INTERVAL 0)) = true := by decide +kernel
theorem test_Assigned : let s := (linkLive 3 0 { LinkSt.idle with hello := some (helloOf 0 0) }).wr R.ident_DEVICE_ID 0 0xFFF
    s.myId = 0xFFF ∧ s.fab.assigned = none ∧ (s.link 8).hello ≠ none ∧
    (after (.assignReceived 8 ⟨s.rd R.ident_SERIAL 0, 9, 1, 5, s.rd R.ident_INCARNATION 0⟩) s).map (fun t => (t.myId, t.rd R.rt_MEMBER0 5)) =
      some (9, 2 ^ 31 + 2 ^ 26 + 8 * 2 ^ 16) := by decide +kernel
theorem test_Assign_effect : ((linkLive 7 0 LinkSt.idle).takeEffect ⟨0, key R.link_ASSIGN 8, 1, [7, 8, 9]⟩).rd R.link_ASSIGN_STATUS 8 = 1 ∧
    (linkLive 7 0 LinkSt.idle).fnsIn .link 3 = [8] ∧
    ((linkLive 7 0 LinkSt.idle).takeEffect ⟨0, key R.fab_FENCE 0, 1, []⟩).rd R.link_LINK_STATE 8 = 8 := by decide +kernel
theorem test_Set_id : passes live R.fab_SET_ID 0 9 = true ∧ (after (.setId host 9) live).map (·.rd R.ident_DEVICE_ID 0) = some 9 := by
  decide +kernel

/-! ## Telemetry and dumps -/

/-- A flush of three packets waits; FLOWTEL is RUNNING in a region, or not. -/
def flushLive (tbl : Nat) : State :=
  let l : FlowLine := ⟨List.replicate 40 1, 2, 3, 3, 192, 0, 0, 0, List.replicate 16 0, 5, 6⟩
  let s := farLive.wr R.tbl_STATE 9 tbl
  { s with tel := { s.tel with flushes := [l] } }
theorem test_Flow_flush : (flushLive 1).tel.flushes.length = 1 ∧ (flushLive 1).on R.tmnt_LOCKED 9 = false ∧ (flushLive 1).rd R.tbl_STATE 9 ≠ 3 ∧
    (flushLive 3).rd R.tbl_STATE 9 = 3 ∧ (flushLive 3).stackUp 0 = true ∧ ((flushLive 1).wr R.tmnt_LOCKED 9 1).on R.tmnt_LOCKED 9 = true := by
  decide +kernel
def exportLive (since : Nat) : State := { live with tel := { live.tel with exports := [(1, ⟨1, [[1, 2]], since⟩)] } }
theorem test_Export_close : (mfind (exportLive 0).tel.exports 1).isSome = true ∧
    (exportLive 0).past 0 (ticksUs ((exportLive 0).rd R.expo_EXPORT_HOLD 1)) = true ∧
    (exportLive 0).past 1000000000 (ticksUs ((exportLive 0).rd R.expo_EXPORT_HOLD 1)) = false := by decide +kernel
def dumpLive (due dumps : Map DumpJob) : State := { live with tel := { live.tel with due, dumps } }
def job : DumpJob := ⟨2, 4096, false, [1, 7, 0, 0], [5], 0, 0, false⟩
def pairJob : DumpJob := ⟨2, 8192, true, [1, 7, 0, 0], [], 6, 1, false⟩
theorem test_Dumps : mfind (dumpLive [(3, job)] []).tel.due 3 = some job ∧ (dumpLive [(3, job)] []).passBusy job = false ∧
    (dumpLive [(3, pairJob)] [(2, ⟨0, 0, true, [1, 6, 0, 0], [], 0, 4, false⟩)]).passBusy pairJob = true ∧
    (after (.dumpDue 3) (dumpLive [(3, job)] [])).map (·.out) = some [.hostWrite 0 (4096 + 32) [5]] ∧
    (after (.dumpDone 3) (dumpLive [] [(3, job)])).map (fun t => t.tel.dumps) = some [] ∧
    (after (.dumpDone 3) (dumpLive [] [(3, pairJob)])).map (fun t => t.out.length) = some 2 ∧
    mfind ((dumpLive [] [(3, pairJob)]).dumpPairs 6 1).2.tel.passRead 6 = some ⟨0, 0, true⟩ := by decide +kernel
theorem test_Telemetry_effects : (live.takeEffect ⟨0, key R.dump_TRIGGER 3, 1, []⟩).tel.triggered = [(3, [])] ∧
    ((live.takeEffect ⟨0, key R.gtel_TRACE_SEED 2, 99, []⟩).pipe 9).lfsr = 99 ∧
    ((live.wr R.gen_PREV_STATE 0 1).takeEffect ⟨0, key R.gen_RETIRE 0, 1, []⟩).rd R.gen_RETIRED_SLOT 0 = 100 ∧ live.rd R.gen_PREV_STATE 0 ≠ 1 ∧
    (live.takeEffect ⟨0, key R.gen_ADOPT 0, 4, []⟩).rd R.gen_CURRENT 0 = 4 := by decide +kernel

/-! ## Well-formed commands: for each check, a term it refuses -/

/-- A principal that no dictionary has. -/
def nobody : Accessor := ⟨65, 0⟩

/-- No command of the list is well formed. -/
def refused (is : List Instr) : Bool := is.all (fun i => !i.wf)

theorem test_wf_time : refused [.epochBoundary (List.replicate 5 ⟨0, [], true⟩) [] [] [] [], .ageingScan 3, .dumpDue 16, .dumpDone 16,
    .reactionExpire 5, .refSwitch 8, .refLoss 4, .tsyncReqSend 768, .tsyncReceived 768 0 0 (toBE 6 0), .tsyncReceived 0 16 0 (toBE 6 0), .tsyncReceived 0 0 16 (toBE 6 0), .tsyncReceived 0 0 0 [],
    .tsyncReceived 0 0 0 (List.replicate 6 256), .tsyncTimeout 768 0, .tsyncTimeout 0 16] = true := by decide +kernel

theorem test_wf_service : refused [.registerWrite nobody 0x1010 0 1 4 0, .registerWrite host 65536 0 1 4 0, .registerWrite host 0x1010 65536 1 4 0,
    .registerWrite host 0x1010 0 256 4 0, .registerWrite host 0x1010 0 1 1 256, .registerWrite host 0x8070 0 3 2 0x107,
    .read 2 0 [], .read 0 0 [2 * 2 ^ 56], .write 0 0 [2 ^ 56], .describe 0 0 [2 ^ 56], .remoteTimeout 0 65536, .timeUpperRead 2 0, .timeUpperRead 0 (2 ^ 24),
    .timeUpperRead 0 0, .fastObjectWrite 2 0 0, .fastObjectWrite 0 (2 ^ 24) 0, .fastObjectWrite 0 4 0, .fastObjectWrite 0 0 (2 ^ 64),
    .fastObjectRead 2 0, .fastObjectRead 0 (2 ^ 24), .fastObjectRead 0 4, .select 65536 0 0 ⟨0, true⟩, .select 0 65536 0 ⟨0, true⟩, .select 0 0 256 ⟨0, true⟩, .select 0 0 0 ⟨128, true⟩,
    .statusSummary ⟨128, true⟩, .readValue ⟨128, true⟩, .writeValue [] ⟨128, true⟩,
    .writeValue (List.replicate 256 0) ⟨0, true⟩, .writeValue [256] ⟨0, true⟩] = true := by decide +kernel

theorem test_wf_requests : refused [.commitNow nobody, .commitAt nobody, .abort nobody, .discard nobody, .stop nobody .port 0, .stop host .port 65536,
    .start nobody .port 0, .start host .group 65536, .powerOff nobody .table 0, .powerOff host .table 65536, .startComplete .link 768 true,
    .stopComplete .chiplet 8, .stopLimit .tenant 4096, .powerOffComplete .carve 1, .arm nobody, .cancel nobody, .timeSwitchNow nobody,
    .enable nobody false 0, .enable host false 65536, .disable nobody true 0, .disable host true 65536, .resume nobody false 0, .resume host false 65536,
    .ack nobody 1 0, .ack host 65536 0, .ack host 1 (2 ^ 64), .force nobody 1, .force host 65536, .restart nobody 0, .restart host 65536, .switchover nobody 0,
    .switchover host 65536, .pairTest nobody 0 true, .pairTest host 256 true] = true := by decide +kernel

theorem test_wf_endpoint : refused [.ringDb 2 0 0, .ringDb 0 256 0, .ringDb 0 0 (2 ^ 64), .eventDb 2 0 0, .eventDb 0 64 0, .eventDb 0 0 (2 ^ 64),
    .txFetchComplete 256 [[0, 0, 0, 0]] [], .txFetchComplete 0 [] [], .txFetchComplete 0 (List.replicate 17 [0, 0, 0, 0]) [],
    .txFetchComplete 0 [[0, 0, 0]] [], .txFetchComplete 0 [[2 ^ 64, 0, 0, 0]] [], .txFetchComplete 0 [[0, 0, 0, 0]] [256],
    .rxDeliver ⟨256, 0⟩, .rxDeliver ⟨0, 4⟩, .rxHoldExpire 256, .intHoldoffExpire 256, .cplError 4096 2, .cplError 0 1, .cplError 0 5, .cplTimeout 4096,
    .functionLevelReset 2, .functionFreeze ⟨2, true⟩, .bar2Write 2 0 [0], .bar2Write 0 (2 ^ 36) [0], .bar2Write 0 0 [],
    .bar2Write 0 0 [256], .bar2Write 0 (2 ^ 28 - 1) [0, 0], .bar2Read 2 0 1 [], .bar2Read 0 (2 ^ 36) 1 [], .bar2Read 0 0 0 [],
    .bar2Read 0 0 4097 [], .bar2Read 0 (2 ^ 28 - 1) 2 []] = true := by decide +kernel

theorem test_wf_power : refused [.pairMismatch 8, .pewterHeartbeat 2, .heartbeatMissing 2, .pewterReady 2, .bootTimeout 2, .domainOn nobody 13,
    .domainOn host 65536, .domainOff nobody 13, .domainOff host 65536, .railOut 30 0 0 0, .railOut 0 65536 0 0, .tempHigh 17 0 0,
    .tempHigh 0 0 (2 ^ 31), .tempHigh 0 0 (-(2 ^ 31) - 1), .tempCrit 17 0, .tempCrit 0 (2 ^ 31), .tempCrit 0 (-(2 ^ 31) - 1), .thermalTrip 17 0,
    .thermalTrip 0 (2 ^ 31), .thermalTrip 0 (-(2 ^ 31) - 1), .thermalRecover [], .thermalRecover (List.replicate 17 (2 ^ 31)),
    .deviceReset nobody, .boot ⟨7, 256⟩ 0 0 0 none, .boot ⟨7, 0⟩ 256 0 0 none, .boot ⟨7, 0⟩ 0 256 0 none, .boot ⟨7, 0⟩ 0 0 (2 ^ 32) none,
    .flashRead nobody, .flashProgram nobody, .flashErase nobody, .otpUnlock nobody 0, .otpUnlock host 65536, .record nobody 1 [],
    .record host 65536 [], .record host 1 (List.replicate 257 0), .record host 1 [256], .lastGaspDone 6 0, .lastGaspDone 0 (2 ^ 32)] = true := by
  decide +kernel

theorem test_wf_memory : refused [.transferSlot 8 0 0, .transferSlot 0 24 0, .transferSlot 0 0 100, .transferComplete 8 0 [], .transferComplete 0 24 [],
    .pageRetireClear nobody 0, .pageRetireClear host 65536, .lock nobody 2 1, .lock host 65536 1, .lock host 2 256, .locked 26,
    .tableRead host 65536 (1 * 256), .tableWrite nobody 0 0, .insert nobody 0 0, .delete nobody 0 0, .move nobody 0 0, .search nobody 0 0,
    .commandComplete 8 [], .scrubRead 8 0 0, .scrubRead 0 (2 ^ 40) 0, .scrubRead 0 0 3] = true := by decide +kernel

theorem test_wf_pipelines : refused [.rxFrame 768 0 [] true 0, .rxFrame 0 3 [] true 0, .rxFrame 0 0 [256] true 0, .frameTail 768, .ingressSlot 32 [],
    .walkComplete 8 0 0, .walkComplete 0 512 0, .walkComplete 0 0 2, .assistComplete 8, .reinject 32 [], .walkTimeout 8 0 0,
    .walkTimeout 0 512 0, .walkTimeout 0 0 2, .mirrorCopy 8, .replicate 8, .portSelect 768 0, .portSelect 0 4, .egressPass 32 [],
    .pfcHoldRefresh 768, .pauseFrameSend 768, .pfcRefresh 768, .rxPause 768 0, .rxPause 0 65536, .rxPfc 768 0 (List.replicate 8 0),
    .rxPfc 0 256 (List.replicate 8 0), .rxPfc 0 0 [], .rxPfc 0 0 (List.replicate 8 65536), .pauseExpire 768 0, .pauseExpire 0 9,
    .load nobody 0, .load host 65536, .imageFetchComplete 8 [] true, .imageFetchComplete 0 [256] true, .boardTableLoad nobody,
    .boardTableFetchComplete [256]] = true := by decide +kernel

theorem test_wf_lanes : refused [.laneReady 768 3 [] 0 0, .laneReady 0 2 [] 0 0, .laneReady 0 6 [] 0 0, .laneReady 0 3 [2 ^ 35] 0 0,
    .laneReady 0 3 [] (2 ^ 64) 0, .cdrLoss 768, .retrain nobody 0, .retrain host 65536, .switchNow nobody 0, .switchNow host 65536, .trainTimeout 768,
    .inject nobody 0 0, .inject host 65536 0, .inject host 0 65536, .laneTestClear nobody 0, .laneTestClear host 65536,
    .fecCodeword 768 [] none, .fecCodeword 0 (List.replicate 9 0) none, .fecClear nobody 0, .fecClear host 65536,
    .flitReceived 8 true 0 (List.replicate 256 0), .flitReceived 0 true 4096 (List.replicate 256 0), .flitReceived 0 true 0 [],
    .flitReceived 0 true 0 (List.replicate 256 256), .d2dRetrainDone 8 true true, .linkStateChange 768 true 0,
    .linkStateChange 0 true 3, .portCounterClear nobody 0, .portCounterClear host 65536, .i2cReset nobody 0, .i2cReset host 65536,
    .stackTrained 8 true, .xlAligned 768, .checkerLock 768 0 0 0, .checkerLock 0 1 2 0, .checkerLock 0 1 0 2] = true := by decide +kernel

theorem test_wf_fabric : refused [.ackReceived 768 [0, 0] (toBE 5 0), .ackReceived 0 [0] (toBE 6 0), .ackReceived 0 [0, 0] [], .creditReceived 768 (toBE 7 0), .creditReceived 0 [],
    .creditReceived 0 (List.replicate 7 256), .fillerReceived 768 0, .fillerReceived 0 5, .unknownBlock 768, .elasticSlip 768, .nakRepeat 768,
    .replayTimeout 768, .cellSend 768 0, .cellSend 0 3, .creditSend 768, .helloSend 768, .neighbourLost 768, .reasmTimeout 4096 0,
    .reasmTimeout 0 4096, .setId nobody 0, .setId host 65536, .assign nobody 0, .assign host 65536, .proxyRequest nobody 0 [],
    .proxyRequest host 65536 [], .proxyRequest host 0 (List.replicate 257 0), .proxyRequest host 0 [256], .fence nobody 0, .fence host 256,
    .identityWrite nobody 0 1 0, .identityWrite host 65536 1 0, .identityWrite host 0 0 0, .identityWrite host 0 4 0,
    .identityWrite host 0 2 (2 ^ 64), .assignReceived 768 ⟨0, 0, 0, 0, 0⟩, .assignReceived 0 ⟨2 ^ 64, 0, 0, 0, 0⟩,
    .assignReceived 0 ⟨0, 4096, 0, 0, 0⟩, .assignReceived 0 ⟨0, 0, 4096, 0, 0⟩, .assignReceived 0 ⟨0, 0, 0, 4096, 0⟩,
    .assignReceived 0 ⟨0, 0, 0, 0, 2 ^ 32⟩, .reqStale 1048576, .reachChange 4096, .holdTimeExpire 4096, .standingPeriod 4096 0 0,
    .standingPeriod 0 1024 0, .standingPeriod 0 0 8, .standingLapse 4096 0 0, .standingLapse 0 1024 0, .standingLapse 0 0 8,
    .launchDue ⟨6144, 0⟩, .launchDue ⟨0, 4⟩, .retire nobody 0, .retire host 65536, .adopt nobody 0, .adopt host 65536, .exportClose 4, .trigger nobody 0,
    .trigger host 65536, .traceSeed nobody 0 0, .traceSeed host 65536 0, .traceSeed host 0 (2 ^ 32)] = true := by decide +kernel

/-- A hello, a cell's header and payload, and a link configuration that are well formed. -/
def goodHello : Hello := ⟨0, 0, 0, 0, 0, 0, 0, 0, 0, 0, 0⟩
def goodHeader : List Nat := List.replicate 16 0
def goodPayload : List Nat := List.replicate 256 0
def goodConfig : LinkConfig := ⟨6, 16⟩

theorem test_wf_records : refused [.helloReceived 768 goodHello, .helloReceived 0 { goodHello with serial := 2 ^ 64 },
    .helloReceived 0 { goodHello with incarnation := 2 ^ 32 }, .helloReceived 0 { goodHello with id := 4096 },
    .helloReceived 0 { goodHello with verMax := 16 }, .helloReceived 0 { goodHello with verMin := 16 },
    .helloReceived 0 { goodHello with link := 1024 }, .helloReceived 0 { goodHello with cls := 4 },
    .helloReceived 0 { goodHello with level := 65536 }, .helloReceived 0 { goodHello with flags := 256 },
    .helloReceived 0 { goodHello with peer := 1024 }, .helloReceived 0 { goodHello with reason := 256 },
    .cellReceived 768 0 none goodHeader goodPayload, .cellReceived 0 4096 none goodHeader goodPayload,
    .cellReceived 0 0 (some 4096) goodHeader goodPayload, .cellReceived 0 0 none [] goodPayload, .cellReceived 0 0 none goodHeader [],
    .cellReceived 0 0 none (List.replicate 16 256) goodPayload, .cellReceived 0 0 none goodHeader (List.replicate 256 256),
    .endpointResumed (.trained { goodConfig with speed := 7 }), .endpointResumed (.trained { goodConfig with width := 17 }),
    .endpointResumed (.configured { FnConf.reset with readSize := 0 } FnConf.reset), .endpointResumed (.configured FnConf.reset { FnConf.reset with bars := [] }), .boot ⟨7, 0⟩ 0 0 0 (some { goodConfig with speed := 0 }),
    .i2cRead 4 0 ⟨0, 0⟩ 0 [], .i2cRead 0 0 ⟨0, 0⟩ 129 [], .i2cWrite 4 0 ⟨0, 0⟩ 0, .i2cWrite 0 0 ⟨0, 0⟩ 129, .i2cProbe 4 0 ⟨0, 0⟩, .sclTimeout 4 ⟨0, 0, 0⟩ [],
    .sclTimeout 0 ⟨10, 0, 0⟩ [],
    .spillIssue (3 * 2 ^ 24), .fillComplete 0 0 [512], .transmitFrame 768 0 none] = true := by decide +kernel

/-- Their well-formed counterparts pass. -/
theorem test_wf_passes : (Instr.helloReceived 0 goodHello).wf && (Instr.cellReceived 0 0 none goodHeader goodPayload).wf
    && (Instr.endpointResumed (.trained goodConfig)).wf && (Instr.endpointResumed (.configured FnConf.reset FnConf.reset)).wf && (Instr.spillIssue 0).wf && (Instr.stop host .port 768).wf = true := by decide +kernel

/-- An ill-formed command has no effect. -/
theorem test_wf_nothing : exec (.dumpDue 16) live = .next live := by rfl

end Sys2Proof.Tests
end

section
/-! PROOFS. How one write of a trigger is answered, and what the commit triggers, ARM and CANCEL do as they are applied (R32, R42, R45, R439,
R440). -/

namespace Sys2Proof.Machine

/-! ## The answer to a request of one write (R32, R77) -/

/-- A state whose request was answered DA_OK: the status shown and the request counted. -/
def State.answerOk (t : State) : State := ({ t with acc := { t.acc with lastStatus := daOk } }).bump R.svc_REQUESTS 0

theorem State.singleWrite_accepted {s : State} {who : Accessor} {k len v : Nat} (h : Accepted s who k len v) :
    s.singleWrite who k len v = (s.applyWrite who k v []).answerOk := by
  unfold Accepted at h
  simp [State.singleWrite, State.singleWriteWith, State.noteAccess, State.answerOk, h]

theorem State.singleWrite_refused {s : State} {who : Accessor} {k len v st : Nat} (h : s.checkWrite (s.overlay k v) who k len v = st)
    (hst : st ≠ daOk) : s.singleWrite who k len v = ((s.noteTrigger s k v st).noteAccess k st).bump R.svc_REQUESTS 0 := by
  simp [State.singleWrite, State.singleWriteWith, h, hst]

theorem only_answerOk (t : State) : Only [.acc] [key R.svc_REQUESTS 0] t t.answerOk :=
  only_fold (only_mono (by simp) (by simp) (only_acc t _)) (only_bump _ R.svc_REQUESTS 0)

/-- An effect that leaves the count of requests alone is answered DA_OK and counted once. -/
theorem answered_answerOk {ps : List Part} {ks : List Nat} {s t : State} (h : Only ps ks s t)
    (hk : key R.svc_REQUESTS 0 ∉ ks := by decide) : Answered s t.answerOk daOk := by
  refine ⟨rfl, ?_⟩
  rw [← only_rd h R.svc_REQUESTS 0 hk]
  exact State.rd_wr_same ..

/-- Answering an effect that may touch the service adds the count of requests to what it touches. -/
theorem only_answerOk_of {ps : List Part} {ks : List Nat} {s t : State} (h : Only ps ks s t) (hacc : .acc ∈ ps := by decide) :
    Only ps (key R.svc_REQUESTS 0 :: ks) s t.answerOk :=
  only_fold (only_mono (fun _ hp => hp) (fun _ hk => List.mem_cons_of_mem _ hk) h) (only_answerOk t) (by simpa using hacc) (by simp)

/-- An effect that ends by showing a status, answered DA_OK: the answer, the status shown, and the frame. -/
theorem answerOk_wr {ps : List Part} {s t : State} (r : Reg) (v : Nat) (h : Only ps [] s t) (hacc : .acc ∈ ps := by decide)
    (hr : key R.svc_REQUESTS 0 ≠ key r 0 := by decide) :
    Answered s (t.wr r 0 v).answerOk daOk ∧ (t.wr r 0 v).answerOk.rd r 0 = v ∧
      Only ps [key R.svc_REQUESTS 0, key r 0] s (t.wr r 0 v).answerOk := by
  have hw : Only ps [key r 0] s (t.wr r 0 v) := only_fold (only_mono (by simp) (by simp) h) (only_wr t r 0 v)
  refine ⟨answered_answerOk hw (by simpa using hr), ?_, only_answerOk_of hw hacc⟩
  rw [only_rd (only_answerOk _) r 0 (by simpa using hr.symm)]
  exact State.rd_wr_same ..

/-! ## Triggers that act as they are applied (R42, R439) -/

/-- The row of the commit trigger (R39). -/
theorem rowOf_commitTrigger : rowOf (key R.commit_TRIGGER 0) = some ⟨0x02, 0x02, .enum8, .wo, .dash, .range 1 4 [], 1, false⟩ := by
  decide +kernel

/-- The row of ARM (R464). -/
theorem rowOf_armTrigger : rowOf (key R.tchg_ARM 0) = some ⟨0x06, 0x06, .enum8, .wo, .dash, .range 1 2 [], 1, false⟩ := by
  decide +kernel

/-- A code out of a closed range is taken as it is written: it has no reserved bits (R3). -/
theorem maskValue_code {k lo hi v : Nat} {also : List Nat} {r : Row} (hage : keyIndex k ≠ 0x4004) (hmap : R.grp_TCAM_MAP.has k = false)
    (hty : r.ty = .enum8) (hrng : r.rng = .range lo hi also) : maskValue k r v = v := by
  simp [maskValue, maskBits, hage, hmap, hty, hrng]

/-- A write of a write-only sub-index that acts as it is applied (R42, R439). -/
theorem State.applyWrite_actsNow {s : State} {who : Accessor} {k v : Nat} {aux : List Nat} {r : Row} (hrow : rowOf k = some r)
    (hacc : r.acc = .wo) (hnow : actsNow k = true) : s.applyWrite who k v aux = s.actNow who.principal k (maskValue k r v) := by
  simp [State.applyWrite, hrow, hacc, hnow]

theorem applyWrite_commitTrigger (s : State) (who : Accessor) (v : Nat) (aux : List Nat) :
    s.applyWrite who (key R.commit_TRIGGER 0) v aux = s.commitTrigger v := by
  have htrigger : R.commit_TRIGGER.has (key R.commit_TRIGGER 0) = true := by decide
  rw [State.applyWrite_actsNow rowOf_commitTrigger rfl (by decide), maskValue_code (by decide) (by decide) rfl rfl]
  simp [State.actNow, htrigger]

theorem applyWrite_armTrigger (s : State) (who : Accessor) (v : Nat) (aux : List Nat) :
    s.applyWrite who (key R.tchg_ARM 0) v aux = s.armTrigger v := by
  have hcommit : R.commit_TRIGGER.has (key R.tchg_ARM 0) = false := by decide
  have htrigger : R.tchg_ARM.has (key R.tchg_ARM 0) = true := by decide
  rw [State.applyWrite_actsNow rowOf_armTrigger rfl (by decide), maskValue_code (by decide) (by decide) rfl rfl]
  simp [State.actNow, hcommit, htrigger]

theorem commitTrigger_now (s : State) : s.commitTrigger 1 =
    ({ s with acc := { s.acc with armed := some ⟨s.latest R.commit_SCOPE 0, none⟩ } }).wr R.commit_STATUS 0 1 := rfl

theorem commitTrigger_at (s : State) : s.commitTrigger 2 =
    ({ s with acc := { s.acc with armed := some ⟨s.latest R.commit_SCOPE 0, some (timeOf (s.latest R.commit_COMMIT_AT 0))⟩ } }).wr
      R.commit_STATUS 0 1 := rfl

theorem commitTrigger_abort_armed {s : State} (h : s.acc.armed.isSome = true) : s.commitTrigger 3 =
    ({ s with acc := { s.acc with armed := none } }).wr R.commit_STATUS 0 5 := by
  simp [State.commitTrigger, h]

theorem commitTrigger_abort_idle {s : State} (h : s.acc.armed = none) : s.commitTrigger 3 = s := by
  simp [State.commitTrigger, h]

theorem commitTrigger_discard (s : State) : s.commitTrigger 4 =
    { s with acc := { s.acc with staged := s.acc.staged.filter (fun e => !inScope (s.latest R.commit_SCOPE 0) e.1) } } := rfl

/-- The change that ARM arms: the rate, the step and the apply point as they stand (R439). -/
def State.armedChange (s : State) : TimeChange :=
  let mode := s.latest R.tchg_APPLY_MODE 0
  ⟨s.latest R.tchg_NEW_RATE 0, sext 64 (s.latest R.tchg_OFFSET_STEP 0), mode,
    if mode = 0 then s.latest R.tchg_APPLY_COUNT 0 else if mode = 1 then timeOf (s.latest R.tchg_APPLY_TIME 0) else s.soon⟩

theorem armTrigger_arm (s : State) : s.armTrigger 1 =
    ({ s with clk := { s.clk with change := some s.armedChange } }).wr R.tchg_STATUS 0 1 := rfl

theorem armTrigger_cancel_armed {s : State} (h : s.clk.change.isSome = true) : s.armTrigger 2 =
    ({ s with clk := { s.clk with change := none } }).wr R.tchg_STATUS 0 4 := by
  simp [State.armTrigger, h]

theorem armTrigger_cancel_idle {s : State} (h : s.clk.change = none) : s.armTrigger 2 = s := by
  simp [State.armTrigger, h]

/-- The apply point of the change armed is that of APPLY_MODE: a count, a time, or 128 ns ahead. -/
theorem armedChange_point (s : State) :
    (s.armedChange.mode = 0 → s.armedChange.point = s.latest R.tchg_APPLY_COUNT 0) ∧
    (s.armedChange.mode = 1 → s.armedChange.point = timeOf (s.latest R.tchg_APPLY_TIME 0)) ∧
    (1 < s.armedChange.mode → s.armedChange.point = s.now + 128 * 65536) := by
  refine ⟨fun h => if_pos h, fun h => ?_, fun h => ?_⟩
  · have h0 : s.latest R.tchg_APPLY_MODE 0 ≠ 0 := by have : s.latest R.tchg_APPLY_MODE 0 = 1 := h; omega
    exact (if_neg h0).trans (if_pos h)
  · have h0 : s.latest R.tchg_APPLY_MODE 0 ≠ 0 := Nat.ne_of_gt (Nat.lt_of_succ_lt h)
    exact (if_neg h0).trans (if_neg (Nat.ne_of_gt h))

/-! ## The commands -/

section
variable {i : Instr} {s t : State} {who : Accessor} {r : Reg} {n v : Nat} {P : State → Prop}

/-- A command that is one accepted write of a trigger ends in the effect of that write, answered DA_OK. -/
theorem does_trigger (hi : exec i s = outcome who.ok s (s.trigger who r n v)) (hwho : who.ok = true)
    (h : Accepted s who (key r n) (typeLen (key r n)) v) (heffect : s.applyWrite who (key r n) v [] = t) (hP : P t.answerOk) : Does i s P := by
  refine does_of (hi.trans (outcome_of hwho ..)) ?_
  rw [State.trigger, State.singleWrite_accepted h, heffect]
  exact hP

/-- A commit trigger that sets the service and shows a status changes nothing else. -/
theorem does_commitTrigger_shown {a : Access} {status : Nat} (hi : exec i s = outcome who.ok s (s.trigger who R.commit_TRIGGER 0 v))
    (hwho : who.ok = true) (h : Accepted s who (key R.commit_TRIGGER 0) (typeLen (key R.commit_TRIGGER 0)) v)
    (heffect : s.commitTrigger v = ({ s with acc := a }).wr R.commit_STATUS 0 status) :
    Does i s (fun u => Answered s u daOk ∧ u.rd R.commit_STATUS 0 = status ∧ u.acc = { a with lastStatus := daOk } ∧
      Only [.acc] [key R.svc_REQUESTS 0, key R.commit_STATUS 0] s u) := by
  refine does_trigger hi hwho h ((applyWrite_commitTrigger ..).trans heffect) ?_
  obtain ⟨hans, hstatus, honly⟩ := answerOk_wr R.commit_STATUS status (only_acc s a)
  exact ⟨hans, hstatus, rfl, honly⟩

/-- ARM or CANCEL that sets the armed change and shows a status changes nothing else. -/
theorem does_armTrigger_shown {change : Option TimeChange} {status : Nat} (hi : exec i s = outcome who.ok s (s.trigger who R.tchg_ARM 0 v))
    (hwho : who.ok = true) (h : Accepted s who (key R.tchg_ARM 0) (typeLen (key R.tchg_ARM 0)) v)
    (heffect : s.armTrigger v = ({ s with clk := { s.clk with change := change } }).wr R.tchg_STATUS 0 status) :
    Does i s (fun u => Answered s u daOk ∧ u.rd R.tchg_STATUS 0 = status ∧ u.clk = { s.clk with change := change } ∧
      Only [.acc, .clk] [key R.svc_REQUESTS 0, key R.tchg_STATUS 0] s u) := by
  refine does_trigger hi hwho h ((applyWrite_armTrigger ..).trans heffect) ?_
  obtain ⟨hans, hstatus, honly⟩ :=
    answerOk_wr (ps := [.acc, .clk]) R.tchg_STATUS status (only_mono (by simp) (by simp) (only_clk s { s.clk with change := change }))
  exact ⟨hans, hstatus, rfl, honly⟩

/-- A trigger without effect is answered DA_OK, and nothing else changes. -/
theorem does_trigger_idle (hi : exec i s = outcome who.ok s (s.trigger who r n v)) (hwho : who.ok = true)
    (h : Accepted s who (key r n) (typeLen (key r n)) v) (heffect : s.applyWrite who (key r n) v [] = s) :
    Does i s (fun u => Answered s u daOk ∧ u.acc = { s.acc with lastStatus := daOk } ∧ Only [.acc] [key R.svc_REQUESTS 0] s u) :=
  does_trigger hi hwho h heffect ⟨answered_answerOk (only_refl [] [] s), rfl, only_answerOk s⟩

end

/-! ## DISCARD while a commit is armed (R44, R45) -/

theorem firstFail_cons_eq_daOk {bad : Bool} {st : Nat} {t : List (Bool × Nat)} (hst : st ≠ daOk) :
    firstFail ((bad, st) :: t) = daOk ↔ bad = false ∧ firstFail t = daOk := by
  cases bad <;> simp [firstFail, hst]

theorem firstFail_cons_false {bad : Bool} {st : Nat} {t : List (Bool × Nat)} (h : bad = false) :
    firstFail ((bad, st) :: t) = firstFail t := by
  simp [firstFail, h]

theorem firstFail_cons_true {bad : Bool} {st : Nat} {t : List (Bool × Nat)} (h : bad = true) :
    firstFail ((bad, st) :: t) = st := by
  simp [firstFail, h]

theorem checkTo10_of_accepted {s : State} {who : Accessor} {k len v : Nat} (h : Accepted s who k len v) : s.checkTo10 who k len v = daOk := by
  by_cases hok : s.checkTo10 who k len v = daOk
  · exact hok
  · have hrefused : s.checkWrite (s.overlay k v) who k len v = s.checkTo10 who k len v := by
      unfold State.checkWrite
      exact if_pos hok
    exact hrefused.symm.trans h

theorem checkWrite_of_checkTo10 {s next : State} {who : Accessor} {k len v st : Nat} (h : s.checkTo10 who k len v = st) (hst : st ≠ daOk) :
    s.checkWrite next who k len v = st := by
  simp [State.checkWrite, h, hst]

/-- The service is held by an armed commit against DISCARD. -/
theorem badState_discard {s : State} (h : s.acc.armed.isSome = true) : badState s (key R.commit_TRIGGER 0) 4 = true := by
  have hindex : keyIndex (key R.commit_TRIGGER 0) = 0x1010 := by decide
  have hsub : keySub (key R.commit_TRIGGER 0) = 2 := by decide
  simp [badState, hindex, commitHeld, hsub, h]

/-- A DISCARD that nothing but an armed commit stands against is refused with DA_STATE: the checks before that of the state do not look at
the armed commit. -/
theorem checkTo10_discard_armed {s : State} {who : Accessor} {len : Nat} (harmed : s.acc.armed.isSome = true)
    (h : ({ s with acc := { s.acc with armed := none } } : State).checkTo10 who (key R.commit_TRIGGER 0) len 4 = daOk) :
    s.checkTo10 who (key R.commit_TRIGGER 0) len 4 = daState := by
  unfold State.checkTo10 at h ⊢
  rw [rowOf_commitTrigger] at h ⊢
  obtain ⟨henabled, h⟩ := (firstFail_cons_eq_daOk (by decide)).1 h
  obtain ⟨hobject, h⟩ := (firstFail_cons_eq_daOk (by decide)).1 h
  obtain ⟨hright, h⟩ := (firstFail_cons_eq_daOk (by decide)).1 h
  obtain ⟨haccess, h⟩ := (firstFail_cons_eq_daOk (by decide)).1 h
  obtain ⟨hbusy, -⟩ := (firstFail_cons_eq_daOk (by decide)).1 h
  exact (firstFail_cons_false henabled).trans <| (firstFail_cons_false hobject).trans <| (firstFail_cons_false hright).trans <|
    (firstFail_cons_false haccess).trans <| (firstFail_cons_false hbusy).trans <|
    firstFail_cons_true (by rw [badState_discard harmed, Bool.or_true])

/-- A refused request of one write that records nothing of its own: what is shown of it, and the frame. -/
theorem answered_refused (s : State) (k st : Nat) (hst : st ≠ daOk) :
    let u := (s.noteAccess k st).bump R.svc_REQUESTS 0
    Answered s u st ∧ u.acc = { s.acc with lastStatus := st } ∧
      Only [.acc] [key R.svc_REQUESTS 0, key R.svc_LAST_ERROR_REF 0, key R.svc_LAST_ERROR_STATUS 0] s u := by
  have hn : s.noteAccess k st =
      { ((s.wr R.svc_LAST_ERROR_REF 0 k).wr R.svc_LAST_ERROR_STATUS 0 st) with acc := { s.acc with lastStatus := st } } := by
    simp [State.noteAccess, hst]
  have ho : Only [.acc] [key R.svc_LAST_ERROR_REF 0, key R.svc_LAST_ERROR_STATUS 0] s (s.noteAccess k st) := by
    rw [hn]
    exact only_fold (only_fold (only_fold (only_refl ..) (only_wr s R.svc_LAST_ERROR_REF 0 k)) (only_wr _ R.svc_LAST_ERROR_STATUS 0 st))
      (only_acc ..)
  refine ⟨⟨rfl, ?_⟩, by rw [hn]; rfl, only_fold (only_mono (by simp) (by simp) ho) (only_bump _ R.svc_REQUESTS 0)⟩
  rw [← only_rd ho R.svc_REQUESTS 0]
  exact State.rd_wr_same ..

/-- A failing DISCARD leaves the status of the last commit (R41 and R43 speak of COMMIT_NOW and COMMIT_AT). -/
theorem noteTrigger_discard (s : State) (st : Nat) : s.noteTrigger s (key R.commit_TRIGGER 0) 4 st = s := by
  have harm : R.tchg_ARM.has (key R.commit_TRIGGER 0) = false := by decide
  simp [State.noteTrigger, harm]

theorem discard_refused_armed {s : State} {who : Accessor} (hwho : who.ok = true) (harmed : s.acc.armed.isSome = true)
    (h : Accepted { s with acc := { s.acc with armed := none } } who (key R.commit_TRIGGER 0) (typeLen (key R.commit_TRIGGER 0)) 4) :
    Does (.discard who) s (fun u => Answered s u daState ∧ u.acc = { s.acc with lastStatus := daState } ∧
      Only [.acc] [key R.svc_REQUESTS 0, key R.svc_LAST_ERROR_REF 0, key R.svc_LAST_ERROR_STATUS 0] s u) := by
  have hst : daState ≠ daOk := by decide
  have hcheck := checkWrite_of_checkTo10 (next := s.overlay (key R.commit_TRIGGER 0) 4) (checkTo10_discard_armed harmed (checkTo10_of_accepted h)) hst
  refine does_of (outcome_of hwho ..) ?_
  rw [State.trigger, State.singleWrite_refused hcheck hst, noteTrigger_discard]
  exact answered_refused s _ daState hst

end Sys2Proof.Machine

namespace Sys2Proof

open Machine

/-- Settles O29: each command is one accepted write of its trigger, whose effect the equations of `commitTrigger` and `armTrigger` give;
DISCARD while a commit is armed fails the check of the state. -/
theorem commitAndTimeTriggers : Obligations.CommitAndTimeTriggers := by
  unfold Obligations.CommitAndTimeTriggers
  intro s who hwho ok req done scope
  refine ⟨fun h => ?commitNow, fun h => ?commitAt, fun h harmed => ?abort, fun h hidle => ?abortIdle, fun h => ?discard,
    fun harmed h => discard_refused_armed hwho harmed h, fun h => ?arm, fun h hchange => ?cancel, fun h hidle => ?cancelIdle⟩
  case commitNow => exact does_commitTrigger_shown rfl hwho h (commitTrigger_now s)
  case commitAt => exact does_commitTrigger_shown rfl hwho h (commitTrigger_at s)
  case abort => exact does_commitTrigger_shown rfl hwho h (commitTrigger_abort_armed harmed)
  case abortIdle =>
    exact does_trigger_idle rfl hwho h ((applyWrite_commitTrigger ..).trans (commitTrigger_abort_idle hidle))
  case discard =>
    refine does_trigger rfl hwho h ((applyWrite_commitTrigger ..).trans (commitTrigger_discard s)) ?_
    exact ⟨answered_answerOk (only_acc s _), rfl, only_answerOk_of (only_acc s _)⟩
  case arm =>
    obtain ⟨u, hexec, hans, hstatus, hclk, honly⟩ := does_armTrigger_shown (i := .arm who) rfl hwho h (armTrigger_arm s)
    have hchange : u.clk.change = some s.armedChange := by rw [hclk]
    obtain ⟨hcount, htime, hnext⟩ := armedChange_point s
    exact ⟨u, hexec, hans, hstatus, ⟨s.armedChange, hchange, rfl, rfl, rfl, hcount, htime, hnext⟩, hchange ▸ hclk, honly⟩
  case cancel => exact does_armTrigger_shown rfl hwho h (armTrigger_cancel_armed hchange)
  case cancelIdle =>
    exact does_trigger_idle rfl hwho h ((applyWrite_armTrigger ..).trans (armTrigger_cancel_idle hidle))

end Sys2Proof
end

section
/-! PROOFS. The pause frames of a port: their octets, when they are sent, and what counts them (R368, with R309, R310 and R114). -/

namespace Sys2Proof.Machine

/-! ## Octets at an offset -/

@[simp] theorem length_toLE (n v : Nat) : (toLE n v).length = n := by
  induction n generalizing v with
  | zero => rfl
  | succ n ih => simp [toLE, ih]

@[simp] theorem length_toBE (n v : Nat) : (toBE n v).length = n := by simp [toBE]

/-- A slice is the octets from its offset on, zero past the end. -/
theorem slice_eq_map (bs : Octets) (at_ n : Nat) : slice bs at_ n = (List.range n).map (fun i => bs[at_ + i]?.getD 0) := by
  refine List.ext_getElem? fun i => ?_
  simp only [slice, List.getElem?_append, List.getElem?_replicate, List.length_take, List.length_drop, List.getElem?_take,
    List.getElem?_drop, List.getElem?_map]
  by_cases hi : i < n
  · by_cases hin : at_ + i < bs.length
    · have hread : i < min n (bs.length - at_) := by omega
      simp [hi, hin, hread]
    · have hread : ¬ i < min n (bs.length - at_) := by omega
      have hzero : i - min n (bs.length - at_) < n - min n (bs.length - at_) := by omega
      simp [hi, hin, hread, hzero]
  · have hread : ¬ i < min n (bs.length - at_) := by omega
    have hend : ¬ i - min n (bs.length - at_) < n - min n (bs.length - at_) := by omega
    simp [hi, hread, hend]

/-- Two slices with the same octets, zero past the end, are one. -/
theorem slice_congr {bs bs' : Octets} {at_ at' n : Nat} (h : ∀ i < n, bs[at_ + i]?.getD 0 = bs'[at' + i]?.getD 0) :
    slice bs at_ n = slice bs' at' n := by
  rw [slice_eq_map, slice_eq_map]
  exact List.map_congr_left fun i hi => h i (List.mem_range.1 hi)

theorem slice_append_left {a : Octets} (b : Octets) {at_ n : Nat} (h : at_ + n ≤ a.length) : slice (a ++ b) at_ n = slice a at_ n :=
  slice_congr fun i hi => by rw [List.getElem?_append_left (by omega)]

theorem slice_append_right {a : Octets} (b : Octets) {at_ n : Nat} (h : a.length ≤ at_) :
    slice (a ++ b) at_ n = slice b (at_ - a.length) n :=
  slice_congr fun i _ => by rw [List.getElem?_append_right (by omega), Nat.sub_add_comm h]

/-- Zeros after an octet string read as its end does. -/
theorem slice_append_zeros (a : Octets) (k at_ n : Nat) : slice (a ++ List.replicate k 0) at_ n = slice a at_ n := by
  refine slice_congr fun i _ => ?_
  by_cases hin : at_ + i < a.length
  · rw [List.getElem?_append_left hin]
  · rw [List.getElem?_append_right (by omega), List.getElem?_eq_none (l := a) (by omega), List.getElem?_replicate]
    split <;> rfl

theorem slice_whole (a : Octets) : slice a 0 a.length = a := by simp [slice]

theorem slice_past {a : Octets} {at_ n : Nat} (h : a.length ≤ at_) : slice a at_ n = List.replicate n 0 := by
  simp [slice, List.drop_eq_nil_of_le h]

theorem length_flatMap_range {g : Nat → Octets} {w : Nat} (hg : ∀ i, (g i).length = w) (n : Nat) :
    ((List.range n).flatMap g).length = w * n := by
  induction n with
  | zero => rfl
  | succ n ih => rw [List.range_succ, List.flatMap_append, List.length_append, ih, List.flatMap_singleton, hg, Nat.mul_succ]

/-- Octet strings of one length, one after another: each stands at its multiple of that length. -/
theorem slice_flatMap_range {g : Nat → Octets} {w : Nat} (hg : ∀ i, (g i).length = w) {n t : Nat} (ht : t < n) :
    slice ((List.range n).flatMap g) (w * t) w = g t := by
  have hlen := length_flatMap_range hg
  induction n with
  | zero => omega
  | succ n ih =>
    rw [List.range_succ, List.flatMap_append, List.flatMap_singleton]
    rcases Nat.lt_succ_iff_lt_or_eq.1 ht with hlt | rfl
    · rw [slice_append_left _ (by rw [hlen, ← Nat.mul_succ]; exact Nat.mul_le_mul_left w hlt), ih hlt]
    · rw [slice_append_right _ (Nat.le_of_eq (hlen t)), hlen, Nat.sub_self, ← hg t, slice_whole]

/-- Octets in network byte order spell the number they were made from, as far as they reach. -/
theorem beNat_toBE (n v : Nat) : beNat (toBE n v) = v % 256 ^ n := by
  unfold beNat toBE
  rw [List.foldl_reverse]
  induction n generalizing v with
  | zero => simp [toLE, Nat.mod_one]
  | succ n ih =>
    simp only [toLE, List.foldr_cons, ih]
    rw [Nat.pow_succ', Nat.mod_mul, Nat.mod_mod]
    omega

theorem fieldAt_toBE (n v : Nat) : fieldAt (toBE n v) 0 n = v % 256 ^ n := by
  have hwhole := slice_whole (toBE n v)
  rw [length_toBE] at hwhole
  rw [fieldAt, hwhole, beNat_toBE]

theorem fieldAt_toBE_append (n v : Nat) (b : Octets) : fieldAt (toBE n v ++ b) 0 n = v % 256 ^ n := by
  rw [fieldAt, slice_append_left b (by simp), ← fieldAt, fieldAt_toBE]

theorem fieldAt_append_right {a : Octets} (b : Octets) {at_ n : Nat} (h : a.length ≤ at_) :
    fieldAt (a ++ b) at_ n = fieldAt b (at_ - a.length) n := by
  rw [fieldAt, slice_append_right b h, fieldAt]

/-! ## The octets of a MAC control frame (R368) -/

/-- The addresses and the EtherType of a MAC control frame. -/
def ctrlHead (mac : Nat) : Octets := toBE 6 pauseAddr ++ toBE 6 (mac % 2 ^ 48) ++ toBE 2 0x8808

/-- A MAC control frame: its head, its body, zeros up to 60 octets, and the FCS. -/
def ctrlFrame (mac : Nat) (body : Octets) : Octets :=
  let f := ctrlHead mac ++ body ++ List.replicate (60 - (ctrlHead mac ++ body).length) 0
  f ++ toLE 4 (crc32 0xFFFFFFFF f)

/-- The body of a PAUSE frame: opcode and pause time. -/
def pauseBody (time : Nat) : Octets := toBE 2 1 ++ toBE 2 time

/-- The body of a PFC frame: opcode, class-enable vector, and eight times. -/
def pfcBody (vector : Nat) (time : Nat → Nat) : Octets :=
  toBE 2 0x0101 ++ toBE 2 vector ++ (List.range 8).flatMap (fun t => toBE 2 (if bit vector t then time t else 0))

@[simp] theorem length_ctrlHead (mac : Nat) : (ctrlHead mac).length = 14 := by simp [ctrlHead]

@[simp] theorem length_pauseBody (time : Nat) : (pauseBody time).length = 4 := by simp [pauseBody]

@[simp] theorem length_pfcBody (vector : Nat) (time : Nat → Nat) : (pfcBody vector time).length = 20 := by
  have htimes := length_flatMap_range (fun t => length_toBE 2 (if bit vector t then time t else 0)) 8
  simp only [pfcBody, List.length_append, length_toBE]
  omega

section
variable {mac : Nat} {body : Octets}

/-- The octets before the FCS: 60 of them, then the FCS over them. -/
theorem ctrlFrame_split (hbody : body.length ≤ 46) : ∃ (f : Octets) (k : Nat), f.length = 60 ∧
    ctrlFrame mac body = f ++ toLE 4 (crc32 0xFFFFFFFF f) ∧ f = ctrlHead mac ++ body ++ List.replicate k 0 := by
  refine ⟨_, _, ?_, rfl, rfl⟩
  simp only [List.length_append, length_ctrlHead, List.length_replicate]
  omega

theorem length_ctrlFrame (hbody : body.length ≤ 46) : (ctrlFrame mac body).length = 64 := by
  obtain ⟨f, k, hlen, hf, -⟩ := ctrlFrame_split (mac := mac) hbody
  rw [hf, List.length_append, hlen, length_toLE]

theorem ctrlFrame_fcs (hbody : body.length ≤ 46) :
    (ctrlFrame mac body).drop 60 = toLE 4 (crc32 0xFFFFFFFF ((ctrlFrame mac body).take 60)) := by
  obtain ⟨f, k, hlen, hf, -⟩ := ctrlFrame_split (mac := mac) hbody
  rw [hf, ← hlen, List.drop_left, List.take_left]

/-- What stands in the head stands in the frame. -/
theorem fieldAt_ctrlFrame_head {at_ n : Nat} (h : at_ + n ≤ 14) :
    fieldAt (ctrlFrame mac body) at_ n = fieldAt (ctrlHead mac) at_ n := by
  rw [ctrlFrame, fieldAt, List.append_assoc, List.append_assoc, slice_append_left _ (by rwa [length_ctrlHead]), fieldAt]

/-- Up to the FCS, a frame reads as its body, zero past the body's end. -/
theorem slice_ctrlFrame_body (hbody : body.length ≤ 46) {i n : Nat} (h : i + n ≤ 46) :
    slice (ctrlFrame mac body) (14 + i) n = slice body i n := by
  obtain ⟨f, k, hlen, hf, hsplit⟩ := ctrlFrame_split (mac := mac) hbody
  have hhead : (ctrlHead mac).length ≤ 14 + i := by rw [length_ctrlHead]; omega
  rw [hf, slice_append_left _ (by omega), hsplit, slice_append_zeros, slice_append_right _ hhead, length_ctrlHead, Nat.add_sub_cancel_left]

end

theorem fieldAt_ctrlHead (mac : Nat) : fieldAt (ctrlHead mac) 0 6 = 0x0180C2000001 ∧ fieldAt (ctrlHead mac) 6 6 = mac % 2 ^ 48 ∧
    fieldAt (ctrlHead mac) 12 2 = 0x8808 := by
  rw [ctrlHead, List.append_assoc]
  refine ⟨fieldAt_toBE_append .., ?_, ?_⟩
  · rw [fieldAt_append_right _ (Nat.le_of_eq (length_toBE ..)), length_toBE]
    exact (fieldAt_toBE_append ..).trans (Nat.mod_mod ..)
  · rw [fieldAt_append_right _ (by rw [length_toBE]; decide), length_toBE, fieldAt_append_right _ (Nat.le_of_eq (length_toBE ..)), length_toBE]
    exact fieldAt_toBE 2 0x8808

theorem fieldAt_pauseBody (time : Nat) : fieldAt (pauseBody time) 0 2 = 1 ∧ fieldAt (pauseBody time) 2 2 = time % 65536 := by
  refine ⟨fieldAt_toBE_append .., ?_⟩
  rw [pauseBody, fieldAt_append_right _ (Nat.le_of_eq (length_toBE ..)), length_toBE]
  exact fieldAt_toBE 2 time

theorem fieldAt_pfcBody {vector : Nat} (time : Nat → Nat) (hvector : vector < 256) :
    fieldAt (pfcBody vector time) 0 2 = 0x0101 ∧ fieldAt (pfcBody vector time) 2 2 = vector ∧
    ∀ t < 8, fieldAt (pfcBody vector time) (4 + 2 * t) 2 = if bit vector t then time t % 65536 else 0 := by
  rw [pfcBody, List.append_assoc]
  refine ⟨fieldAt_toBE_append .., ?_, fun t ht => ?_⟩
  · rw [fieldAt_append_right _ (Nat.le_of_eq (length_toBE ..)), length_toBE]
    exact (fieldAt_toBE_append ..).trans (Nat.mod_eq_of_lt (Nat.lt_trans hvector (by decide)))
  · have hoffset : 4 + 2 * t - 2 - 2 = 2 * t := by omega
    have htime := slice_flatMap_range (fun i => length_toBE 2 (if bit vector i then time i else 0)) ht
    rw [fieldAt_append_right _ (by rw [length_toBE]; omega), length_toBE, fieldAt_append_right _ (by rw [length_toBE]; omega), length_toBE,
      hoffset, fieldAt, htime, beNat_toBE]
    cases bit vector t
    · exact Nat.zero_mod _
    · exact congrArg (time t % ·) (by decide)

/-! ## The pause frame of a port (R368) -/

/-- The body of a port's pause frame, by its FLOW_MODE. -/
def State.flowBody (s : State) (port vector : Nat) (time : Nat → Nat) : Octets :=
  if s.rd R.psch_FLOW_MODE port = 2 then pauseBody (time 0) else pfcBody vector time

section
variable (s : State) (port vector : Nat) (time : Nat → Nat)

theorem pauseFrame_eq : s.pauseFrame port vector time = ctrlFrame (s.rd R.port_MAC_ADDRESS port) (s.flowBody port vector time) :=
  rfl

theorem length_flowBody_le : (s.flowBody port vector time).length ≤ 20 := by
  unfold State.flowBody
  split
  · rw [length_pauseBody]; decide
  · exact Nat.le_of_eq (length_pfcBody ..)

/-- A pause frame reads as its body from octet 14 to the FCS. -/
theorem slice_pauseFrame {i n : Nat} (h : i + n ≤ 46) :
    slice (s.pauseFrame port vector time) (14 + i) n = slice (s.flowBody port vector time) i n := by
  rw [pauseFrame_eq]
  exact slice_ctrlFrame_body (Nat.le_trans (length_flowBody_le ..) (by decide)) h

/-- The fields that PAUSE and PFC frames share. -/
theorem pauseFrame_shared :
    let f := s.pauseFrame port vector time
    f.length = 64 ∧ fieldAt f 0 6 = 0x0180C2000001 ∧ fieldAt f 6 6 = s.rd R.port_MAC_ADDRESS port % 2 ^ 48 ∧ fieldAt f 12 2 = 0x8808 ∧
      slice f 34 26 = List.replicate 26 0 ∧ f.drop 60 = toLE 4 (crc32 0xFFFFFFFF (f.take 60)) := by
  intro f
  have hbody : (s.flowBody port vector time).length ≤ 46 := Nat.le_trans (length_flowBody_le ..) (by decide)
  have hf : f = ctrlFrame (s.rd R.port_MAC_ADDRESS port) (s.flowBody port vector time) := pauseFrame_eq ..
  have hzeros : slice f 34 26 = List.replicate 26 0 :=
    (slice_pauseFrame s port vector time (i := 20) (by decide)).trans (slice_past (length_flowBody_le ..))
  obtain ⟨hdest, hsource, htype⟩ := fieldAt_ctrlHead (s.rd R.port_MAC_ADDRESS port)
  refine ⟨hf ▸ length_ctrlFrame hbody, ?_, ?_, ?_, hzeros, hf ▸ ctrlFrame_fcs hbody⟩
  · rw [hf, fieldAt_ctrlFrame_head (by decide), hdest]
  · rw [hf, fieldAt_ctrlFrame_head (by decide), hsource]
  · rw [hf, fieldAt_ctrlFrame_head (by decide), htype]

/-- The fields of a PAUSE frame after its EtherType. -/
theorem pauseFrame_pause (h : s.rd R.psch_FLOW_MODE port = 2) :
    let f := s.pauseFrame port vector time
    fieldAt f 14 2 = 1 ∧ fieldAt f 16 2 = time 0 % 65536 ∧ slice f 18 16 = List.replicate 16 0 := by
  have hbody : s.flowBody port vector time = pauseBody (time 0) := if_pos h
  have hslice {i n : Nat} (hi : i + n ≤ 46) : slice (s.pauseFrame port vector time) (14 + i) n = slice (pauseBody (time 0)) i n :=
    hbody ▸ slice_pauseFrame s port vector time hi
  obtain ⟨hopcode, htime⟩ := fieldAt_pauseBody (time 0)
  exact ⟨(congrArg beNat (hslice (i := 0) (by decide))).trans hopcode, (congrArg beNat (hslice (i := 2) (by decide))).trans htime,
    (hslice (i := 4) (by decide)).trans (slice_past (by simp))⟩

/-- The fields of a PFC frame after its EtherType. -/
theorem pauseFrame_pfc (h : s.rd R.psch_FLOW_MODE port ≠ 2) (hvector : vector < 256) :
    let f := s.pauseFrame port vector time
    fieldAt f 14 2 = 0x0101 ∧ fieldAt f 16 2 = vector ∧
      ∀ t, t < 8 → fieldAt f (18 + 2 * t) 2 = if bit vector t then time t % 65536 else 0 := by
  have hbody : s.flowBody port vector time = pfcBody vector time := if_neg h
  have hfield {i n : Nat} (hi : i + n ≤ 46) : fieldAt (s.pauseFrame port vector time) (14 + i) n = fieldAt (pfcBody vector time) i n :=
    congrArg beNat (hbody ▸ slice_pauseFrame s port vector time hi)
  obtain ⟨hopcode, hvec, htimes⟩ := fieldAt_pfcBody time hvector
  refine ⟨(hfield (i := 0) (by decide)).trans hopcode, (hfield (i := 2) (by decide)).trans hvec, fun t ht => ?_⟩
  have hoffset : 18 + 2 * t = 14 + (4 + 2 * t) := by omega
  rw [hoffset, hfield (by omega), htimes t ht]

end

/-! ## Sending a pause frame (R365, R368) -/

/-- Two keys of registers that differ, whatever the instances. -/
theorem key_ne_of_reg {r r' : Reg} {n n' : Nat} (hn : n < 65536) (hn' : n' < 65536)
    (h : r ≠ r' ∧ r.sub < 256 ∧ r'.sub < 256 := by decide) : key r n ≠ key r' n' := by
  obtain ⟨hne, hsub, hsub'⟩ := h
  obtain ⟨index, sub⟩ := r
  obtain ⟨index', sub'⟩ := r'
  rw [key, key, Ne, keyOf_inj hn hsub hn' hsub']
  rintro ⟨rfl, -, rfl⟩
  exact hne rfl

/-- The counter of the kind of pause frame that a port sends under its FLOW_MODE. -/
def State.pauseCounter (s : State) (port : Nat) : Reg :=
  if s.rd R.psch_FLOW_MODE port = 2 then R.pcnt_TX_PAUSE else R.pcnt_TX_PFC

/-- The dictionary values that a pause frame of a port counts in. -/
def State.pauseKeys (s : State) (port : Nat) : List Nat :=
  [key R.pcnt_TX_FRAMES port, key R.pcnt_TX_BYTES port, key (s.pauseCounter port) port]

/-- One pause frame, with its vector and times, has gone out and is counted, and the port is busy with it. -/
def PauseSent (s : State) (port vector : Nat) (time : Nat → Nat) (u : State) : Prop :=
  Puts [.frame port (s.pauseFrame port vector time) false s.now] s u ∧
  u.rd R.pcnt_TX_FRAMES port = (s.rd R.pcnt_TX_FRAMES port + 1) % 2 ^ 64 ∧
  u.rd R.pcnt_TX_BYTES port = (s.rd R.pcnt_TX_BYTES port + 64) % 2 ^ 64 ∧
  u.rd (s.pauseCounter port) port = (s.rd (s.pauseCounter port) port + 1) % 2 ^ 64 ∧
  mget 0 u.prt.txEnd port = s.clk.ticks + s.wireTicks port 64 ∧ mget 0 u.trf.pauseSent port = s.clk.ticks ∧
  Only [.out, .prt, .trf] (s.pauseKeys port) s u

/-- The state with a pause frame of a port counted. -/
def State.countPause (s : State) (port : Nat) : State :=
  ((s.bump R.pcnt_TX_FRAMES port).add R.pcnt_TX_BYTES port 64).bump (s.pauseCounter port) port

theorem only_countPause (s : State) (port : Nat) : Only [] (s.pauseKeys port) s (s.countPause port) :=
  only_fold (only_fold (only_fold (only_refl ..) (only_bump s R.pcnt_TX_FRAMES port) (hk := by simp [State.pauseKeys]))
    (only_add _ R.pcnt_TX_BYTES port 64) (hk := by simp [State.pauseKeys]))
    (only_bump _ (s.pauseCounter port) port) (hk := by simp [State.pauseKeys])

/-- The counter of the kind is either, so a register that is neither has another key. -/
theorem key_ne_pauseCounter (s : State) {port n : Nat} {r : Reg} (hport : port < 768) (hn : n < 65536)
    (h : r ∉ [R.pcnt_TX_PAUSE, R.pcnt_TX_PFC] ∧ r.sub < 256 := by decide) : key r n ≠ key (s.pauseCounter port) port := by
  obtain ⟨hr, hsub⟩ := h
  simp only [List.mem_cons, List.not_mem_nil, or_false, not_or] at hr
  unfold State.pauseCounter
  split
  · exact key_ne_of_reg hn (by omega) ⟨hr.1, hsub, by decide⟩
  · exact key_ne_of_reg hn (by omega) ⟨hr.2, hsub, by decide⟩

/-- A register that no pause frame counts in keeps its value. -/
theorem rd_countPause_ne (s : State) {port n : Nat} {r : Reg} (hport : port < 768) (hn : n < 65536)
    (h : r ∉ [R.pcnt_TX_FRAMES, R.pcnt_TX_BYTES] ∧ r ∉ [R.pcnt_TX_PAUSE, R.pcnt_TX_PFC] ∧ r.sub < 256 := by decide) :
    (s.countPause port).rd r n = s.rd r n := by
  obtain ⟨hr, hkind, hsub⟩ := h
  simp only [List.mem_cons, List.not_mem_nil, or_false, not_or] at hr
  refine only_rd (only_countPause s port) r n ?_
  simp only [State.pauseKeys, List.mem_cons, List.not_mem_nil, or_false, not_or]
  exact ⟨key_ne_of_reg hn (by omega) ⟨hr.1, hsub, by decide⟩, key_ne_of_reg hn (by omega) ⟨hr.2, hsub, by decide⟩,
    key_ne_pauseCounter s hport hn ⟨hkind, hsub⟩⟩

/-- A pause frame counts once as a frame, with its 64 octets, and once as one of its kind. -/
theorem rd_countPause (s : State) {port : Nat} (hport : port < 768) :
    (s.countPause port).rd R.pcnt_TX_FRAMES port = (s.rd R.pcnt_TX_FRAMES port + 1) % 2 ^ 64 ∧
    (s.countPause port).rd R.pcnt_TX_BYTES port = (s.rd R.pcnt_TX_BYTES port + 64) % 2 ^ 64 ∧
    (s.countPause port).rd (s.pauseCounter port) port = (s.rd (s.pauseCounter port) port + 1) % 2 ^ 64 := by
  have hinst : port < 65536 := by omega
  have hframes := key_ne_pauseCounter s (r := R.pcnt_TX_FRAMES) hport hinst
  have hbytes := key_ne_pauseCounter s (r := R.pcnt_TX_BYTES) hport hinst
  have hboth : key R.pcnt_TX_FRAMES port ≠ key R.pcnt_TX_BYTES port := key_ne_of_reg hinst hinst
  simp [State.countPause, State.bump, State.add, State.rd_wr, hframes, hbytes, hboth, hframes.symm, hbytes.symm, hboth.symm]

/-- Counting a pause frame moves no time. -/
theorem now_countPause (s : State) {port : Nat} (hport : port < 768) : (s.countPause port).now = s.now := by
  have hoffset := rd_countPause_ne s (r := R.invar_OFFSET) hport (n := 0) (by omega)
  have hbase := rd_countPause_ne s (r := R.invar_BASE) hport (n := 0) (by omega)
  have hrate := rd_countPause_ne s (r := R.invar_RATE) hport (n := 0) (by omega)
  rw [State.now, State.timeAt, hoffset, hbase, hrate]
  rfl

/-- Counting a pause frame leaves the port's rate alone. -/
theorem wireTicks_countPause (s : State) {port : Nat} (len : Nat) (hport : port < 768) :
    (s.countPause port).wireTicks port len = s.wireTicks port len := by
  rw [State.wireTicks, State.rateOf, rd_countPause_ne s (r := R.port_PORT_MODE) hport (by omega)]
  rfl

/-- A pause frame sent: counted, put out, and the port busy for the ticks of 64 octets. -/
theorem sendPause_eq (s : State) {port : Nat} (hport : port < 768) (vector : Nat) (time : Nat → Nat) :
    s.sendPause port vector time = { (s.countPause port).emit (.frame port (s.pauseFrame port vector time) false s.now) with
      prt := { s.prt with
        txEnd := mput 0 s.prt.txEnd port (s.clk.ticks + s.wireTicks port 64), txLen := mput 0 s.prt.txLen port 64
        sending := mdel s.prt.sending port }
      trf := { s.trf with pauseSent := mput 0 s.trf.pauseSent port s.clk.ticks } } := by
  rw [← now_countPause s hport, ← wireTicks_countPause s 64 hport]
  rfl

/-- An output with new port and traffic state: nothing else changes. -/
theorem only_emit_prt_trf (s : State) (o : Out) (p : Ports) (q : Traffic) :
    Only [.out, .prt, .trf] [] s { s.emit o with prt := p, trf := q } :=
  only_fold (only_fold (only_mono (by simp) (by simp) (only_emit s o)) (only_prt (s.emit o) p)) (only_trf { s.emit o with prt := p } q)

/-- What sending a pause frame does. -/
theorem pauseSent_sendPause (s : State) {port : Nat} (hport : port < 768) (vector : Nat) (time : Nat → Nat) :
    PauseSent s port vector time (s.sendPause port vector time) := by
  obtain ⟨hframes, hbytes, hkind⟩ := rd_countPause s hport
  have hcount := only_mono (ps' := [.out, .prt, .trf]) (by simp) (fun _ hk => hk) (only_countPause s port)
  have hout : (s.countPause port).out = s.out := rfl
  rw [sendPause_eq s hport]
  generalize s.countPause port = c at *
  have hsend := only_emit_prt_trf c (.frame port (s.pauseFrame port vector time) false s.now)
  exact ⟨congrArg (_ :: ·) hout, (only_rd (hsend ..) _ _ List.not_mem_nil).trans hframes,
    (only_rd (hsend ..) _ _ List.not_mem_nil).trans hbytes, (only_rd (hsend ..) _ _ List.not_mem_nil).trans hkind, mget_mput_same ..,
    mget_mput_same .., only_fold hcount (hsend ..)⟩

/-- Noting a frame in the traffic and port state before it is sent changes nothing of what is sent. -/
theorem pauseSent_of_noted {s u : State} {port vector : Nat} {time : Nat → Nat} (p : Ports) (q : Traffic)
    (h : PauseSent { s with prt := p, trf := q } port vector time u) : PauseSent s port vector time u := by
  obtain ⟨hout, hframes, hbytes, hkind, hend, hsince, honly⟩ := h
  have hnoted : Only [.out, .prt, .trf] (s.pauseKeys port) s { s with prt := p, trf := q } :=
    only_fold (only_fold (only_refl ..) (only_prt s p)) (only_trf { s with prt := p } q)
  exact ⟨hout, hframes, hbytes, hkind, hend, hsince, only_trans hnoted honly⟩

/-! ## The commands (R309, R310, R114) -/

theorem mayPause_iff (s : State) (port : Nat) : s.mayPause port = true ↔
    s.portUp port = true ∧ mget 0 s.prt.txEnd port ≤ s.clk.ticks ∧ s.rd R.psch_FLOW_MODE port ≠ 0 := by
  simp [State.mayPause, State.txIdle, and_assoc]

/-- The first or the next frame of a held port is due. -/
def State.holdDue (s : State) (port : Nat) : Bool :=
  match mfind s.prt.holdSent port with
  | none => true
  | some t => s.halfPast port 0xFFFF t

theorem holdDue_iff (s : State) (port : Nat) : s.holdDue port = true ↔
    ∀ t, mfind s.prt.holdSent port = some t → s.past t (s.quantaTicks port 0xFFFF / 2) = true := by
  unfold State.holdDue
  cases mfind s.prt.holdSent port <;> simp [State.halfPast]

/-- A due frame taken from those waiting, with what it signals noted. -/
def State.dueTaken (s : State) (port : Nat) : State :=
  { s with trf := { s.trf with
      pauseDue := s.trf.pauseDue.filter (· != port)
      signalled := mput 0 s.trf.signalled port (s.xoffTcs port * 256 + s.xoffVector port) } }

/-- A held port's frame noted as sent now. -/
def State.holdNoted (s : State) (port : Nat) : State :=
  { s with prt := { s.prt with holdSent := mins s.prt.holdSent port s.clk.ticks } }

/-- The times of a frame that answers XOFF: PFC_QUANTA for the priorities in XOFF, 0 for the others. -/
def State.xoffTime (s : State) (port t : Nat) : Nat := if bit (s.xoffVector port) t then s.rd R.psch_PFC_QUANTA port else 0

section
variable (s : State) {port : Nat} (hport : port < 768)
include hport

theorem exec_pauseFrameSend : exec (.pauseFrameSend port) s = .next (State.settleOutputs
    (if !s.trf.pauseDue.contains port || !s.mayPause port || !s.grpRuns (port / 96) then s
    else (s.dueTaken port).sendPause port (Nat.lor (s.xoffVector port) (mget 0 s.trf.signalled port % 256)) (s.xoffTime port))) :=
  outcome_of (decide_eq_true hport) ..

theorem exec_pfcRefresh : exec (.pfcRefresh port) s = .next (State.settleOutputs
    (if s.xoffVector port = 0 ∨ s.trf.pauseDue.contains port = true ∨ ¬ s.mayPause port = true ∨ ¬ s.grpRuns (port / 96) = true ∨
        ¬ s.halfPast port (s.rd R.psch_PFC_QUANTA port) (mget 0 s.trf.pauseSent port) = true then s
    else s.sendPause port (s.xoffVector port) (s.xoffTime port))) :=
  outcome_of (decide_eq_true hport) ..

theorem exec_pfcHoldRefresh : exec (.pfcHoldRefresh port) s = .next (State.settleOutputs
    (if s.grpRuns (port / 96) = true ∨ s.rd R.grp_STOP_ACTION (port / 96) ≠ 1 ∨ ¬ s.mayPause port = true ∨ s.holdVector port = 0 then s
    else if !s.holdDue port then s else (s.holdNoted port).sendPause port (s.holdVector port) (fun _ => 0xFFFF))) :=
  outcome_of (decide_eq_true hport) ..

/-- With nothing due, or unable to send, or its group not RUNNING, a port sends nothing. -/
theorem pauseFrameSend_idle (h : ¬(s.trf.pauseDue.contains port = true ∧ s.mayPause port = true ∧ s.grpRuns (port / 96) = true)) :
    DoesNothing (.pauseFrameSend port) s := by
  rw [DoesNothing, exec_pauseFrameSend s hport, if_pos]
  refine Classical.byContradiction fun hguard => h ?_
  simpa only [Bool.or_eq_true, Bool.not_eq_true', not_or, Bool.not_eq_false, and_assoc] using hguard

theorem pauseFrameSend_sends (hdue : s.trf.pauseDue.contains port = true) (hable : s.mayPause port = true)
    (hruns : s.grpRuns (port / 96) = true) : Does (.pauseFrameSend port) s (fun u =>
      PauseSent s port (Nat.lor (s.xoffVector port) (mget 0 s.trf.signalled port % 256)) (s.xoffTime port) u ∧
      u.trf.pauseDue = s.trf.pauseDue.filter (· != port) ∧ mget 0 u.trf.signalled port = s.xoffTcs port * 256 + s.xoffVector port) := by
  refine does_of ((exec_pauseFrameSend s hport).trans (by rw [hdue, hable, hruns])) ?_
  exact ⟨pauseSent_of_noted _ _ (pauseSent_sendPause (s.dueTaken port) hport ..), rfl, mget_mput_same ..⟩

theorem pfcRefresh_idle (h : ¬(s.xoffVector port ≠ 0 ∧ ¬ s.trf.pauseDue.contains port = true ∧ s.mayPause port = true ∧
    s.grpRuns (port / 96) = true ∧ s.halfPast port (s.rd R.psch_PFC_QUANTA port) (mget 0 s.trf.pauseSent port) = true)) :
    DoesNothing (.pfcRefresh port) s := by
  rw [DoesNothing, exec_pfcRefresh s hport, if_pos]
  refine Classical.byContradiction fun hguard => h ?_
  simpa only [ne_eq, not_or, Classical.not_not] using hguard

theorem pfcRefresh_sends (hxoff : s.xoffVector port ≠ 0) (hdue : ¬ s.trf.pauseDue.contains port = true) (hable : s.mayPause port = true)
    (hruns : s.grpRuns (port / 96) = true) (hhalf : s.halfPast port (s.rd R.psch_PFC_QUANTA port) (mget 0 s.trf.pauseSent port) = true) :
    Does (.pfcRefresh port) s (PauseSent s port (s.xoffVector port) (s.xoffTime port)) := by
  have hguard := not_or.2 ⟨hxoff, not_or.2 ⟨hdue, not_or.2 ⟨not_not_intro hable, not_or.2 ⟨not_not_intro hruns, not_not_intro hhalf⟩⟩⟩⟩
  refine does_of ((exec_pfcRefresh s hport).trans (by rw [if_neg hguard])) ?_
  exact pauseSent_sendPause s hport ..

theorem pfcHoldRefresh_idle (h : ¬(¬ s.grpRuns (port / 96) = true ∧ s.rd R.grp_STOP_ACTION (port / 96) = 1 ∧ s.mayPause port = true ∧
    s.holdVector port ≠ 0 ∧ s.holdDue port = true)) : DoesNothing (.pfcHoldRefresh port) s := by
  rw [DoesNothing, exec_pfcHoldRefresh s hport]
  by_cases hfree : s.grpRuns (port / 96) = true ∨ s.rd R.grp_STOP_ACTION (port / 96) ≠ 1 ∨ ¬ s.mayPause port = true ∨ s.holdVector port = 0
  · rw [if_pos hfree]
  · have hheld := hfree
    simp only [ne_eq, not_or, Classical.not_not] at hheld
    obtain ⟨hstopped, haction, hable, hvector⟩ := hheld
    have hdue : s.holdDue port = false := Bool.eq_false_iff.2 fun hdue => h ⟨hstopped, haction, hable, hvector, hdue⟩
    rw [if_neg hfree, hdue, Bool.not_false, if_pos rfl]

theorem pfcHoldRefresh_sends (hstopped : ¬ s.grpRuns (port / 96) = true) (haction : s.rd R.grp_STOP_ACTION (port / 96) = 1)
    (hable : s.mayPause port = true) (hvector : s.holdVector port ≠ 0) (hdue : s.holdDue port = true) :
    Does (.pfcHoldRefresh port) s (fun u =>
      PauseSent s port (s.holdVector port) (fun _ => 0xFFFF) u ∧ mfind u.prt.holdSent port = some s.clk.ticks) := by
  refine does_of ((exec_pfcHoldRefresh s hport).trans
    (by rw [if_neg (by simp [hstopped, haction, hable, hvector]), if_neg (by simp [hdue])])) ?_
  exact ⟨pauseSent_of_noted _ _ (pauseSent_sendPause (s.holdNoted port) hport ..), mfind_mins_same ..⟩

end

end Sys2Proof.Machine

namespace Sys2Proof

open Machine

/-- Settles O52: the frame's octets are its head, body, zeros and FCS; each command is its guard and the one frame that
`State.sendPause` sends. -/
theorem pauseFramesSent : Obligations.PauseFramesSent := by
  unfold Obligations.PauseFramesSent
  intro s port hport pause quanta kind sent now due able runs refresh hold
  have hable : s.mayPause port = true ↔ able := mayPause_iff s port
  have hholdDue := holdDue_iff s port
  refine ⟨fun vector time hvector => ?octets, fun h => ?sendIdle, fun hdue h hruns => ?send, fun h => ?refreshIdle, fun h => ?refresh,
    fun h => ?holdIdle, fun h => ?hold⟩
  case octets =>
    obtain ⟨hlength, hdest, hsource, htype, hzeros, hfcs⟩ := pauseFrame_shared s port vector time
    exact ⟨hlength, hdest, hsource, htype, pauseFrame_pause s port vector time,
      fun h => pauseFrame_pfc s port vector time h hvector, hzeros, hfcs⟩
  case sendIdle => exact pauseFrameSend_idle s hport (by rwa [hable])
  case send => exact pauseFrameSend_sends s hport hdue (hable.2 h) hruns
  case refreshIdle => exact pfcRefresh_idle s hport (by rwa [hable])
  case refresh =>
    obtain ⟨hxoff, hdue, h, hruns, hhalf⟩ := h
    exact pfcRefresh_sends s hport hxoff hdue (hable.2 h) hruns hhalf
  case holdIdle => exact pfcHoldRefresh_idle s hport (by rwa [hable, hholdDue])
  case hold =>
    obtain ⟨hstopped, haction, h, hvector, hdue⟩ := h
    exact pfcHoldRefresh_sends s hport hstopped haction (hable.2 h) hvector (hholdDue.2 hdue)

end Sys2Proof
end
